-- ==== Sys2Proof/Word.lean ====
section
/-!
DEFINITION. The native word of the RZ-1848 and the other bit vectors the manual treats as bits.
"The native word is 18 bits wide everywhere" (00_scope.md, section 3.3).
-/
namespace Sys2Proof

/-- A ring word, sample code or status word (00_scope.md, section 3.3). -/
abbrev Word := BitVec 18

/-- One byte of flash, of a service request or of a vehicle message. -/
abbrev Byte := BitVec 8

/-- A factory number (Table 3-13). -/
abbrev FactoryNumber := BitVec 64

/-- The 56-bit identity of an LP-3 probe (07_probe_wire.md, section 3.1). -/
abbrev ProbeId := BitVec 56

end Sys2Proof
end

