-- ==== Sys2Proof/Syntax.lean ====
section
/-!
DEFINITION. The commands of the block: one constructor of `Instr` for each row of spec/opcode_table.json, with what
the row's event brings to the part as operands. A measured quantity, a received frame and a pin level are
operands; everything the part itself holds is in `Machine.State`.
-/
namespace Sys2Proof

/-- Port N or Port S; it is also the SIDE bit of a frame and the primary side (Table 9-2). -/
inductive Port where
  | n
  | s
  deriving DecidableEq, Repr

/-- The rails with a brown-out comparator (Table 4-1). -/
inductive Rail where
  | v5
  | v3a
  | v3d
  | v1c
  deriving DecidableEq, Repr

/-- The internal alert conditions of the buck (04_supplies_and_start.md, section 4). -/
inductive BuckAlert where
  | currentLimit
  | v5Window
  | vmodLow
  deriving DecidableEq, Repr

/-- The two legs of the active converter (R321, R322). -/
inductive Leg where
  | module
  | cell
  deriving DecidableEq, Repr

/-- The balancing units of Table 11-1. -/
inductive BalUnit where
  | pbA
  | pbB
  | active
  deriving DecidableEq, Repr

/-- The interlock channels and their test-pulse sources (17_safety_function.md, section 2). -/
inductive Loop where
  | a
  | b
  deriving DecidableEq, Repr

/-- The harvester's sources that are sampled for fractional regulation (R134). -/
inductive HarvestSource where
  | stepUp
  | rectifier (port : Port)
  deriving DecidableEq, Repr

/-- What a CAN error event means for the counters of ISO 11898-1 (R451, R455). -/
inductive CanErrorKind where
  | transmit
  | receive
  | receiveDominant
  deriving DecidableEq, Repr

/-- The data an uncorrectable flash word belongs to (Table 1-7): a log word by its address, or an item of the
calibration and seal region. -/
inductive FlashData where
  | log (addr : Nat)
  | activeSeal
  | pendingSeal
  | census
  | serviceA
  | serviceB
  deriving DecidableEq, Repr

/-- The flash errors that R485 and Table 16-6 tell apart. -/
inductive FlashError where
  | corrected
  | uncorrectableCode
  | uncorrectableData (item : FlashData)
  | bothTrimCopies
  deriving DecidableEq, Repr

/-- The 18 blocks with a status word, in summary-bit order from bit 17 down (R251). -/
inductive Block where
  | meas | div | balp | bala | portN | portS | probe | out | fan | supply | clock | mem
  | raivo | superv | strap | bist | keeper | therm
  deriving DecidableEq, Repr

/-- A frame received good under R248, its header and tail-word-2 fields already told apart (Tables 9-2, 9-4).
`reserve` tells that its start consumed the sender's reserve credit (R268); `forwarding` that a relay had begun to
forward it when its tail arrived (R216, R265). -/
structure RxFrame where
  src     : BitVec 6
  side    : Port
  deal    : Word
  hop     : BitVec 6
  seq     : BitVec 5
  payload : List Word
  reserve : Bool
  forwarding : Bool
  deriving DecidableEq, Repr

/-- What the part reads when its switched domains leave reset: the supervisor's ROM check (R483) and the ratio of
SVC_EN to V3D (R547). -/
structure BootReads where
  romOk    : Bool
  keyRatio : Rat
  deriving DecidableEq, Repr

/-- The readings complete at the aperture close of one deal (Table 6-1): primary codes before saturation (R157),
diverse raw values before clamping (R158), the current before saturation (R173), the deviation of REFP from nominal
in parts per million as DV-A and DV-B read it (R178), the die sensors D1 to D4 as temperature codes (R177) and the
VMOD/32 code (R179). -/
structure ApertureReadings where
  primary : List Int
  diverse : List Int
  current : Int
  refpA   : Int
  refpB   : Int
  die     : List Int
  vmod32  : Int
  deriving DecidableEq, Repr

/-- What a storage watch measures (R128, R129): VMOD in mV, cell readings as at an aperture, NTC ratios, the die
code, and the slot words of the second probe frame, `none` for an empty slot. -/
structure WatchReadings where
  vmodMv  : Nat
  primary : List Int
  diverse : List Int
  ntc     : List Rat
  die     : Int
  probes  : List (Option (BitVec 32))
  deriving DecidableEq, Repr

/-- What a device in LIFELINE measures before a report (R146, Table 5-4): LFS and VMOD in mV, diverse raw values, the
die code, and whether a carrier is present on each port. -/
structure LifelineReadings where
  lfsMv   : Nat
  vmodMv  : Nat
  diverse : List Int
  die     : Int
  carrierN : Bool
  carrierS : Bool
  deriving DecidableEq, Repr

/-- The outcome of a link bring-up (R215, Table 8-4). -/
inductive BringUp where
  | trained (cableDelayNs : Nat)
  | trainingFailed
  deriving DecidableEq, Repr

/-- What a FRAME_FAILURE leaves known (R248, R265, R268, R276): whether the comma was followed by a BEACON header,
whether its TYPE is reserved, whether its start consumed the reserve credit, and whether a relay had begun to forward
it. -/
structure FailedFrame where
  beacon     : Bool
  reservedType : Bool
  reserve    : Bool
  forwarding : Bool
  deriving DecidableEq, Repr

/-- The commands of the block (spec/opcode_table.json, one row each). -/
inductive Instr where
  /-- DEAL_BEACON (R302): `t` is T0, in ns of ROOT time. -/
  | dealBeacon (t : Nat)
  /-- BEACON_RECEIVED (R275): `t` is the instant of receipt, in ns of ROOT time; `cut` tells whether its comma cut off
  a frame being received and, if so, whether that frame had consumed the reserve credit (R218, R267). -/
  | beaconReceived (port : Port) (f : RxFrame) (t : Nat) (cut : Option Bool)
  /-- RELAY_DELAYED_START (R217) on the faster outgoing port. -/
  | relayDelayedStart (port : Port)
  /-- BEACON_MISSING_ON_PRIMARY (R299): deal `deal`'s beacon is missing; `t` is when its copy arrived. -/
  | beaconMissingOnPrimary (deal : Word) (t : Nat)
  | beaconTimeout
  | beaconSilenceTimeout
  | passivePause
  | apertureOpen
  /-- SAMPLING_INSTANT (R28): the ratios V(NTCk)/V(TREF) that the conversions starting here give (R164, R175). -/
  | samplingInstant (ntc : List Rat)
  /-- ACCUMULATOR_TICK (R171): the mean input over the 250 µs in current LSBs, before zero correction. -/
  | accumulatorTick (mean : Int)
  /-- BUCK_ENERGY_SAMPLE (R93): buck input voltage in mV and input current in µA. -/
  | buckEnergySample (mv ua : Nat)
  | apertureClose (r : ApertureReadings)
  /-- OPEN_WIRE_TEST_END (R182): pre-test, in-phase and recovery readings of each cell, in code units (Table 6-8). -/
  | openWireTestEnd (pre inTest recovery : List Int)
  /-- STRAP_LIVE_READ (R76): the 13 ratios in pin order. -/
  | strapLiveRead (rho : List Rat)
  | frameTick
  /-- SLOT_WORD (R201): `none` is a slot without a falling edge in its window (R200). -/
  | slotWord (slot : Fin 16) (w : Option (BitVec 32))
  | probeFrameEnd
  | dealClosure
  | publicationStart
  | canFrameComplete
  /-- CAN_FRAME_RECEIVED (R451): identifier and data of the frame, neither of which the part uses (R6). -/
  | canFrameReceived (ident : Nat) (data : List Byte)
  | canError (kind : CanErrorKind)
  | busOffRecovery
  /-- RS485_FRAME_COMPLETE (R467): the bytes read back on RS_RX while RS_DE was high (R468). -/
  | rs485FrameComplete (echo : List Byte)
  | dealBoundary
  | commandTimeout (u : BalUnit)
  | checkIn
  | checkInDeadline
  | watchdogExpiry
  | lockstepMismatch
  /-- CLOCK_MONITOR (R483): SAFE cycles counted over 10 ms of KCLK. -/
  | clockMonitor (cycles : Nat)
  | clkinFail
  | pllLock
  | pllLockLost
  | pllHoldEnd
  /-- KCLK_CALIBRATION (R21): the calibration result, in parts per million of nominal. -/
  | kclkCalibration (ppm : Int)
  | resetNAssert
  /-- RESET_N_RELEASE (R117, R142): whether VMOD, or VAUX feeding a Dealer, can start the buck. -/
  | resetNRelease (reads : BootReads) (vmodOk : Bool)
  | brownOut (rail : Rail)
  | buckStart
  | buckStop
  /-- STRAP_LATCH (R58): the two successive reads of the 13 ratios in pin order. -/
  | strapLatch (reads : BootReads) (first second : List Rat)
  /-- MEMORY_BIST (R566): failing rows of each SRAM bank beyond those fused, and whether a buffer of each port
  failed. -/
  | memoryBist (failRows : List Nat) (portNFails portSFails : Bool)
  /-- FIRMWARE_START (R559): differences of the inputs above Cn from Cn in 50 µV codes (R48), and the BKUP reading in
  mV. -/
  | firmwareStart (unpopulated : List Int) (bkupMv : Nat)
  | vauxValid
  | vauxInvalid
  | vauxAbsenceExpiry
  /-- STORAGE_ENTRY (R112): the rms dynamic acceleration of the shock summary written then, in mg (R542). -/
  | storageEntry (rmsX rmsY rmsZ : Nat)
  /-- WAKE_CARRIER_DETECT (R114): on `port`; whether VMOD is at or above the buck start threshold. -/
  | wakeCarrierDetect (port : Port) (vmodOk : Bool)
  | discoveryStart
  | storageWatch (r : WatchReadings)
  | alertN
  | internalAlert (kind : BuckAlert)
  | alertTimeout
  | energyRecord
  | countsRecord
  /-- KEEPER_SOURCE_SWITCH (R121, R122): the three sources in mV as the strobed comparators see them, and whether
  VMOD has been low for 30 s without harvested energy. -/
  | keeperSourceSwitch (vmodMv lfsMv bkupMv : Nat) (darkFor30s : Bool)
  /-- STEP_UP_START (R132): the limiter source and VMOD in mV. -/
  | stepUpStart (limiterMv vmodMv : Nat)
  | openCircuitSample (source : HarvestSource) (mv : Nat)
  | harvesterStop
  /-- POWER_GOOD_ON (R136): whether VMOD is at or above the buck start threshold, and the ports on which a carrier is
  arriving at this instant (R143). -/
  | powerGoodOn (vmodOk : Bool) (carrierN carrierS : Bool)
  | powerGoodOff
  | feedCarrierStart (port : Port)
  | feedListenWindow (port : Port)
  | feedTimeout (port : Port)
  | feedRetry (port : Port)
  | lifelineReport (r : LifelineReadings)
  | lifelineReceived (port : Port) (f : RxFrame)
  | lifelineStale (position : BitVec 6)
  /-- PROBE_DISCOVERY (R191): the identity read in each pass, in order, up to the pass that reads an empty start
  cell or the 32-pass bound. -/
  | probeDiscovery (passes : List ProbeId) (endedEmpty : Bool)
  | probeBusFault
  | pwvddLimit
  | linkUp (port : Port) (result : BringUp)
  | linkDown (port : Port)
  | otherGenerationActivity (port : Port)
  | carrierOnUpLink (port : Port)
  | l1Convert
  /-- L1_READ (R235): L1 device address, 1 to 15. -/
  | l1Read (addr : BitVec 4)
  /-- L1_REPLY (R236): the 37 reply bytes of Table 8-5. -/
  | l1Reply (bytes : List Byte)
  | l1ReplyTimeout (addr : BitVec 4)
  /-- MELD_RECEIVED (R264): `t` is the instant of receipt, in ns of ROOT time. -/
  | meldReceived (port : Port) (f : RxFrame) (t : Nat)
  | trumpReceived (port : Port) (f : RxFrame)
  | call (port : Port) (f : RxFrame)
  | answer (port : Port) (f : RxFrame)
  | sweepTimeout
  | discoveryRepeat
  | rejoinSend
  | rejoin (port : Port) (f : RxFrame)
  | sealChunk (port : Port) (f : RxFrame)
  | sealConfirm (port : Port) (f : RxFrame)
  | sealingTimeout
  | imageBlock (port : Port) (f : RxFrame)
  | imageStatus (port : Port) (f : RxFrame)
  | imageStatusSend
  | logRequest (port : Port) (f : RxFrame)
  | logRecords (port : Port) (f : RxFrame)
  | frameFailure (port : Port) (f : FailedFrame)
  /-- POISON_TAIL (R249): whether a relay had begun to forward the frame, and the credit it had consumed. -/
  | poisonTail (port : Port) (forwarding reserve : Bool)
  /-- CREDIT (R268): reserve count R and freed count F of a CREDIT or IDLE symbol. -/
  | credit (port : Port) (reserve : BitVec 1) (freed : BitVec 3)
  | ack (port : Port) (seq : BitVec 5)
  | nak (port : Port) (seq : BitVec 5)
  | skip (port : Port) (seq : BitVec 5)
  | marker (port : Port)
  /-- CONTROL_WORD_FAILED (R250): the word received after the control comma. -/
  | controlWordFailed (port : Port) (w : Word)
  | frameBoundary (port : Port)
  | ackTimeout (port : Port)
  | meldDeadline
  | ringReset
  | bleedCurrentLimit (cell : Fin 18)
  /-- BLEED_CURRENT_CHECK (R318): the switch current in µA, 1 ms after closing. -/
  | bleedCurrentCheck (cell : Fin 18) (ua : Nat)
  /-- BLEED_LEAKAGE (R319): the current in µA through a switch commanded open. -/
  | bleedLeakage (cell : Fin 18) (ua : Nat)
  /-- SWITCHING_PERIOD (R326): whether the rectifying leg was still above the zero-current threshold at T − td
  (R329), and the measured mean cell-side current in mA (R330). -/
  | switchingPeriod (rectifierNotZero : Bool) (meanMa : Nat)
  | acvPeak
  | acvZeroCurrent
  | acvPeakTimeout
  | acvDesaturation (leg : Leg)
  | acvHardShort (leg : Leg)
  | shootThrough
  | selectionConfirmed
  | selLevelTimeout
  /-- BAL_TRIP (R340): whether the pin rose while a gate was on is the converter's own state. -/
  | balTrip
  /-- AGEING_MEASUREMENT (R351): R/R0 of the reference switches of PB-A and PB-B in units of 1/4096, and the ring
  drops d of the converter and SDR regions in units of 10⁻⁵ (Table 20-7). -/
  | ageingMeasurement (ratioA ratioB dropConv dropSdr : Nat)
  /-- DIE_TRIP (R380): comparator of D1 to D4. -/
  | dieTrip (sensor : Fin 4)
  | gateTurnOn (ch : Fin 6)
  | pullInEnd (ch : Fin 6)
  | outputHardShort (ch : Fin 6)
  | inrushOvercurrent (ch : Fin 6)
  | overcurrent (ch : Fin 6)
  | overcurrentRetry (ch : Fin 6)
  | openLoad (ch : Fin 6)
  | offStateCurrent (ch : Fin 6)
  /-- PUMP_DIP (R392): pump 0 is CPA, 1 CPB, 2 CPC. -/
  | pumpDip (pump : Fin 3)
  /-- PUMP_RESTART (R404): the restart instant of a channel; microseconds since its inrush window opened. -/
  | pumpRestart (ch : Fin 6) (windowUs : Nat)
  | pumpReleaseTimeout (ch : Fin 6)
  | vswLow
  | vswRecovered
  | purgeDue
  | purgeStart
  | purgeHoldEnd
  | fanDirChange
  /-- TACH_EDGE (R413): the filtered levels after the change, and the µs time stamp of the 1 MHz sampling. -/
  | tachEdge (a b : Bool) (t : Nat)
  | tachFaultClear
  | standstill
  | fanStall
  | serviceStateRecord
  /-- TEST_PULSE (R502): the source pulsed, the pulse samples of both channels (true is high), the readbacks within
  and after the pulse in mV, and VSW in mV (R505, R506). -/
  | testPulse (src : Loop) (sampleA sampleB : Bool) (insideMv outsideMv vswMv : Nat)
  | interlockOpen (ch : Loop)
  | interlockClosed (ch : Loop)
  | interlockTrump
  | demandOpeningComplete
  | demandIntervalExpiry
  | degradedTimeExpiry
  | degradedTimerClear
  | lockClrPress
  /-- LOCK_CLR_RELEASE (R514): the hold between the filtered edges in ms (R513). -/
  | lockClrRelease (holdMs : Nat)
  /-- SRAM_ECC_ERROR (R25): the bank, whether two bits are wrong, and whether the word lies in the trace ring. -/
  | sramEccError (bank : Fin 8) (double traceRing : Bool)
  | flashEccError (kind : FlashError)
  | bufferParityError (port : Port)
  | reactionTimeout (b : Block)
  /-- LOG_WRITE (R534): whether the programming verified (R485). -/
  | logWrite (verified : Bool)
  /-- SECTOR_ERASE (R535): whether the erase verified (R485). -/
  | sectorErase (verified : Bool)
  | shockEventOpen
  /-- SHOCK_EVENT_CLOSE (R541): signed peaks of X, Y, Z in mg, the duration in 0.5 ms units and whether a sample
  saturated. -/
  | shockEventClose (peakX peakY peakZ : Int) (duration : Nat) (saturated : Bool)
  /-- SHOCK_SUMMARY (R542): rms dynamic acceleration of X, Y, Z over 5 Hz to 150 Hz in mg. -/
  | shockSummary (rmsX rmsY rmsZ : Nat)
  | packTotals
  | ident (tag : Byte)
  | logRead (tag : Byte) (position : Byte) (firstSeq : BitVec 16) (count : Byte)
  | imageLoad (tag : Byte) (scope : Byte) (firstBlock totalBlocks : Nat) (blocks : List (List Byte))
  | imageCommit (tag : Byte) (scope : Byte)
  | requestGapTimeout
  | remoteTimeout
  /-- SERVICE_KEY_REMOVED (R548): the ratio of SVC_EN to V3D at this 100 ms reading. -/
  | serviceKeyRemoved (keyRatio : Rat)
  | imageVerified
  | fuseBlow
  | bistSegment
  /-- BIST_SEGMENT_END (R580): the domains of the slice whose MISR differs from its golden value. -/
  | bistSegmentEnd (misrMatches : Bool)
  | rotationOverdue
  | bistReqPress
  /-- BIST_REQ_RELEASE (R583): how long BIST_REQ was high, in ms, and the level of TMODE (R588). -/
  | bistReqRelease (highMs : Nat) (tmode : Bool)
  /-- OFFLINE_TEST_END (R584, R589): the first failing slice, 0 for none, the signature of each domain in slice order
  with the verifier's last, and the failing rows of each SRAM bank beyond those fused. -/
  | offlineTestEnd (firstSlice : Nat) (signatures : List (BitVec 32)) (failRows : List Nat)
  /-- LFS_REACHES_3V6 (R146): the readings of the report that was held back. -/
  | lfsReaches3v6 (r : LifelineReadings)
  | fractionalRegulationStart
  /-- STEP_UP_STOP (R132). -/
  | stepUpStop
  /-- ALERT_INACTIVE (R107): the alert that ended; `none` is ALERT_N. -/
  | alertInactive (kind : Option BuckAlert)
  | balTripInactive
  | inrushWindowEnd (ch : Fin 6)
  | fanRampEnd
  | idleWatchdogService
  /-- INVALID_SERVICE_REQUEST (R550): the bytes from the function code to the CRC. -/
  | invalidServiceRequest (bytes : List Byte)
  /-- BIST_SUPPLY_MONITOR (R565): V3D in mV, outside its window. -/
  | bistSupplyMonitor (v3dMv : Nat)
  /-- TCK_RISING_EDGE (R589): the level of TMODE. -/
  | tckRisingEdge (tmode : Bool)
  deriving DecidableEq, Repr

end Sys2Proof
end

