-- ==== Sys2Proof/Config.lean ====
section
/-!
DEFINITION. What the manual leaves open, as constants without a body: a proof can lean on no value of them.
Each constant names the assumption-log row that declares it.
-/
namespace Sys2Proof.Config

/-- The free value a step draws where the manual leaves a word open; the counter is `State.freeCtr` (log 5). -/
opaque freeWord : Nat → Word

/-- Which neighbour a rational result takes when the manual gives a unit and no rounding: true means the upper
one (log 6). Exact results never consult it. -/
opaque roundsUp : Rat → Bool

/-- The temperature code of an NTC ratio that is not exactly one half: the manual gives a logarithm and no
rounding (R175, log 7). First argument: the strapped NTC type. -/
opaque ntcCode : Nat → Rat → Word

/-- 2^((25 − T)/25) at a temperature code below 25 °C at which the exponent is no whole number (R434, log 8). -/
opaque resistanceFactor : Int → Rat

/-- The temperature code that stands for a string without any admitted temperature in R434 and R435, whose result the
manual does not state (log 14). -/
opaque stringTemperature : Int

/-- The first of the two values of R435 for a string without any admitted cell, in A (log 14). -/
opaque noCellLimit : Rat

/-- The pack voltage in mV that a string without any admitted cell contributes (R436, log 14). -/
opaque noCellVoltage : Rat

/-- SHA-256 of FIPS 180-4, named by R554 and not defined in the manual (log 9). -/
opaque sha256 : List Byte → BitVec 256

/-- ECDSA P-256 verification of FIPS 186-4, named by R554 and not defined in the manual (log 9):
public key, signed bytes, signature. -/
opaque ecdsaValid : List Byte → List Byte → List Byte → Bool

/-- The trimmed maximum M of each balancing unit in units of 1/10000 of its nominal rating: PB-A 0, PB-B 1, active
converter 2; set at test, between 1.04 and 1.26 of nominal, to which every use confines it (R350, log 10). -/
opaque trimmedMax : Nat → Nat

/-- The factory trim of KCLK held in flash (R21, log 11). -/
opaque kclkTrim : Int

/-- The device's factory number, set at manufacture (Table 3-13, log 12). -/
opaque factoryNumber : FactoryNumber

/-- The fused SHA-256 hash of the image public key (R554, log 12). -/
opaque keyHash : BitVec 256

/-- The part's buck start threshold in mV, which Table 4-1 bounds by 8.2 V and 8.8 V (log 12). -/
opaque buckStart : Nat

/-- Image version and rollback number of the image a part ships with, whose bytes the manual does not give (log 12). -/
opaque shippedVersion : BitVec 16
opaque shippedRollback : BitVec 5

end Sys2Proof.Config
end

