-- ==== Sys2Proof/Machine/State.lean ====
section
/-!
DEFINITION. The whole state of one RZ-1848 as plain data: registers, buffers, counters, modes and pins, each with the
rule that names it and its value in `State.reset`, the machine right after the power-on reset of a factory-new FIELD
device (KPR has just gained power). Where the manual gives no reset value the docstring names the log row.
-/
namespace Sys2Proof.Machine

/-- Power states of Table 4-2 with the two stages of a reset. SLEEP changes only the clocking of the core, so it is
`run` here (R24, section 6.1; log 3). -/
inductive Phase where
  /-- RESET_N is low (R117). -/
  | held
  /-- Domains out of reset, boot of Table 4-6 under way. -/
  | boot
  | run
  | storage
  | lifeline
  | off
  deriving DecidableEq, Repr

/-- Life-cycle states (Table 18-10). -/
inductive LifeCycle where
  | blank | test | field | returned
  deriving DecidableEq, Repr

/-- The keeper's supply (R121). -/
inductive KeeperSource where
  | vmod | lfs | bkup
  deriving DecidableEq, Repr

/-- Fault classes (Table 16-1). -/
inductive FaultClass where
  | c | u | f
  deriving DecidableEq, Repr

/-- A fault reaction in progress (R486, R491). -/
structure Reaction where
  /-- The sticky bit that started it. -/
  bit       : Nat
  cls       : FaultClass
  /-- Deal number at which the core first saw the bit. -/
  deal      : Word
  /-- Keeper time of the start; R486 needs it for the 1 ms rule. -/
  started   : Nat
  /-- An F-class reaction lasts until reset (R486). -/
  untilReset : Bool
  deriving DecidableEq, Repr

/-- One block's status word and counters (Table 9-7, R478 to R480). -/
structure BlockState where
  /-- STICKY field, 16 bits (R478). Reset 0x0000. -/
  sticky   : BitVec 16
  /-- Occurrence counts, 16 bits saturating (R480). Reset 0. -/
  counts   : List Nat
  /-- Reaction in progress (R486). Reset none. -/
  reaction : Option Reaction
  /-- Merge count, saturating at 15; it stays where no record could be written (R487, R491). Reset 0. -/
  merges   : Nat
  /-- Interrupt pulses given since reset (R479). Reset 0. -/
  pulses   : Nat
  deriving DecidableEq, Repr

/-- Cell states of Table 6-3. -/
inductive CellState where
  | ok | rev | ovr | nocmp | divsub | disagree | mismatch | open
  deriving DecidableEq, Repr

/-- Probe states of Table 7-5. -/
inductive ProbeState where
  | valid | stale | lost | excluded
  deriving DecidableEq, Repr

/-- One probe slot (R194 to R205). -/
structure Slot where
  /-- Identity assigned to the slot; `none` while no probe holds it. -/
  ident    : Option ProbeId
  /-- Whether the slot is assigned or reserved by the census (R195). -/
  assigned : Bool
  state    : ProbeState
  /-- Last temperature code (Table 7-4). -/
  code     : Word
  hasValue : Bool
  /-- Consecutive misses (R204). -/
  misses   : Nat
  /-- The next frame is the first after assignment (R201). -/
  first    : Bool
  /-- Foreign, returned, or on a device whose census is absent: never admitted before a reset. -/
  barred   : Bool
  /-- The slot word of the frame in progress: `none` before it is judged, else whether it is good. -/
  judged   : Option Bool
  /-- The reading of the frame in progress, to be taken at its end. -/
  fresh    : Option Word
  deriving DecidableEq, Repr

/-- Frame types of Table 9-3. -/
inductive FrameType where
  | beacon | meld | trump | rollcall | lifeline | service
  deriving DecidableEq, Repr

/-- A frame queued or in flight on a port; SEQ, PAR and CRC are made when it starts (Tables 9-2, 9-4). -/
structure TxFrame where
  ftype   : FrameType
  src     : BitVec 6
  side    : Port
  deal    : Word
  hop     : BitVec 6
  payload : List Word
  /-- For a relayed frame, the port whose receive buffer holds it and whether in the reserve region (R267). -/
  slot    : Option (Port × Bool)
  deriving DecidableEq, Repr

/-- A frame sent and not yet acknowledged (R269, R270). -/
structure Unacked where
  seq       : BitVec 5
  frame     : TxFrame
  /-- Retransmissions so far, at most 3 (R270). -/
  tries     : Nat
  /-- The SEQ was abandoned and a SKIP is repeated until acknowledged (R270). -/
  abandoned : Bool
  deriving DecidableEq, Repr

/-- Control symbols of Table 9-6. -/
inductive Control where
  | credit (reserve : BitVec 1) (freed : BitVec 3)
  | ack (seq : BitVec 5)
  | nak (seq : BitVec 5)
  | idle (reserve : BitVec 1) (freed : BitVec 3)
  | marker
  | skip (seq : BitVec 5)
  deriving DecidableEq, Repr

/-- The item a port last put on its line. -/
inductive LineItem where
  | frame (f : TxFrame) (seq : BitVec 5)
  | control (c : Control)
  /-- A forwarded copy ended with the poison tail 0x3FFFF (R265). -/
  | poison (seq : BitVec 5)
  /-- A wake or feed carrier (R227). -/
  | wakeCarrier
  | feedCarrier
  /-- An L1 frame: command byte and address byte (R234). -/
  | l1 (command addr : Byte)
  deriving DecidableEq, Repr

/-- What a port has received within one deal, for the fence rules of R276. -/
inductive Seen where
  | partA (position : BitVec 6)
  | partB (position : BitVec 6)
  | legacy (position : BitVec 6) (addr : BitVec 4)
  | trump (position : BitVec 6)
  | rollcall (position : BitVec 6)
  | service (position : BitVec 6)
  | dropped
  deriving DecidableEq, Repr

/-- The feed carrier of a port (R138 to R141). -/
structure Feed where
  active        : Bool
  /-- In the 50 ms listen window of the cycle. -/
  listening     : Bool
  suspended     : Bool
  /-- Waiting for the next 600 s retry. -/
  waiting       : Bool
  /-- A LIFELINE frame has arrived since feeding began. -/
  answered      : Bool
  deriving DecidableEq, Repr

/-- One ring port with its link layer (09_ring_frames_and_flow.md, sections 5 to 8). -/
structure PortState where
  /-- Link up (R215). Reset false. -/
  up          : Bool
  /-- Link held down until reset by a U-class physical event or a failed buffer (R233, R568). Reset false. -/
  heldDown    : Bool
  /-- Fenced (R276). Reset false. -/
  fenced      : Bool
  /-- Echo-canceller training failures in a row (Table 8-4). Reset 0. -/
  trainFails  : Nat
  /-- One-way cable delay in ns (R215). Reset 0, DESIGN CHOICE, log 4. -/
  cableNs     : Nat
  /-- Next SEQ to send, 5 bits (Table 9-4). Reset 0. -/
  txSeq       : BitVec 5
  /-- Next SEQ expected, 5 bits. Reset 0. -/
  rxNext      : BitVec 5
  /-- Good frames held after a gap, and SKIPs that arrived ahead of one (R269, R270). Reset empty. -/
  heldFrames  : List (FrameType × RxFrame × Nat)
  heldSkips   : List (BitVec 5)
  /-- A NAK for `rxNext` has been sent and not answered (R269). Reset false. -/
  nakSent     : Bool
  /-- Control symbols due (R262 item 2). Reset: none due. -/
  creditDue   : Bool
  ackDue      : Option Control
  skipDue     : List (BitVec 5)
  /-- BEACON held for its 512 µs (R217). Reset none. -/
  beaconHeld  : Option TxFrame
  /-- Other frames held for the 512 µs of R217, in order. Reset empty. -/
  delayed     : List TxFrame
  /-- Transmit queues in R262 order. Reset empty. -/
  trumpQ      : List TxFrame
  retryQ      : List (BitVec 5)
  normalQ     : List TxFrame
  serviceQ    : List TxFrame
  /-- Retransmit buffer (Table 9-16). Reset empty. -/
  unacked     : List Unacked
  /-- Sender's counts of general frames started and seen freed, modulo 8 (R268). Reset 0. -/
  started     : BitVec 3
  freedSeen   : BitVec 3
  /-- Sender's reserve counts modulo 2 (R268). Reset 0. -/
  resStarted  : BitVec 1
  resFreed    : BitVec 1
  /-- Receiver's own freed counts (R268). Reset 0. -/
  freed       : BitVec 3
  reserveFreed : BitVec 1
  /-- Consecutive failures toward link-down (R273): failed frames received (`fails`), and NAKs
  and timer expiries for frames sent (`txFails`). Reset 0. -/
  fails       : Nat
  txFails     : Nat
  /-- Counters of drops (R271, R273, R274, R148). Reset 0. -/
  queueDrops  : Nat
  lifeDrops   : Nat
  /-- What this port has received in the current deal (R276). Reset empty. -/
  seen        : List Seen
  /-- SERVICE frames sent in the current deal (R261). Reset 0. -/
  serviceSent : Nat
  /-- Items started on the line at the last boundary, in order; the last is in progress until the next FRAME_BOUNDARY
  and can be cut off (R218). Reset empty. -/
  line        : List LineItem
  /-- Deal whose meld deadline of R271 has passed. Reset none. -/
  deadDeal    : Option Word
  /-- Last LIFELINE frame forwarded per source position, keeper time (R148). Reset empty. -/
  lifeSeen    : List (BitVec 6 × Nat)
  /-- Feed carrier (R138). Reset inactive. -/
  feed        : Feed
  /-- A carrier has been detected since STORAGE entry (R142, R143). Reset false. -/
  carrierSeen : Bool
  deriving DecidableEq, Repr

/-- One seal entry (Table 3-13). -/
structure SealEntry where
  factory     : FactoryNumber
  fingerprint : List Word
  deriving DecidableEq, Repr

/-- The seal record (Table 3-13). -/
structure SealRecord where
  number  : Word
  closed  : Bool
  l1Count : BitVec 4
  entries : List SealEntry
  /-- CRC-24 over the preceding fields (R259). -/
  check   : BitVec 24
  deriving DecidableEq, Repr

/-- Images in the two flash slots (Table 18-8); that a slot is armed is `NonVolatile.armedB`. -/
inductive SlotState where
  | empty | loading | verified | failed
  deriving DecidableEq, Repr

/-- One log record before SEQ and CHECK are made (Table 18-2). -/
structure LogRecord where
  rtype   : Byte
  seconds : BitVec 32
  payload : List Byte
  deriving DecidableEq, Repr

/-- One trace entry (R543). -/
structure TraceEntry where
  ttype   : Byte
  seconds : BitVec 32
  micros  : Nat
  data    : List Byte
  deriving DecidableEq, Repr

/-- Chemistry families (Table 14-1). -/
inductive Family where
  | lfp | nmc | nca | lto
  deriving DecidableEq, Repr

/-- Position states at the Dealer (Table 10-1); `vacant` is a position beyond the ring. -/
inductive PosState where
  | vacant | inRing | settling | late | dummy | foreign
  deriving DecidableEq, Repr

/-- The latest admitted LIFELINE data of a position (R149, R151). -/
structure LifelineData where
  payload : List Word
  /-- Keeper time of arrival. -/
  at_     : Nat
  stale   : Bool
  deriving DecidableEq, Repr

/-- What the Dealer holds for one position. -/
structure PosInfo where
  /-- Table 10-1. Reset vacant. -/
  state       : PosState
  /-- What the position answered at discovery or REJOIN (Table 9-14). Reset none. -/
  answer      : Option (List Word)
  /-- Parts of the deal in progress, and those of the last deal they arrived in. Reset none. -/
  partA       : Option (List Word)
  partB       : Option (List Word)
  lastA       : Option (List Word)
  lastB       : Option (List Word)
  /-- Closures in a row without the part (R294). Reset 0. -/
  missA       : Nat
  missB       : Nat
  /-- A REJOIN held for the closure (R307). Reset none. -/
  rejoin      : Option (List Word)
  /-- Admission to be made at the next closure (R308). Reset false. -/
  readmit     : Bool
  /-- A FATAL TRUMP acted on since the last closure (R494). Reset false. -/
  fatal       : Bool
  /-- Word 1 of the latest INTERLOCK TRUMP (R521). Reset 0. -/
  interlock   : Word
  /-- LIFELINE data (R151). Reset none. -/
  lifeline    : Option LifelineData
  /-- Counted as not yet completed admission for the degraded timer (R307). Reset false. -/
  outOfService : Bool
  deriving DecidableEq, Repr

/-- One translated L1 device (R234 to R238), and what the Dealer last received of it. -/
structure L1Device where
  /-- Legacy MELD payload last received or sent (R256), and the one built of this deal's reply, to be sent with the next
  deal (R235). Reset none. -/
  meld   : Option (List Word)
  next   : Option (List Word)
  /-- Deals in a row without a good reply (R238). Reset 0. -/
  misses : Nat
  absent : Bool
  present : Bool
  deriving DecidableEq, Repr

/-- A balancing job (R370). -/
structure Job where
  cell        : Nat
  unit        : BalUnit
  /-- Active jobs: true from cell to module. -/
  discharge   : Bool
  startTick   : Nat
  startEnergy : BitVec 32
  deriving DecidableEq, Repr

/-- A finished job waiting for a meld (R373). -/
structure FinishedJob where
  cell     : Nat
  unit     : BalUnit
  seconds  : Nat
  energy   : Nat
  deriving DecidableEq, Repr

/-- A throttle episode (R375). -/
structure Episode where
  reason   : Nat
  start    : Nat
  /-- When the reason last went out of force; `none` while it is in force. -/
  outAt    : Option Nat
  /-- Whole deals out of force since. -/
  outDeals : Nat
  deriving DecidableEq, Repr

/-- Stages of the active converter's selection and switching (Tables 11-4, 11-5). -/
inductive ConvStage where
  /-- No cell selected, SEL outputs at C(k−1). -/
  | unselected
  /-- A selection change toward the cell is under way. -/
  | selecting (cell : Nat)
  /-- The cell is selected and the converter idles or holds. -/
  | ready (cell : Nat)
  /-- The primary leg conducts. -/
  | primaryOn (cell : Nat)
  /-- The rectifying leg conducts. -/
  | rectifierOn (cell : Nat)
  deriving DecidableEq, Repr

/-- Stages of a load channel (R395, R398, R404). -/
inductive ChanStage where
  | off
  /-- Commanded on, pump started, gate not yet on (R392). -/
  | pumpWait
  /-- Full conduction in the pull-in time of a coil, or the inrush window of a heater or lamp. -/
  | opening
  /-- Economised hold of a coil, or steady on. -/
  | steady
  /-- Off by a pump dip, waiting to restart (R404). -/
  | dipped (inrush : Bool)
  /-- Off by a first over-current, retry pending (R399). -/
  | retryWait
  /-- Held back by the lowest state (R397, R404). -/
  | held
  deriving DecidableEq, Repr

/-- One load channel. -/
structure Channel where
  /-- Commanded on. Reset false. -/
  command  : Bool
  stage    : ChanStage
  /-- Fenced (R402). Reset false. -/
  fenced   : Bool
  /-- Keeper time of the first over-current, for the 60 s of R399. Reset none. -/
  overAt   : Option Nat
  /-- Keeper time of the gate's turn-on (R439). Reset none. -/
  onAt     : Option Nat
  /-- An off-state current has been found (R401). Reset false. -/
  offCurrent : Bool
  deriving DecidableEq, Repr

/-- One charge pump (R392, R405). -/
structure Pump where
  running : Bool
  /-- In undervoltage since a dip (R404). Reset false. -/
  under   : Bool
  /-- Keeper times of recent dips (R405). Reset empty. -/
  dips    : List Nat
  deriving DecidableEq, Repr

/-- Steps of a purge (R412). -/
inductive PurgeStep where
  | rampDown | reverse | rampUp | hold | rampBack | forward
  deriving DecidableEq, Repr

/-- Tachometer stages (R413 to R416). -/
inductive TachStage where
  | standstill
  /-- One edge since standstill: no speed yet. -/
  | first
  /-- Edges in one direction. -/
  | running
  /-- An edge reversed the direction: DIR_SETTLING. -/
  | settling
  deriving DecidableEq, Repr

/-- Pack sequence states (Table 14-3). -/
inductive PackState where
  | opened | strings | neg | precharge | pos | preOff | closed | opening
  deriving DecidableEq, Repr

/-- String commands of beacon word 6 (R252). -/
inductive StringCmd where
  | open | precharge | close | closed
  deriving DecidableEq, Repr

/-- What the pack services keep for one string (R425 to R432, R441, R448). -/
structure StringSvc where
  /-- State of charge in units of 0.01 %, exact (R425, log 6). Reset 0, and unknown. -/
  soc        : Rat
  /-- Flagged invalid (R427). Reset true. -/
  socInvalid : Bool
  /-- A value has been restored or formed since boot (R430). Reset false. -/
  socKnown   : Bool
  /-- Bound in units of 0.01 % (R430). Reset 0. -/
  bound      : Rat
  /-- Accumulator of the last deal received from the same boot; current code and keeper time of that deal (R425,
  R426). Reset none, 0, 0. -/
  lastAcc    : Option (BitVec 48)
  lastCur    : Int
  lastTick   : Nat
  /-- A restored record takes the place of the last deal (R426). Reset false. -/
  bridging   : Bool
  /-- The accumulator sequence since `lastAcc` is broken by a boot the head's meld reported (R426). Reset false. -/
  broken     : Bool
  /-- Keeper time since which the current has stayed at or below 0.02 C (R428). Reset none. -/
  restSince  : Option Nat
  /-- The first deal after this boot has been taken (R428). Reset false. -/
  firstTaken : Bool
  /-- OCV-table value of the last qualifying correction in 0.01 %, with the charge in C counted since (R431). Reset
  none, 0. -/
  lastOcv    : Option Rat
  sinceOcv   : Rat
  /-- Resistance estimate in mΩ, its reference and the steps before R_ref is set (R432). Reset none, none, empty. -/
  rS         : Option Rat
  rRef       : Option Rat
  rSteps     : List Rat
  /-- Mean admitted cell code of the last deal and the cell states of that deal; none where it was not synchronised
  (R432). Reset none, empty. -/
  lastMean   : Option Rat
  lastStates : List Nat
  /-- Extremes in units of 0.01 % (R430). Reset 0. -/
  socHigh    : Rat
  socLow     : Rat
  /-- Charge in and out in C, energy in and out in J (R448); read out modulo 2^32 in 0.1 Ah and 0.01 kWh. Reset 0. -/
  chgQ       : Rat
  disQ       : Rat
  chgE       : Rat
  disE       : Rat
  /-- Command decided, command last sent in a beacon, and keeper time of that beacon (R440, R442). Reset OPEN, OPEN, 0. -/
  cmd        : StringCmd
  sent       : StringCmd
  cmdAt      : Nat
  /-- The last sequence of the string failed, and when (R442). Reset false, 0. -/
  failed     : Bool
  failedAt   : Nat
  /-- Precharge: peak magnitude in A since pull-in ended and deals in a row at or below the threshold (R441).
  Reset 0, 0. -/
  peak       : Rat
  quiet      : Nat
  deriving DecidableEq, Repr

/-- A sealing in progress (R82 to R86). -/
structure Sealing where
  record    : SealRecord
  /-- Next SEAL_CHUNK to send (Table 9-14); two leave per deal, since a third ROLLCALL of one position within a deal
  fences a port (R276). -/
  chunk     : Nat
  confirmed : List Nat
  committed : Bool
  /-- The commit has been announced (Table 3-14); the next beacon requests the reset. -/
  announced : Bool
  deriving DecidableEq, Repr

/-- Discovery (R280 to R285). -/
structure Discovery where
  active   : Bool
  /-- Sweep under way: N first, S after it in a closed ring. -/
  sweep    : Port
  repeated : Bool
  timedOut : Bool
  /-- Positions that answered. -/
  answered : List Nat
  /-- Ring device count found (R284). -/
  found    : Nat
  /-- A repeat is due 200 ms after the end (R285). -/
  repeatDue : Bool
  done     : Bool
  deriving DecidableEq, Repr

/-- A frame of the vehicle stream: message number, page, identifier on CAN (0 on RS-485), and its bytes (R456, R457,
R466). -/
structure VFrame where
  number : Nat
  page   : Nat
  ident  : Nat
  bytes  : List Byte
  deriving DecidableEq, Repr

/-- One of the two streamers (chapter 15, section 1). -/
structure Stream where
  /-- Frames of the publication under way, the head on the line while `busy`. Reset empty, false. -/
  queue     : List VFrame
  busy      : Bool
  /-- Frames composed at the closure for the next publication (R463). Reset none. -/
  staged    : Option (List VFrame)
  /-- The frame on the line belongs to a publication that a newer one has replaced; whether that one has been counted as
  discarded (R464). Reset none. -/
  replaced  : Option Bool
  /-- Stopped until reset: CLKIN lost, streamer fenced, fatal state (R602, R580). Reset false. -/
  stopped   : Bool
  /-- Alive counter (R461). Reset 0. -/
  alive     : Byte
  /-- Rotation entry of HAND CELLS, and visits made to each position and then to each L1 address (R460). Reset 0. -/
  rotate    : Nat
  visits    : List Nat
  /-- ENERGY is due (Table 15-4). Reset true. -/
  energyDue : Bool
  deriving DecidableEq, Repr

/-- CAN error states of ISO 11898-1 (R451). -/
inductive CanState where
  | active | passive | busOff
  deriving DecidableEq, Repr

/-- A service-port request under way (R550). -/
structure Request where
  function : Byte
  tag      : Byte
  position : Byte
  deriving DecidableEq, Repr

/-- A response sent on SVC_TX (R549). -/
structure Response where
  function : Byte
  tag      : Byte
  status   : Byte
  payload  : List Byte
  deriving DecidableEq, Repr

/-- Held result of the off-line self-test (R585). -/
inductive TestResult where
  | pass
  | fail (first : Nat)
  deriving DecidableEq, Repr

/-! ### The groups of the state -/

/-- Device-level modes. -/
structure Dev where
  /-- Table 4-2. Reset boot. -/
  phase       : Phase
  /-- Fatal latch in KPR's domain controller (R492). Reset false. -/
  fatal       : Bool
  /-- The checks at the end of reset have been made in this boot. Reset false. -/
  bootChecked : Bool
  /-- Straps latched in this boot (R58). Reset false. -/
  strapped    : Bool
  /-- Raivo core started (R559). Reset false. -/
  coreStarted : Bool
  /-- Raivo core fenced (R484, R485). Reset false. -/
  coreFenced  : Bool
  /-- An SRAM bank other than MB7 is unrepairable (R567). Reset false. -/
  coreBarred  : Bool
  /-- Trace disabled (MEM bit 3, R567). Reset false. -/
  traceOff    : Bool
  /-- Deals without a check-in in a row, and one made in this deal (R484). Reset 0, false. -/
  checkMiss   : Nat
  checkedIn   : Bool
  /-- Keeper time of the last service that counted (R482). Reset 0. -/
  lastService : Nat
  /-- Supervisor watchdog running (R482). Reset true. -/
  watchdog    : Bool
  /-- RUN time since boot, in KCLK periods (R411, R480). Reset 0. -/
  runTicks    : Nat
  /-- Off-line self-test running (R584), with TMODE full test (R588). Reset false. -/
  offTest     : Bool
  /-- Ring reset pending until the beacon has been forwarded (R119). Reset false. -/
  resetPending : Bool
  /-- Entry into STORAGE under way (R112), and a wake source seen during it, VAUX or a carrier on a port (R113).
  Reset false, none. -/
  entering    : Bool
  wakePending : Option (Option Port)
  /-- Counter from which free values are drawn; the model's own field, DESIGN CHOICE 0, log 5. -/
  freeCtr     : Nat
  deriving DecidableEq, Repr

/-- The keeper KPR (Table 5-1). -/
structure Keeper where
  /-- Timebase: 32 bits of seconds and 15 of sub-second (R21). Reset 0. -/
  time        : BitVec 47
  /-- KCLK calibration value in force, ppm (R21). Reset factory trim. -/
  calib       : Int
  /-- Lock-out copy (R511). Reset: taken from flash. -/
  lockout     : Bool
  /-- Lock-out copies as found when the domains left reset (R500). Reset false. -/
  lockSeenK   : Bool
  lockSeenF   : Bool
  /-- Log pointers: write sector, record index, sequence (Table 5-1). Reset 0 by the scan of an empty log. -/
  sector      : Nat
  index       : Nat
  seq         : BitVec 16
  /-- Log pointers lost, to be rebuilt by a scan (R536). Reset true. -/
  pointersLost : Bool
  /-- Energy counter, 32 bits, mJ (R93), and the energy below 1 mJ in units of 250 fJ. Reset last logged, 0. -/
  energy      : BitVec 32
  energyPart  : Nat
  /-- The energy counter is to be taken from the log (R94). Reset true. -/
  energyLost  : Bool
  /-- VAUX-absence timer in KCLK periods; `none` is stopped and clear (R98). Reset none. -/
  vauxAbsent  : Option Nat
  /-- Latched strap levels (Table 5-1). Reset none. -/
  straps      : List (Option (Fin 32))
  /-- Last position and primary side. Reset none. -/
  lastPos     : Option (BitVec 6)
  lastSide    : Option Port
  /-- STORAGE entry time (R112). Reset none. -/
  entry       : Option Nat
  /-- Watches run since entry, skipped-watch count, watch-alarm flag (R126 to R129). Reset 0, 0, false. -/
  watches     : Nat
  skipped     : Nat
  watchAlarm  : Bool
  /-- Slot-verified flag (Table 5-1). Reset clear. -/
  slotVerified : Bool
  /-- Reset cause word, 18 bits (Table 4-5). Reset POR and KPRLOSS. -/
  cause       : Word
  /-- Supply source (R121). Reset VMOD. -/
  source      : KeeperSource
  /-- Demand-test pending flag and powered-time counter in KCLK periods (R509). Reset from flash. -/
  demand      : Bool
  powered     : Nat
  /-- Result of the off-line self-test (R585). Reset none. -/
  testResult  : Option TestResult
  /-- An off-line test was abandoned before the boot (R586). Reset false. -/
  testAbandoned : Bool
  deriving DecidableEq, Repr

/-- A service state record (R420): string values, energy totals and keeper time. -/
structure ServiceRecord where
  strings  : List StringSvc
  sohC     : Rat
  jobTotal : Nat
  time     : Nat
  /-- Which of the two copies is newer is told by a running number. -/
  number   : Nat
  deriving DecidableEq, Repr

/-- The calibration and seal region, the fuses and the slot bookkeeping: what flash keeps besides bytes
(Tables 1-7, 3-13, 18-8). -/
structure NonVolatile where
  /-- Active and pending seal copies (R80). Reset none (factory new, log 12). -/
  active      : Option SealRecord
  pending     : Option SealRecord
  /-- Census of probe identities (R194). Reset none. -/
  census      : Option (List ProbeId)
  /-- Identities and slots for storage watches (07, section 6). Reset empty. -/
  probeList   : List (Nat × ProbeId)
  /-- Lock-out copy in flash (R511). Reset false. -/
  lockout     : Bool
  /-- Demand flag and powered time (R509). Reset false, 0. -/
  demand      : Bool
  powered     : Nat
  /-- Alternating service state records (R420). Reset none. -/
  recordA     : Option ServiceRecord
  recordB     : Option ServiceRecord
  /-- Energy counter value last written to the log (R94). Reset 0. -/
  energy      : BitVec 32
  /-- Result block of the self-test: result word and signatures (R589). Reset empty. -/
  resultBlock : List (BitVec 32)
  /-- Life-cycle state (Table 18-10). Reset FIELD: every part ships in FIELD. -/
  lifeCycle   : LifeCycle
  /-- Anti-rollback fuses blown, 0 to 32 (R554). Reset 0. -/
  fuses       : Nat
  /-- Repair fuses used per SRAM bank, 0 to 2 (section 5.1 of chapter 01). Reset 0. -/
  repairs     : List Nat
  /-- Active slot (true is B) and the state of the two slots (Table 18-8). Reset A; A verified, B empty (log 12). -/
  activeB     : Bool
  slotA       : SlotState
  slotB       : SlotState
  /-- Slot armed by a commit (R557). Reset none. -/
  armedB      : Option Bool
  /-- A committed image still to run its hour (R560). Reset false. -/
  committed   : Bool
  /-- Hours of RUN since test, counted by the hourly ageing measurements (R351, Table 18-3). Reset 0, DESIGN CHOICE,
  log 12. -/
  runHours    : Nat
  /-- Slot A still holds the image the part was shipped with, whose bytes the manual does not give. Reset true, log 12. -/
  shipped     : Bool
  /-- 64-bit log words that read with an uncorrectable error, by address divided by 8 (R532). Reset empty. -/
  badWords    : List Nat
  deriving DecidableEq, Repr

/-- Straps as latched and re-read (chapter 03). -/
structure Straps where
  /-- Decoded level per pin, `none` for a pin whose two reads agree on no level (R58). Reset none. -/
  latched  : List (Option (Fin 32))
  /-- Disagreeing live reads in a row per pin (R77). Reset 0. -/
  misses   : List Nat
  /-- Strap-mismatch state (R87). Reset false. -/
  mismatch : Bool
  /-- The service key read at the end of reset (R547). Reset false. -/
  keyRead  : Bool
  deriving DecidableEq, Repr

/-- Measurement (chapter 06). -/
structure Meas where
  /-- Aperture open; passive pause in force (R154). Reset false. -/
  aperture   : Bool
  pause      : Bool
  /-- Deal of the readings held, and keeper time of the last sampling instant. Reset 0. -/
  deal       : Word
  sampledAt  : Nat
  /-- Primary and diverse codes of the last aperture (R156, R158). Reset 0, DESIGN CHOICE, log 4. -/
  primary    : List Word
  diverse    : List Word
  /-- Cell states (R159). Reset OK. -/
  cells      : List CellState
  /-- Cells reversed (R160), disagreeing on the last deal, mismatched, open, with a pending open positive. -/
  rev        : List Bool
  disagree   : List Bool
  mismatch   : List Bool
  opened     : List Bool
  openPend   : List Bool
  /-- The test is to be repeated on the next deal (R182, R183); the deal in progress carries a test. Reset false. -/
  testRepeat : Bool
  testDeal   : Bool
  /-- Consecutive REFP deviations of DV-A and DV-B (R178). Reset 0. -/
  refpA      : Nat
  refpB      : Nat
  /-- Consecutive stack-sum differences (R179). Reset 0. -/
  stack      : Nat
  /-- NTC: consecutive out-of-range deals, exclusion, codes (R176). Reset 0, false, 0x20000. -/
  ntcBad     : List Nat
  ntcOut     : List Bool
  ntc        : List Word
  /-- Die sensors: consecutive implausible deals, exclusion; die temperature (R177). Reset 0, false, 0 (log 4). -/
  dieBad     : List Nat
  dieOut     : List Bool
  die        : Word
  /-- VMOD/32 code (R179). Reset 0, log 4. -/
  vmod       : Word
  /-- Current code, overrange, invalid (R169, R172, R173). Reset 0, false, false. -/
  current    : Word
  overrange  : Bool
  curInvalid : Bool
  /-- A 4 kHz sample has saturated since the last aperture close (R173). Reset false. -/
  tickOver   : Bool
  /-- Coulomb accumulator, 48 bits (R171), and its value at the tick at S. Reset 0. -/
  acc        : BitVec 48
  accAtS     : BitVec 48
  /-- Offset samples of the window filling, and the zero correction (R172). Reset empty, 0 (log 4). -/
  offsets    : List Int
  zero       : Int
  /-- Keeper time since which every contactor and precharge output of the string has been off (R172). Reset 0. -/
  offSince   : Option Nat
  deriving DecidableEq, Repr

/-- The probe wire (chapter 07). -/
structure ProbeWire where
  /-- PWVDD on (R193). Reset off. -/
  power  : Bool
  /-- A bus fault or current limit has switched PWVDD off until reset (R206). Reset false. -/
  failed : Bool
  /-- Discovery has ended in this boot (R193). Reset false. -/
  found  : Bool
  slots  : List Slot
  /-- Identities parked (R192, R197). Reset empty. -/
  parked : List ProbeId
  /-- A frame tick has opened a frame (R198). Reset false. -/
  frame  : Bool
  deriving DecidableEq, Repr

/-- Clocks (chapter 01, section 3). -/
structure Clocks where
  /-- PLL locked (R19); holding its last frequency (R20). Reset false, false. -/
  locked   : Bool
  holding  : Bool
  /-- ROOT taken from CLKIN; CLKIN failed since reset (R602). Reset false, false. -/
  clkin    : Bool
  clkinFailed : Bool
  /-- SAFE within ±1 % of nominal at the last clock monitor (R565). Reset true. -/
  safeOk   : Bool
  /-- V3D inside its window (R565). Reset true. -/
  v3dOk    : Bool
  deriving DecidableEq, Repr

/-- The device's place in the ring and what the beacons gave it (chapters 01 and 10). -/
structure Ring where
  /-- Position, `none` before one is taken (R281). Reset none; a Dealer holds 0. -/
  pos        : Option (BitVec 6)
  /-- Cumulative latencies in ns for the beacon received on Port S and on Port N (R282). Reset none. -/
  latS       : Option Nat
  latN       : Option Nat
  /-- Primary side (R279). Reset Port S. -/
  primary    : Port
  /-- Ring device count in use (R278). Reset 48. -/
  count      : Nat
  /-- Current deal number and whether a beacon has been accepted since boot. Reset 0, false. -/
  deal       : Word
  dealing    : Bool
  /-- The beacon of the deal in progress came before its predicted boundary (R26, R275). Reset false. -/
  ahead      : Bool
  /-- Keeper time of the last accepted beacon. Reset 0. -/
  beaconAt   : Nat
  /-- The beacon of the deal in progress has been taken on the primary side; a copy came on the other side. -/
  gotPrimary : Bool
  gotOther   : Bool
  /-- T0 of the deal in progress in ns of ROOT time, predicted or confirmed, and the correction to apply (R286).
  Reset 0. -/
  t0         : Int
  phaseFix   : Int
  /-- PRED and UNSYNC for the next meld (Table 9-10). Reset false. -/
  pred       : Bool
  unsync     : Bool
  /-- Period code in force, announced code and its deal number (Table 9-9). Reset from straps; none. -/
  period     : Nat
  announced  : Option (Nat × Word)
  /-- Target, band, share, ring-wide reason (words 7 to 9, RTHR). Reset 0. -/
  target     : Word
  band       : Word
  share      : Nat
  rthr       : Nat
  /-- String commands for strings 2 to 4 (word 6). Reset OPEN. -/
  cmds       : List StringCmd
  /-- LOCK of the accepted beacon, ring closed (Table 9-8). Reset false, false. -/
  lock       : Bool
  closed     : Bool
  /-- The Dealer's seal number as the last CALL or beacon gave it (Table 9-14). Reset 0. -/
  dealerSeal : Word
  /-- Own bit in the admitted map of the last beacon, and whether the device is in service: its bit set in the first
  beacon after a discovery it answered, or gone from clear to set (R290, R291, R306). Reset false. -/
  bitSet     : Bool
  admitted   : Bool
  /-- The last beacon was taken with a position held, so that `bitSet` is the bit of that position. Reset false. -/
  bitKnown   : Bool
  /-- SETTLING melds still to send (R291). Reset 3. -/
  settle     : Nat
  /-- First meld after boot still to send (RCAUSE). Reset true. -/
  firstMeld  : Bool
  /-- Reset cause word kept for that meld and the ANSWER. Reset as the keeper's. -/
  causeWord  : Word
  /-- An ANSWER was sent in this boot's discovery (R291). Reset false. -/
  answered   : Bool
  /-- REJOIN repeat: deals until the next, deal of the last one, and refused (R306). Reset 0, none, false. -/
  rejoinIn   : Nat
  rejoinSent : Option Word
  refused    : Bool
  /-- Seal record being received in SEAL_CHUNKs (Table 9-14). Reset none. -/
  sealBuf    : Option SealRecord
  /-- FATAL TRUMP repeats left and its payload (R493). Reset 0, empty. -/
  fatalLeft  : Nat
  fatalTrump : List Word
  /-- Deals counted by this device since boot, for R342-style windows. Reset 0. -/
  deals      : Nat
  deriving DecidableEq, Repr

/-- The Dealer's ring management (chapters 09, 10, 12). -/
structure Dealer where
  positions  : List PosInfo
  l1         : List L1Device
  discovery  : Discovery
  /-- A deal is open between its beacon and its closure. Reset false. -/
  open_      : Bool
  /-- T0 of the open deal and the latest arrival of an admitted meld, in ns of ROOT time. Reset 0. -/
  t0         : Nat
  lastMeld   : Nat
  /-- Payload of the last beacon sent, by which a copy that comes back is known. Reset empty. -/
  sent       : List Word
  /-- First beacon after discovery still to leave (R285). Reset true. -/
  firstBeacon : Bool
  /-- Beacons stopped for STORAGE or off-line test (R112, R584). Reset false. -/
  stopped    : Bool
  /-- Consecutive late and fast deals, announcements left (R296, R297). Reset 0. -/
  lateRun    : Nat
  fastRun    : Nat
  announceLeft : Nat
  /-- TRUMPs acted on: source, deal, cause, item (R266). Reset empty. -/
  trumps     : List (BitVec 6 × Word × Nat × Nat)
  trumpDrops : Nat
  /-- MELDs that came after closure, REJOINs refused, LIFELINE frames dropped. Reset 0. -/
  lateMelds  : Nat
  lifeDrops  : Nat
  mgtMissing : Nat
  /-- Kitty period start in ns of ROOT time, present devices (R354, R355). Reset 0, empty. -/
  kittyStart : Nat
  present    : List Nat
  /-- Target and band computed since boot (R363). Reset none. -/
  target     : Option Word
  /-- CURRENT in force, and keeper time since which every current is at or below 0.4 C (R364). Reset false, none. -/
  current    : Bool
  calmSince  : Option Nat
  /-- Ring-scope episodes: start and final durations of CURRENT and PACE (R377). Reset none, 0. -/
  curEp      : Option Nat
  curDur     : Nat
  paceEp     : Option Nat
  paceDur    : Nat
  /-- Ring reset to request in the next beacon (R310). Reset false. -/
  wantReset  : Bool
  /-- Sealing in progress (R83). Reset none. -/
  sealing    : Option Sealing
  /-- A device other than the Dealer has sent a beacon (STRAP bit 6). Reset false. -/
  rival      : Bool
  /-- Jobs finished in the kitty period and in the last one (Table 15-11). Reset 0. -/
  jobsNow    : Nat
  jobsLast   : Nat
  deriving DecidableEq, Repr

/-- Pack services (chapter 14). -/
structure Services where
  strings   : List StringSvc
  /-- Capacity ratio (R431). Reset 1. -/
  sohC      : Rat
  /-- Ring total of job energies in mJ (R448). Reset 0. -/
  jobTotal  : Nat
  /-- Published pack limits in A and W (R436, R437), and the strings that set them. Reset 0. -/
  limDis    : Rat
  limChg    : Rat
  powDis    : Rat
  powChg    : Rat
  limStrD   : Nat
  limStrC   : Nat
  derated   : Bool
  /-- Keeper time of the last closure at which limits were formed (R437). Reset 0. -/
  limAt     : Nat
  /-- Pack state and when it was entered (R439, R442). Reset OPEN. -/
  pack      : PackState
  packAt    : Nat
  /-- Keeper time of the last pack failure (R442). Reset none. -/
  failedAt  : Option Nat
  /-- Pack precharge supervision (R441). Reset 0. -/
  peak      : Rat
  quiet     : Nat
  /-- A sequenced opening ends in STORAGE (R99). Reset false. -/
  toStorage : Bool
  /-- The opening has passed its wait: OC1 is off (R443). Reset false. -/
  oc1Off    : Bool
  /-- STORAGE lasted 30 min or more before this boot (R428). Reset false. -/
  rested    : Bool
  /-- READY (R472) is to rise at the next T0. Reset false. -/
  readyNext : Bool
  /-- Running number of the service state records (R420). Reset 0. -/
  recordNo  : Nat
  deriving DecidableEq, Repr

/-- Balancing hardware and jobs (chapters 11 and 12). -/
structure Balance where
  /-- Bleed switches commanded on (R315). Reset false. -/
  closed     : List Bool
  /-- Switches open for the rest of the deal, and fenced (R317, R318). Reset false. -/
  tripped    : List Bool
  fenced     : List Bool
  /-- Deal counts of current-limit trips per switch (R317). Reset empty. -/
  trips      : List (List Nat)
  /-- Consecutive low-current and leaking deals per switch (R318, R319). Reset 0. -/
  lowRun     : List Nat
  leakRun    : List Nat
  /-- Deal counts of the last measured and of the last leaking deal per switch (R318, R319). Reset none. -/
  lowAt      : List (Option Nat)
  leakAt     : List (Option Nat)
  /-- Cell reported by a leakage fence (R319). Reset none. -/
  leakCell   : Option Nat
  /-- Banks fenced (R319, R382). Reset false. -/
  fenceA     : Bool
  fenceB     : Bool
  /-- Active converter. Reset unselected, not fenced. -/
  stage      : ConvStage
  acvFenced  : Bool
  /-- ACV and SDR are powered, and an active job has run in the deal so far (Table 1-5). Reset false. -/
  acvOn      : Bool
  acvBusy    : Bool
  discharge  : Bool
  /-- Commanded cell-side current in mA, exact (R367). Reset 0. -/
  command    : Rat
  /-- Enabled periods of the soft start done, 0 to 32 (R331). Reset 0. -/
  soft       : Nat
  /-- The rest of the period, or the next period, is skipped (R328, R329). Reset false. -/
  skipNext   : Bool
  /-- Stopped until the next deal boundary (R335, R336). Reset false. -/
  stopped    : Bool
  /-- A cell to select after a full change when the converter resumes. Reset none. -/
  wanted     : Option Nat
  /-- Desaturation trips in this deal, legs seen in this period, stops on deals in a row (R335, R337). Reset 0. -/
  desats     : Nat
  legsHit    : List Leg
  desatStops : Nat
  desatStopped : Bool
  /-- Deal counts of hard shorts and BAL_TRIP latches (R336, R342). Reset empty. -/
  shorts     : List Nat
  trips64    : List Nat
  /-- BAL_TRIP latch, pin state, inactive for 50 µs, refused clears (R340 to R342). Reset: pin read as asserted
  only when high; latch clear. -/
  latch      : Bool
  pin        : Bool
  refused    : Nat
  /-- Jobs running, finished jobs waiting for a meld (R370, R373). Reset empty. -/
  jobs       : List Job
  finished   : List FinishedJob
  jobsLogged : Nat
  jobEnergy  : Nat
  /-- Baseline power in mW (R372), with the start of the period being averaged: keeper time, energy and whether it
  is still idle. Reset none. -/
  baseline   : Option Rat
  baseStart  : Option (Nat × BitVec 32)
  /-- Renewals: deals since the core last renewed each unit (R368). Reset 0. -/
  renewed    : Bool
  /-- Throttle episodes running and final records to send (R375, R376). Reset empty. -/
  episodes   : List Episode
  finals     : List (Nat × Nat)
  /-- Cells excluded by the margins of R366 (LIMIT) and units held by an allowance (KITTY). Reset false. -/
  limitOn    : Bool
  kittyOn    : Bool
  /-- Die trip in force, comparators tripped, keeper times of trips (R380 to R382). Reset false, empty. -/
  dieTrip    : Bool
  comparators : List Bool
  dieTrips   : List Nat
  /-- Ageing factors of PB-A, PB-B and the converter, whether each of the four monitors has reported its limit in this
  boot, and the RUN time at which the readings were last logged (R350 to R352). Reset: none measured, none reported. -/
  ageing     : List (Option Rat)
  aged       : List Bool
  agedAt     : Option Nat
  deriving DecidableEq, Repr

/-- Load outputs (chapter 13). -/
structure Outputs where
  channels : List Channel
  pumps    : List Pump
  /-- VSW above its low threshold (R406). Reset true. -/
  vswOk    : Bool
  /-- Heater wanted by the heating rule (R446). Reset false. -/
  heater   : Bool
  deriving DecidableEq, Repr

/-- Fan (chapter 13, sections 7 and 8). -/
structure Fan where
  /-- Duty and target of the ramp in steps of 1/480 (R408). Reset 0. -/
  duty      : Nat
  target    : Nat
  /-- FAN_DIR high is reverse (R408). Reset low. -/
  reverse   : Bool
  /-- Purge in progress (R412), due (R411), frozen by the lowest state. Reset none, false, false. -/
  purge     : Option PurgeStep
  due       : Bool
  frozen    : Bool
  /-- Thermal rule's state: running at or above 30 % (R447). Reset false. -/
  warm      : Bool
  /-- Tachometer: filtered levels, stage, direction, edge times in µs newest first (R413). Reset standstill. -/
  tachA     : Bool
  tachB     : Bool
  stage     : TachStage
  forward   : Bool
  times     : List Nat
  /-- Times of invalid transitions (R417). Reset empty. -/
  invalid   : List Nat
  /-- Tachometer fault and stall (R417). Reset false. -/
  tachFault : Bool
  stall     : Bool
  /-- Keeper times at which the duty reached 0 and of the last tachometer edge, or of the reset (R410, R415). Reset:
  the instant of the reset. -/
  zeroAt    : Nat
  edgeAt    : Nat
  deriving DecidableEq, Repr

/-- Supplies and alerts (chapter 04). -/
structure Supply where
  /-- VAUX valid (R97); buck running (R89) and from VAUX (R96). Reset false, true, false. -/
  vaux      : Bool
  buck      : Bool
  fromVaux  : Bool
  /-- Alerts active: ALERT_N, current limit, V5 window, VMOD low (R104). Reset false. -/
  alerts    : List Bool
  /-- Keeper time at which the last alert ended (R107). Reset 0. -/
  quietAt   : Nat
  /-- Lowest state (R105), its start, and held until reset (R108). Reset false. -/
  lowest    : Bool
  lowestAt  : Nat
  lowestHeld : Bool
  /-- Ports' TREF bias on (R164). Reset off. -/
  tref      : Bool
  deriving DecidableEq, Repr

/-- Harvester and LIFELINE reporting (chapter 05). -/
structure Lifeline where
  /-- Step-up running, regulated from 2.0 V (R132, R134), charging stopped at 5.0 V (R135). Reset false. -/
  stepUp    : Bool
  regulated : Bool
  full      : Bool
  /-- Operating points of the step-up and the rectifiers of Port N and Port S, in units of 0.1 mV (R134). Reset 0. -/
  pointUp   : Nat
  pointN    : Nat
  pointS    : Nat
  /-- Lifeline power-good (R136). Reset off. -/
  good      : Bool
  /-- Reports sent since entry, unacknowledged ones in a row and in all, a report held back below 3.6 V, the last report
  still without acknowledgement (R146, R147). Reset 0, 0, 0, false, false. -/
  reports   : Nat
  unacked   : Nat
  unackedAll : Nat
  heldBack  : Bool
  awaiting  : Bool
  /-- Port of the last feed carrier, and the port in use (R147). Reset none, Port N. -/
  carrier   : Option Port
  port      : Port
  deriving DecidableEq, Repr

/-- Safety function (chapter 17). -/
structure Safety where
  /-- Channels open (R504). Reset: the interlock is deemed open during reset. -/
  openA     : Bool
  openB     : Bool
  /-- Consecutive wrong pulse cycles per channel, and wrong readback cycles per source (R505, R506). Reset 0. -/
  crossA    : Nat
  crossB    : Nat
  /-- What the TPA pulse of the cycle in progress showed of each channel: wrong or right, `none` where it is not judged
  (R505). Reset none. -/
  halfA     : Option Bool
  halfB     : Option Bool
  srcA      : Nat
  srcB      : Nat
  /-- Faults that hold the interlock open until reset (R505, R506). Reset false. -/
  crossShort : Bool
  srcFault  : Bool
  /-- Keeper time since which both channels are open together; a demand opening of 100 ms has been seen (R507). -/
  bothSince : Option Nat
  qualified : Bool
  /-- Keeper time since which the interlock reads closed (R507). Reset none. -/
  closedAt  : Option Nat
  /-- The opening being measured began after the flag was last made pending (R508). Reset false. -/
  afterPend : Bool
  /-- A clear or a sealing made the flag pending in this boot: only an opening after the next boot counts (R508). Reset
  false. -/
  untilBoot : Bool
  /-- LOCK_CLR hold being measured (R513). Reset false. -/
  pressed   : Bool
  /-- Degraded timer in KCLK periods, running, keeper time since which no condition is present, expired
  (R515, R517). Reset 0. -/
  degraded  : Nat
  running   : Bool
  clearAt   : Option Nat
  expired   : Bool
  /-- A String Head's own opening: refuse until an OPEN command (R519). Reset false. -/
  refuse    : Bool
  /-- Deals since the last INTERLOCK TRUMP (R521). Reset 0. -/
  ilkDeals  : Nat
  deriving DecidableEq, Repr

/-- Vehicle interfaces (chapter 15). -/
structure Vehicle where
  /-- The CAN and the RS-485 streamer. -/
  canOut    : Stream
  rsOut     : Stream
  /-- Error counters and state of ISO 11898-1 (R451). Reset 0, 0, error-active. -/
  tecCount  : Nat
  recCount  : Nat
  can       : CanState
  /-- Keeper times of bus-offs within the hour (R455). Reset empty. -/
  busOffs   : List Nat
  /-- Deal number of the last closure (Table 15-5). Reset 0. -/
  closedDeal : Word
  /-- Deals counted from deal 0 or the last period change (R462). Reset 0. -/
  pubDeal   : Nat
  deriving DecidableEq, Repr

/-- Status and other driven pins (Table 2-4). An open-drain pin is true when asserted (low). -/
structure Pins where
  /-- Pins driven: false where Table 2-4 gives high impedance or released. Reset true. -/
  driven   : Bool
  faultN   : Bool
  warnN    : Bool
  lockN    : Bool
  ready    : Bool
  /-- SOC_PWM duty in steps of 1/12000, 0 is low (R473). Reset low. -/
  socPwm   : Nat
  bistOk   : Bool
  /-- TPA and TPB sources on (R502). Reset 0 V. -/
  testPulses : Bool
  /-- TDO level in TEST and RETURN, `none` is high impedance (R589). Reset high impedance. -/
  tdo      : Option Bool
  deriving DecidableEq, Repr

/-- Log, shock log and trace (chapter 18). -/
structure Logs where
  /-- Records waiting for flash, at most 64 (R537), and how many were dropped since the last LOSS record. Reset
  empty, 0. -/
  queue    : List LogRecord
  lost     : Nat
  /-- The erase of the sector after the write sector is due (R535). Reset false. -/
  eraseDue : Bool
  /-- Torn slots skipped at boot (R536). Reset 0. -/
  torn     : Nat
  /-- Trace ring of 512 entries, oldest first, and entries written since the last flush (R545). Reset empty. -/
  trace    : List TraceEntry
  unflushed : Nat
  /-- Keeper times of SHOCK EVENT records within the hour (R541); an event is open (R540). Reset empty, false. -/
  shocks   : List Nat
  shockOpen : Bool
  /-- Summary period: largest peaks, counts of 3 g and 10 g events per axis, events by duration (R542). Reset 0. -/
  peaks    : List Nat
  events3  : List Nat
  events10 : List Nat
  byTime   : List Nat
  deriving DecidableEq, Repr

/-- Service port and image loading (chapter 18, sections 5 and 6). -/
structure Service where
  /-- Port open (R548). Reset false. -/
  open_     : Bool
  /-- Request under way (R550). Reset none. -/
  request   : Option Request
  /-- Last response on SVC_TX (R549). Reset none. -/
  response  : Option Response
  /-- Load: next block expected, total blocks, ring scope (R555). Reset 0. -/
  nextBlock : Nat
  total     : Nat
  ringScope : Bool
  /-- Commit held pending (R558): scope. Reset none. -/
  pendCommit : Option Bool
  /-- Distribution under way: next block to send (R556). Reset none. -/
  distribute : Option Nat
  /-- Next block and status last reported by each position (R556), and the positions that have committed (R557). Reset
  empty. -/
  reported  : List (Nat × Nat × Nat)
  committed : List Nat
  /-- SERVICE frames that wait for a later deal, the count of R261 being used up. Reset empty. -/
  held      : List (Port × List Word)
  /-- Bits of the result block already shifted out (R589). Reset 0. -/
  shifted   : Nat
  deriving DecidableEq, Repr

/-- Self-test (chapter 19). -/
structure Bist where
  /-- Slice in progress, 1 to 24, and segments of it done (R571). Reset 1, 0. -/
  slice     : Nat
  done      : Nat
  /-- Deal of the last segment, and a rest deal to come (R571). Reset none. -/
  lastDeal  : Option Word
  restDeal  : Option Word
  /-- The slice is being repeated after a mismatch (R580). Reset false. -/
  again     : Bool
  /-- A segment runs (R570). Reset false. -/
  running   : Bool
  /-- Slice whose segment replaced readings in the deal in progress (Table 19-1, window A or T). Reset 0. -/
  taken     : Nat
  /-- Keeper time of the rotation's start, reported overdue (R581). Reset none, false. -/
  started   : Option Nat
  overdue   : Bool
  /-- Slices fenced after a mismatch (R580). Reset empty. -/
  fenced    : List Nat
  /-- A BIST_REQ level is being measured (R582). Reset false. -/
  pressed   : Bool
  /-- The off-line test runs with TMODE high, with fuse repair (R588). Reset false. -/
  full      : Bool
  deriving DecidableEq, Repr

/-- The whole machine. -/
structure State where
  dev      : Dev
  keeper   : Keeper
  nv       : NonVolatile
  /-- The flash as bytes in canonical form; an unlisted address reads 0xFF (Table 1-7, log 2). Reset: nothing
  listed. -/
  flash    : List Host.Cell
  straps   : Straps
  meas     : Meas
  probes   : ProbeWire
  clocks   : Clocks
  portN    : PortState
  portS    : PortState
  ring     : Ring
  dealer   : Dealer
  services : Services
  balance  : Balance
  outputs  : Outputs
  fan      : Fan
  supply   : Supply
  life     : Lifeline
  safety   : Safety
  vehicle  : Vehicle
  pins     : Pins
  logs     : Logs
  service  : Service
  bist     : Bist
  /-- Status words of the 18 blocks in `Block` order (R477). Reset clear. -/
  faults   : List BlockState
  /-- Commands that are waiting, first in, first out. Reset empty. -/
  pending  : List Instr
  deriving DecidableEq, Repr

/-! ### Reset values of the groups -/

/-- No sticky bit, count or reaction (R495). -/
def BlockState.reset : BlockState :=
  { sticky := 0, counts := List.replicate 16 0, reaction := none, merges := 0, pulses := 0 }

/-- An unassigned probe slot. -/
def Slot.empty : Slot :=
  { ident := none, assigned := false, state := .lost, code := 0, hasValue := false, misses := 0, first := false,
    barred := false, judged := none, fresh := none }

/-- No feed carrier. -/
def Feed.off : Feed :=
  { active := false, listening := false, suspended := false, waiting := false, answered := false }

/-- A port out of reset: link down, every count at 0 (R268). -/
def PortState.reset : PortState :=
  { up := false, heldDown := false, fenced := false, trainFails := 0, cableNs := 0, txSeq := 0, rxNext := 0,
    heldFrames := [], heldSkips := [], nakSent := false, creditDue := false, ackDue := none, skipDue := [],
    beaconHeld := none, delayed := [], trumpQ := [], retryQ := [], normalQ := [], serviceQ := [], unacked := [],
    started := 0, freedSeen := 0, resStarted := 0, resFreed := 0, freed := 0, reserveFreed := 0, fails := 0, txFails := 0,
    queueDrops := 0, lifeDrops := 0, seen := [], serviceSent := 0, line := [], deadDeal := none, lifeSeen := [], feed := Feed.off,
    carrierSeen := false }

/-- A position about which nothing is known. -/
def PosInfo.vacant : PosInfo :=
  { state := .vacant, answer := none, partA := none, partB := none, lastA := none, lastB := none, missA := 0,
    missB := 0, rejoin := none, readmit := false, fatal := false, interlock := 0, lifeline := none,
    outOfService := false }

/-- An L1 address at which no device is known. -/
def L1Device.none : L1Device := { meld := Option.none, next := Option.none, misses := 0, absent := false, present := false }

/-- Device modes after a power-on reset. -/
def Dev.reset : Dev :=
  { phase := .boot, fatal := false, bootChecked := false, strapped := false, coreStarted := false,
    coreFenced := false, coreBarred := false, traceOff := false, checkMiss := 0, checkedIn := false,
    lastService := 0, watchdog := true, runTicks := 0, offTest := false, resetPending := false, entering := false,
    wakePending := none, freeCtr := 0 }

/-- The keeper when KPR has just gained power (Table 5-1, third column). -/
def Keeper.reset : Keeper :=
  { time := 0, calib := Config.kclkTrim, lockout := false, lockSeenK := false, lockSeenF := false, sector := 0,
    index := 0, seq := 0, pointersLost := true, energy := 0, energyPart := 0, energyLost := true, vauxAbsent := none,
    straps := List.replicate 13 none, lastPos := none, lastSide := none, entry := none, watches := 0, skipped := 0,
    watchAlarm := false, slotVerified := false, cause := 0x00401, source := .vmod, demand := false, powered := 0,
    testResult := none, testAbandoned := false }

/-- The non-volatile part of a factory-new FIELD device (log 12). -/
def NonVolatile.factory : NonVolatile :=
  { active := none, pending := none, census := none, probeList := [], lockout := false, demand := false, powered := 0,
    recordA := none, recordB := none, energy := 0, resultBlock := [], lifeCycle := .field, fuses := 0,
    repairs := List.replicate 8 0, activeB := false, slotA := .verified, slotB := .empty, armedB := none,
    committed := false, runHours := 0, shipped := true, badWords := [] }

/-- No strap latched. -/
def Straps.reset : Straps :=
  { latched := List.replicate 13 none, misses := List.replicate 13 0, mismatch := false, keyRead := false }

/-- No reading taken. -/
def Meas.reset : Meas :=
  { aperture := false, pause := false, deal := 0, sampledAt := 0, primary := List.replicate 18 0, diverse := List.replicate 18 0,
    cells := List.replicate 18 .ok, rev := List.replicate 18 false, disagree := List.replicate 18 false,
    mismatch := List.replicate 18 false, opened := List.replicate 18 false, openPend := List.replicate 18 false,
    testRepeat := false, testDeal := false, refpA := 0, refpB := 0, stack := 0, ntcBad := List.replicate 8 0,
    ntcOut := List.replicate 8 false, ntc := List.replicate 8 0x20000, dieBad := List.replicate 4 0,
    dieOut := List.replicate 4 false, die := 0, vmod := 0, current := 0, overrange := false, curInvalid := false, tickOver := false,
    acc := 0, accAtS := 0, offsets := [], zero := 0, offSince := some 0 }

/-- PWVDD off, no slot assigned. -/
def ProbeWire.reset : ProbeWire :=
  { power := false, failed := false, found := false, slots := List.replicate 16 Slot.empty, parked := [],
    frame := false }

/-- ROOT on the internal oscillator (Table 4-6). -/
def Clocks.reset : Clocks :=
  { locked := false, holding := false, clkin := false, clkinFailed := false, safeOk := true, v3dOk := true }

/-- No position, no beacon (R278, R279). -/
def Ring.reset : Ring :=
  { pos := none, latS := none, latN := none, primary := .s, count := 48, deal := 0, dealing := false, ahead := false, beaconAt := 0,
    gotPrimary := false, gotOther := false, t0 := 0, phaseFix := 0, pred := false, unsync := false, period := 0,
    announced := none, target := 0, band := 0, share := 0, rthr := 0, cmds := List.replicate 3 .open, lock := false,
    closed := false, dealerSeal := 0, bitSet := false, admitted := false, bitKnown := false, settle := 3, firstMeld := true, causeWord := 0x00401, answered := false,
    rejoinIn := 0, rejoinSent := none, refused := false, sealBuf := none, fatalLeft := 0, fatalTrump := [], deals := 0 }

/-- No discovery made. -/
def Discovery.idle : Discovery :=
  { active := false, sweep := .n, repeated := false, timedOut := false, answered := [], found := 1,
    repeatDue := false, done := false }

/-- The Dealer's tables before discovery. -/
def Dealer.reset : Dealer :=
  { positions := List.replicate 48 PosInfo.vacant, l1 := List.replicate 15 L1Device.none,
    discovery := Discovery.idle, open_ := false, t0 := 0, lastMeld := 0, sent := [], firstBeacon := true, stopped := false,
    lateRun := 0, fastRun := 0, announceLeft := 0, trumps := [], trumpDrops := 0, lateMelds := 0, lifeDrops := 0,
    mgtMissing := 0, kittyStart := 0, present := [], target := none, current := false, calmSince := none,
    curEp := none, curDur := 0, paceEp := none, paceDur := 0, wantReset := false, sealing := none, rival := false,
    jobsNow := 0, jobsLast := 0 }

/-- A string of which nothing has been measured. -/
def StringSvc.reset : StringSvc :=
  { soc := 0, socInvalid := true, socKnown := false, bound := 0, lastAcc := none, lastCur := 0, lastTick := 0,
    bridging := false, broken := false, restSince := none, firstTaken := false, lastOcv := none, sinceOcv := 0, rS := none, rRef := none, rSteps := [],
    lastMean := none, lastStates := [], socHigh := 0, socLow := 0, chgQ := 0, disQ := 0, chgE := 0, disE := 0,
    cmd := .open, sent := .open, cmdAt := 0, failed := false, failedAt := 0, peak := 0, quiet := 0 }

/-- Pack OPEN, limits 0 (R437). -/
def Services.reset : Services :=
  { strings := List.replicate 4 StringSvc.reset, sohC := 1, jobTotal := 0, limDis := 0, limChg := 0, powDis := 0,
    powChg := 0, limStrD := 0, limStrC := 0, derated := false, limAt := 0, pack := .opened, packAt := 0,
    failedAt := none, peak := 0, quiet := 0, toStorage := false, oc1Off := false, rested := false,
    readyNext := false, recordNo := 0 }

/-- Every switch open, every gate low (Table 2-4). -/
def Balance.reset : Balance :=
  { closed := List.replicate 18 false, tripped := List.replicate 18 false, fenced := List.replicate 18 false,
    trips := List.replicate 18 [], lowRun := List.replicate 18 0, leakRun := List.replicate 18 0,
    lowAt := List.replicate 18 none, leakAt := List.replicate 18 none, leakCell := none,
    fenceA := false, fenceB := false, stage := .unselected, acvFenced := false, acvOn := false,
    acvBusy := false, discharge := false, command := 0,
    soft := 0, skipNext := false, stopped := false, wanted := none, desats := 0, legsHit := [], desatStops := 0,
    desatStopped := false, shorts := [], trips64 := [], latch := false, pin := false, refused := 0, jobs := [],
    finished := [], jobsLogged := 0, jobEnergy := 0, baseline := none, baseStart := none, renewed := false,
    episodes := [], finals := [], limitOn := false, kittyOn := false, dieTrip := false,
    comparators := List.replicate 4 false, dieTrips := [], ageing := List.replicate 3 none,
    aged := List.replicate 4 false, agedAt := none }

/-- A channel off (Table 2-4). -/
def Channel.reset : Channel :=
  { command := false, stage := .off, fenced := false, overAt := none, onAt := none, offCurrent := false }

/-- A pump off. -/
def Pump.reset : Pump := { running := false, under := false, dips := [] }

/-- Every channel off, pumps off (Table 2-4). -/
def Outputs.reset : Outputs :=
  { channels := List.replicate 6 Channel.reset, pumps := List.replicate 3 Pump.reset, vswOk := true, heater := false }

/-- FAN_PWM and FAN_DIR low, standstill (Table 2-4, R414). -/
def Fan.reset : Fan :=
  { duty := 0, target := 0, reverse := false, purge := none, due := false, frozen := false,
    warm := false, tachA := false, tachB := false, stage := .standstill, forward := true, times := [], invalid := [],
    tachFault := false, stall := false, zeroAt := 0, edgeAt := 0 }

/-- Buck running from VMOD, no alert. -/
def Supply.reset : Supply :=
  { vaux := false, buck := true, fromVaux := false, alerts := List.replicate 4 false, quietAt := 0, lowest := false,
    lowestAt := 0, lowestHeld := false, tref := false }

/-- CLFS empty, nothing harvested. -/
def Lifeline.reset : Lifeline :=
  { stepUp := false, regulated := false, full := false, pointUp := 0, pointN := 0, pointS := 0, good := false,
    reports := 0, unacked := 0, unackedAll := 0, heldBack := false, awaiting := false, carrier := none, port := .n }

/-- Interlock deemed open (Table 2-4). -/
def Safety.reset : Safety :=
  { openA := true, openB := true, crossA := 0, crossB := 0, halfA := none, halfB := none, srcA := 0, srcB := 0, crossShort := false,
    srcFault := false, bothSince := none, qualified := false, closedAt := none, afterPend := false, untilBoot := false, pressed := false,
    degraded := 0, running := false, clearAt := none, expired := false, refuse := false, ilkDeals := 0 }

/-- A streamer that has sent nothing. -/
def Stream.reset : Stream :=
  { queue := [], busy := false, staged := none, replaced := none, stopped := false, alive := 0, rotate := 0,
    visits := List.replicate 63 0, energyDue := true }

/-- Streamers idle, error-active. -/
def Vehicle.reset : Vehicle :=
  { canOut := Stream.reset, rsOut := Stream.reset, tecCount := 0, recCount := 0, can := .active, busOffs := [],
    closedDeal := 0, pubDeal := 0 }

/-- Table 2-4, column Reset: FAULT_N low, WARN_N released, LOCK_N per the keeper, the others low. -/
def Pins.reset (lockout : Bool) : Pins :=
  { driven := true, faultN := true, warnN := false, lockN := lockout, ready := false, socPwm := 0, bistOk := false,
    testPulses := false, tdo := none }

/-- Nothing logged. -/
def Logs.reset : Logs :=
  { queue := [], lost := 0, eraseDue := false, torn := 0, trace := [], unflushed := 0, shocks := [],
    shockOpen := false, peaks := List.replicate 3 0, events3 := List.replicate 3 0, events10 := List.replicate 3 0,
    byTime := List.replicate 4 0 }

/-- Port closed, nothing loading. -/
def Service.reset : Service :=
  { open_ := false, request := none, response := none, nextBlock := 0, total := 0, ringScope := false,
    pendCommit := none, distribute := none, reported := [], committed := [], held := [], shifted := 0 }

/-- First rotation not started (R581). -/
def Bist.reset : Bist :=
  { slice := 1, done := 0, lastDeal := none, restDeal := none, again := false, running := false, taken := 0, started := none,
    overdue := false, fenced := [], pressed := false, full := false }

/-- The machine right after the power-on reset of a factory-new FIELD device: the boot of Table 4-6 begins. -/
def State.reset : State :=
  { dev := Dev.reset, keeper := Keeper.reset, nv := NonVolatile.factory, flash := [], straps := Straps.reset,
    meas := Meas.reset, probes := ProbeWire.reset, clocks := Clocks.reset, portN := PortState.reset,
    portS := PortState.reset, ring := Ring.reset, dealer := Dealer.reset, services := Services.reset,
    balance := Balance.reset, outputs := Outputs.reset, fan := Fan.reset, supply := Supply.reset,
    life := Lifeline.reset, safety := Safety.reset, vehicle := Vehicle.reset, pins := Pins.reset false,
    logs := Logs.reset, service := Service.reset, bist := Bist.reset, faults := List.replicate 18 BlockState.reset,
    pending := [] }

/-! ### How a step can stop -/

/-- The machine stops with a fault: no event of the manual does that, a fault of the part being a reaction that ends
in a next state (chapter 16). The type has no constructor, so no step can end in one (log 1). -/
inductive Fault
  deriving DecidableEq, Repr

/-- A step is refused. -/
inductive Refusal where
  /-- No meaning yet for the command named. Raised by the dispatcher alone; safe: no claim about the command's
  effect can be proved from it. -/
  | notModelled (mnemonic : String)
  deriving DecidableEq, Repr

end Sys2Proof.Machine
end

