-- ==== Sys2Proof/Machine/Operands.lean ====
section
/-!
DEFINITION. How the part reads its operands: bit fields of words, strap levels and what they put in force
(03_straps_and_sealing.md), the strap fingerprint, and the check sequences of frames, records and requests.
-/
namespace Sys2Proof.Machine

/-! ### Bit fields and byte order -/

/-- Bits hi down to lo of a word, as a number. -/
def field (w : Word) (hi lo : Nat) : Nat := w.toNat / 2 ^ lo % 2 ^ (hi + 1 - lo)

/-- One bit of a word. -/
def bit (w : Word) (i : Nat) : Bool := w.getLsbD i

/-- A number as a word, modulo 2^18. -/
def word (n : Nat) : Word := BitVec.ofNat 18 n

/-- A flag in bit i. -/
def flag (i : Nat) (b : Bool) : Nat := if b then 2 ^ i else 0

/-- The bits of a bit vector, MSB first. -/
def bitsOf {w : Nat} (x : BitVec w) : List Bool := (List.range w).map x.getMsbD

/-- `n` bytes of a number, big-endian (Table 18-2). -/
def bytesBE : Nat → Nat → List Byte
  | 0, _ => []
  | n + 1, x => BitVec.ofNat 8 (x / 256 ^ n) :: bytesBE n x

/-- A big-endian byte string as a number. -/
def ofBytesBE (bs : List Byte) : Nat := bs.foldl (fun acc b => 256 * acc + b.toNat) 0

/-- A number held at most at `m` (the saturating counts of the manual). -/
def sat (m n : Nat) : Nat := if n ≤ m then n else m

/-- An integer confined to lo … hi. -/
def clampI (lo hi x : Int) : Int := if x < lo then lo else if hi < x then hi else x

/-- A signed number of 16 bits, saturating, as two's complement. -/
def signed16 (x : Int) : Nat := ((clampI (-32768) 32767 x) % 65536).toNat

/-- The signed value of an 18-bit code (R156). -/
def codeOf (w : Word) : Int := w.toInt

/-- A code saturated to 18 bits (R157). -/
def satCode (x : Int) : Word := BitVec.ofInt 18 (clampI (-131072) 131071 x)

/-- Rounding of an exact result to a whole number: exact values stand; between two, the free choice of log 6. -/
def roundQ (q : Rat) : Int := if q.den = 1 then q.num else if Config.roundsUp q then q.floor + 1 else q.floor

/-- Rounding to nearest where the manual says so (R236); a tie takes the free choice of log 6. -/
def roundNearest (q : Rat) : Int :=
  let r := q - q.floor
  if r < 1 / 2 then q.floor else if 1 / 2 < r then q.floor + 1 else roundQ q

/-! ### Check sequences -/

/-- One bit of a CRC register, MSB first. -/
def crcBit {w : Nat} (poly : BitVec w) (reg : BitVec w) (b : Bool) : BitVec w :=
  if reg.getMsbD 0 != b then (reg <<< 1) ^^^ poly else reg <<< 1

/-- CRC-24 of R246 over a bit stream. -/
def crc24 (bits : List Bool) : BitVec 24 := bits.foldl (crcBit 0x864CFB) 0xB704CE

/-- CRC-24 over words, each MSB first (R246). -/
def crcWords (ws : List Word) : BitVec 24 := crc24 (ws.flatMap bitsOf)

/-- CRC-8 of Table 18-2, over bytes MSB first from 0x00. -/
def crc8 (bs : List Byte) : Byte := (bs.flatMap bitsOf).foldl (crcBit 0x31) 0x00

/-- CRC-16/CCITT-FALSE (R234, R461, R549). -/
def crc16 (bs : List Byte) : BitVec 16 := (bs.flatMap bitsOf).foldl (crcBit 0x1021) 0xFFFF

/-! ### Strap levels (R55) -/

/-- The level a ratio ρ decodes to (R55), `none` outside every band. -/
def decodeLevel (rho : Rat) : Option (Fin 32) :=
  let x := rho * 256
  let k := (x / 8).floor.toNat
  if h : k < 32 then
    if (8 * k + 1 : Nat) ≤ x ∧ x ≤ (8 * k + 7 : Nat) then some ⟨k, h⟩ else none
  else none

/-- The level of two successive reads: latched only when both decode to it (R58). -/
def latchLevel (a b : Rat) : Option (Fin 32) := if decodeLevel a = decodeLevel b then decodeLevel a else none

/-- Roles of Table 3-3. -/
inductive Role where
  | dealer | stringHead | hand
  deriving DecidableEq, Repr

/-- Ring generations of R63. -/
inductive Gen where
  | none | a | b | f | l1
  deriving DecidableEq, Repr

/-- Whether a port carries ring traffic: strapped to a generation other than none and L1. -/
def Gen.ring : Gen → Bool
  | .a | .b | .f => true
  | _ => false

/-- The generation of a Port N or Port S index (R63). -/
def genOf : Nat → Gen
  | 1 => .a
  | 2 => .b
  | 3 => .f
  | 4 => .l1
  | _ => .none

/-- Whether a generation runs at the Chain-B line rate (Table 8-2). -/
def Gen.fast : Gen → Bool
  | .b | .f => true
  | _ => false

/-- Hop latency of Table 8-2 in ns. -/
def Gen.hopNs : Gen → Nat
  | .b => 1500
  | .f => 2000
  | .none => 0
  | _ => 12000

/-- Reach of Table 8-2 in m; L1 runs on the Chain-A physical layer (R234). -/
def Gen.reachM : Gen → Nat
  | .b => 10
  | .f => 40
  | .none => 0
  | _ => 30

/-- Operating windows of Table 3-4, lower and upper, in mV. -/
def windows : List (Nat × Nat) :=
  [(2500, 3650), (2500, 3600), (2000, 3650), (2800, 3550), (2500, 3650), (2000, 3600), (2500, 3500), (2800, 3650)] ++
  [(2300, 3650), (2500, 3700), (2800, 4200), (3000, 4200), (2750, 4150), (3000, 4100), (2500, 4200), (3000, 4250)] ++
  [(2800, 4100), (3200, 4200), (2800, 4000), (3000, 4000), (2700, 4200), (3300, 4150), (2500, 4200), (2700, 4200)] ++
  [(3000, 4200), (2800, 4100), (3000, 4150), (1500, 2700), (1800, 2700), (1500, 2800), (1700, 2650), (2000, 2600)]

/-- Dealer budgets of Table 3-6 in mW, level 0 first; 0.315 W and 0.355 W are whole milliwatts. -/
def kittyBudgets : List Nat :=
  [0, 250, 280, 315, 355, 400, 450, 500, 560, 630, 710, 800, 900, 1000, 1120, 1250] ++
  [1400, 1600, 1800, 2000, 2240, 2500, 2800, 3150, 3550, 4000, 4500, 5000, 5600, 6300, 7100, 8000]

/-- Bleed resistor classes of R67 in Ω. -/
def bleedClasses : List Nat := [33, 15, 18, 22, 27, 39, 47, 56, 68, 82, 100, 12]

/-- Shunts of Table 3-8 in µΩ; level 0 is no current sensing. -/
def shunts : List Nat := [0, 25, 30, 40, 50, 60, 75, 100, 120, 150, 200, 250, 300, 400, 500, 600, 750, 1000]

/-- Capacities of Table 3-10 in units of 0.1 Ah. -/
def capacities : List Nat :=
  [100, 110, 125, 140, 160, 180, 200, 230, 260, 290, 330, 370, 420, 470, 530, 600] ++
  [670, 750, 850, 1000, 1100, 1200, 1350, 1550, 1750, 1950, 2200, 2500, 2800, 3150, 3550, 4000]

/-- Deal periods of R64 in ms, by period code. -/
def periodMs : Nat → Nat
  | 0 => 10
  | 1 => 20
  | 2 => 50
  | 3 => 100
  | 4 => 200
  | 5 => 500
  | _ => 1000

/-- Storage-watch intervals of R65 in hours; `none` is no watch. -/
def watchHours : Nat → Option Nat
  | 0 => some 6
  | 1 => some 1
  | 2 => some 2
  | 3 => some 3
  | 4 => some 12
  | 5 => some 24
  | 6 => some 48
  | 7 => some 168
  | _ => none

/-- The role of an STR_ROLE level (Table 3-3), `none` for a reserved one. -/
def roleOfLevel (k : Nat) : Option Role :=
  if k = 1 then some .hand
  else if 2 ≤ k ∧ k ≤ 4 then some .stringHead
  else if 5 ≤ k ∧ k ≤ 12 then some .dealer
  else none

/-- Levels of one device's straps, in pin order. -/
abbrev Levels := List (Option (Fin 32))

/-- The level of strap `i` as a number; `none` when it decodes to no level. -/
def level (ls : Levels) (i : Nat) : Option Nat := (ls.getD i none).map (·.val)

/-- The role in force: Hand when STR_ROLE is invalid (R61, Table 3-11). -/
def roleInForce (ls : Levels) : Role := ((level ls 0).bind roleOfLevel).getD .hand

/-- Whether a level is a code its table defines for the role, level 0 being required where R60 says so (R61). -/
def codeDefined (r : Role) (i k : Nat) : Bool :=
  match i with
  | 0 => (roleOfLevel k).isSome
  | 1 => 1 ≤ k && k ≤ 13
  | 2 => true
  | 3 => 1 ≤ k && k ≤ 19
  | 4 => if r = .dealer then k ≤ 13 else k ≤ 8
  | 5 => k ≤ 18
  | 6 => if r = .dealer then true else k ≤ 11
  | 7 => 1 ≤ k && k ≤ 29
  | 8 => if r = .hand then k = 0 else k ≤ 17
  | 9 => if r = .hand then k ≤ 5 else k ≤ 23
  | 10 => if r = .dealer then true else if r = .stringHead then k ≤ 7 else k = 0
  | 11 => if r = .dealer then true else k = 0
  | _ => if r = .dealer then true else k = 0

/-- The strap's level when it decodes to a defined code. -/
def defined (ls : Levels) (i : Nat) : Option Nat :=
  (level ls i).bind fun k => if codeDefined (roleInForce ls) i k then some k else none

/-- R18: CAN FD or 1000 kbit/s with ROOT on the internal oscillator. Modes 2, 3 and 4 are concerned (section 3.12). -/
def canModeOf (k : Nat) : Option Nat := if k < 20 then some (k / 4) else if k < 22 then none else some ((k - 22) / 2)

/-- The RS-485 rate index a STR_BUS level selects, if it selects one (Table 3-9). -/
def rsRateOf (k : Nat) : Option Nat := if k < 20 then none else if k < 22 then some (k - 20) else some ((k - 22) % 2)

/-- Whether an STR_ROLE level takes ROOT from CLKIN (Table 3-3). -/
def clkinLevel (k : Nat) : Bool := 9 ≤ k && k ≤ 12

/-- STR_BUS fails R18. -/
def failsR18 (ls : Levels) : Bool :=
  roleInForce ls = .dealer && !((defined ls 0).any clkinLevel) &&
    ((defined ls 11).bind canModeOf).any fun m => 2 ≤ m

/-- STR_KITTY fails R69: the upper window over the class resistance exceeds 250 mA. -/
def failsR69 (ls : Levels) : Bool :=
  roleInForce ls ≠ .dealer &&
    match defined ls 6, defined ls 2 with
    | some k, some c => 250 * bleedClasses.getD k 33 < (windows.getD c (0, 0)).2
    | _, _ => false

/-- STR_DEAL fails the topology checks of R73 on the Dealer: a closed ring with a port strapped none or with L1 on
Port N, or an open chain with Port S not none. -/
def failsTopology (ls : Levels) : Bool :=
  roleInForce ls = .dealer &&
    match defined ls 4, defined ls 3 with
    | some d, some l =>
      if d % 2 = 1 then l / 4 = 0 || l % 4 = 0 || l / 4 = 4 else l % 4 ≠ 0
    | _, _ => false

/-- Whether strap `i` is invalid (R61, R73). -/
def strapInvalid (ls : Levels) (i : Nat) : Bool :=
  (defined ls i).isNone || (i == 11 && failsR18 ls) || (i == 6 && failsR69 ls) || (i == 4 && failsTopology ls)

/-- The strap's valid level. -/
def valid (ls : Levels) (i : Nat) : Option Nat := if strapInvalid ls i then none else defined ls i

/-- Some strap is invalid: strap-fault state (R75). -/
def anyInvalid (ls : Levels) : Bool := (List.range 13).any (strapInvalid ls)

/-- What the straps put in force, invalid straps as Table 3-11 gives. -/
structure InForce where
  role       : Role
  /-- The String Head's string, 2 to 4; 1 on the Dealer. -/
  string     : Nat
  /-- Strings of the Dealer. -/
  strings    : Nat
  clkin      : Bool
  cells      : Nat
  profile    : Option Nat
  genN       : Gen
  genS       : Gen
  linkValid  : Bool
  closed     : Bool
  period     : Nat
  watch      : Option Nat
  passive    : Bool
  active     : Bool
  adaptive   : Bool
  /-- Active limit on the cell side in mA. -/
  limitMa    : Nat
  kittyMw    : Nat
  bleedOhm   : Nat
  probeWire  : Bool
  ntcType    : Nat
  ntcCount   : Nat
  shunt      : Nat
  /-- STR_OUT valid: contactor channels by role, with their coil class. -/
  coils      : Bool
  coilClass  : Nat
  heater     : Bool
  lamps      : Nat
  degradedMin : Nat
  demandH    : Nat
  interlock  : Bool
  purgeH     : Nat
  canMode    : Option Nat
  canBase    : Nat
  rsRate     : Option Nat
  capacity   : Option Nat
  deriving DecidableEq, Repr

/-- The values in force of a device's latched levels (chapter 03, section 3; Table 3-11). -/
def inForce (ls : Levels) : InForce :=
  let r := roleInForce ls
  let role := (valid ls 0).getD 1
  let link := valid ls 3
  let gn := (link.map fun l => genOf (l / 4)).getD .none
  let gs := (link.map fun l => genOf (l % 4)).getD .none
  let bal := (valid ls 5).getD 0
  let kit := valid ls 6
  let temp := (valid ls 7).getD 17
  let out := valid ls 9
  let safe := valid ls 10
  let lim := if bal < 3 then 0 else if bal < 11 then (bal - 3) / 2 else (bal - 11) / 2
  { role := r
    string := if r = .stringHead then role else 1
    strings := if r = .dealer then (role - 5) % 4 + 1 else 1
    clkin := r = .dealer && clkinLevel role
    cells := ((valid ls 1).map (· + 5)).getD 18
    profile := valid ls 2
    genN := gn
    genS := gs
    linkValid := link.isSome
    closed := r = .dealer && ((valid ls 4).map fun d => d % 2 == 1).getD (gn.ring && gs.ring)
    period := if r = .dealer then ((valid ls 4).map (· / 2)).getD 4 else 4
    watch := if r = .dealer then some 6 else ((valid ls 4).map watchHours).getD (some 6)
    passive := bal = 1 || bal = 2 || 11 ≤ bal
    active := 3 ≤ bal
    adaptive := if bal < 3 then bal = 2 else (bal - 3) % 2 = 1
    limitMa := if bal < 3 then 0 else [500, 1000, 2000, 3000].getD lim 0
    kittyMw := if r = .dealer then (kit.map fun k => kittyBudgets.getD k 0).getD 0 else 0
    bleedOhm := if r = .dealer then 33 else (kit.map fun k => bleedClasses.getD k 33).getD 33
    probeWire := 17 ≤ temp
    ntcType := if temp < 17 then (temp - 1) / 4 else (temp - 18) / 3
    ntcCount := if temp < 17 then 2 ^ ((temp - 1) % 4) else if temp = 17 then 0 else 2 ^ ((temp - 18) % 3)
    shunt := if r = .hand then 0 else ((valid ls 8).map fun k => shunts.getD k 0).getD 0
    coils := r ≠ .hand && out.isSome
    coilClass := if r = .hand then 0 else (out.map (· / 6)).getD 0
    heater := (out.map fun k => k % 6 / 3 == 1).getD false
    lamps := (out.map (· % 3)).getD 0
    degradedMin := if r = .dealer then (safe.map fun k => [0, 10, 30, 90].getD (k / 8) 0).getD 0 else 0
    demandH := if r = .dealer then (safe.map fun k => if k % 8 / 4 = 0 then 720 else 168).getD 168 else 168
    interlock := if r = .dealer then true else if r = .stringHead then (safe.map fun k => k / 4 == 1).getD true else false
    purgeH := if r = .hand then 0 else (safe.map fun k => [0, 2, 6, 24].getD (k % 4) 0).getD 0
    canMode := if r = .dealer then (valid ls 11).bind canModeOf else none
    canBase := [0x200, 0x300, 0x400, 0x500].getD (((valid ls 11).map fun k => if k < 20 then k % 4 else 0).getD 0) 0x200
    rsRate := if r = .dealer then (defined ls 11).bind rsRateOf else none
    capacity := (valid ls 12).map fun k => capacities.getD k 0 }

/-- STR_CAP is used by the Dealer only (Table 3-2); the levels as they enter the fingerprint, 31 for an invalid strap
(section 6). -/
def fingerLevels (ls : Levels) : List Nat := (List.range 13).map fun i => (valid ls i).getD 31

/-- The 72 bits of the fingerprint: 13 levels of 5 bits and their sum modulo 128 (chapter 03, section 6). -/
def fingerBits (ks : List Nat) : List Bool :=
  (ks.flatMap fun k => bitsOf (BitVec.ofNat 5 k)) ++ bitsOf (BitVec.ofNat 7 ks.sum)

/-- A number from bits, MSB first. -/
def ofBits (bs : List Bool) : Nat := bs.foldl (fun n b => 2 * n + b.toNat) 0

/-- The four fingerprint words of Table 3-12. -/
def fingerWords (ks : List Nat) : List Word :=
  let bs := fingerBits ks
  (List.range 4).map fun i => word (ofBits ((bs.drop (18 * i)).take 18))

/-- The strap fingerprint of latched levels. -/
def fingerprint (ls : Levels) : List Word := fingerWords (fingerLevels ls)

/-- The level of strap `i` in fingerprint words. -/
def printLevel (ws : List Word) (i : Nat) : Nat := ofBits (((ws.flatMap bitsOf).drop (5 * i)).take 5)

/-- The bits of a seal record under the check, in the order of R259. -/
def sealBits (r : SealRecord) : List Bool :=
  bitsOf r.number ++ bitsOf (BitVec.ofNat 6 r.entries.length) ++ [r.closed, false] ++ bitsOf r.l1Count ++
    r.entries.flatMap fun e => bitsOf e.factory ++ e.fingerprint.flatMap bitsOf

/-- The seal check (R259). -/
def sealCheck (r : SealRecord) : BitVec 24 := crc24 (sealBits r)

end Sys2Proof.Machine
end

