-- ==== Sys2Proof/Machine/Flags.lean ====
section
/-!
DEFINITION. The status bits: the class of every source (Tables 16-2 to 16-7), the status and summary words of
Table 9-7 and R251, and the flag words of beacons and melds.
-/
namespace Sys2Proof.Machine

/-- Index of a block in `State.faults`, in the order of R251. -/
def blockIndex : Block → Nat
  | .meas => 0
  | .div => 1
  | .balp => 2
  | .bala => 3
  | .portN => 4
  | .portS => 5
  | .probe => 6
  | .out => 7
  | .fan => 8
  | .supply => 9
  | .clock => 10
  | .mem => 11
  | .raivo => 12
  | .superv => 13
  | .strap => 14
  | .bist => 15
  | .keeper => 16
  | .therm => 17

/-- Blocks in summary order. -/
def allBlocks : List Block :=
  [.meas, .div, .balp, .bala, .portN, .portS, .probe, .out, .fan, .supply, .clock, .mem, .raivo, .superv, .strap] ++
  [.bist, .keeper, .therm]

/-- The summary bit of a block: MEAS is bit 17 (R251). -/
def summaryBit (b : Block) : Nat := 17 - blockIndex b

/-- Sources of class C, as a mask (Tables 16-2 to 16-7). -/
def maskC : Block → BitVec 16
  | .meas => 0x0003
  | .div => 0x0003
  | .probe => 0x000F
  | .therm => 0x0001
  | .balp => 0x0007
  | .bala => 0x001F
  | .portN => 0x01FF
  | .portS => 0x00FF
  | .out => 0x024A
  | .fan => 0x0001
  | .supply => 0x001F
  | .clock => 0x0006
  | .mem => 0x0007
  | .keeper => 0x001F
  | .raivo => 0x007F
  | .superv => 0x007F
  | .strap => 0x0001
  | .bist => 0x0007

/-- Sources of class U. -/
def maskU : Block → BitVec 16
  | .meas => 0x003C
  | .div => 0x000C
  | .probe => 0x01F0
  | .therm => 0x0006
  | .balp => 0x0038
  | .bala => 0x03E0
  | .portN => 0xFE00
  | .portS => 0x3E00
  | .out => 0xFDB5
  | .fan => 0x0002
  | .supply => 0x0020
  | .clock => 0x0001
  | .mem => 0x0078
  | .keeper => 0x0000
  | .raivo => 0x0380
  | .superv => 0x0F80
  | .strap => 0x007E
  | .bist => 0x0078

/-- Sources of class F. -/
def maskF : Block → BitVec 16
  | .meas => 0x0040
  | .clock => 0x0008
  | .mem => 0x0080
  | .superv => 0x3000
  | .bist => 0x0080
  | _ => 0x0000

/-- The bits that some table lists; the others are reserved and read 0 (R477). -/
def maskAll (b : Block) : BitVec 16 := maskC b ||| maskU b ||| maskF b

/-- The class of a source (Tables 16-2 to 16-7). -/
def classOf (b : Block) (i : Nat) : FaultClass :=
  if (maskF b).getLsbD i then .f else if (maskU b).getLsbD i then .u else .c

/-- CLASS codes of Table 16-1. -/
def FaultClass.code : FaultClass → Nat
  | .c => 1
  | .u => 2
  | .f => 3

/-- The CLASS field: the highest class among the set bits (R478). -/
def classField (b : Block) (sticky : BitVec 16) : Nat :=
  if sticky &&& maskF b ≠ 0 then 3
  else if sticky &&& maskU b ≠ 0 then 2
  else if sticky &&& maskC b ≠ 0 then 1
  else 0

/-- A block's status word (Table 9-7). -/
def statusWord (b : Block) (sticky : BitVec 16) : Word := word (classField b sticky * 2 ^ 16 + sticky.toNat)

/-- The status of a block in the table of the state. -/
def faultOf (fs : List BlockState) (b : Block) : BlockState := fs.getD (blockIndex b) BlockState.reset

/-- The status word a block reports. -/
def statusOf (fs : List BlockState) (b : Block) : Word := statusWord b (faultOf fs b).sticky

/-- The summary word (R251). -/
def summaryWord (fs : List BlockState) : Word :=
  word ((allBlocks.map fun b => flag (summaryBit b) ((faultOf fs b).sticky != 0)).sum)

/-- The status words of the blocks with a set summary bit, in summary order (R251). -/
def statusWords (fs : List BlockState) : List Word :=
  (allBlocks.filter fun b => (faultOf fs b).sticky != 0).map (statusOf fs)

/-- Cell state codes of Table 6-3. -/
def CellState.code : CellState → Nat
  | .ok => 0
  | .rev => 1
  | .ovr => 2
  | .nocmp => 3
  | .divsub => 4
  | .disagree => 5
  | .mismatch => 6
  | .open => 7

/-- Probe state codes of Table 7-5. -/
def ProbeState.code : ProbeState → Nat
  | .valid => 0
  | .stale => 1
  | .lost => 2
  | .excluded => 3

/-- Port bit: 0 Port N, 1 Port S (Tables 9-2, 9-10). -/
def portBit : Port → Nat
  | .n => 0
  | .s => 1

/-- The status block of a port. -/
def portBlock : Port → Block
  | .n => .portN
  | .s => .portS

end Sys2Proof.Machine

namespace Sys2Proof

/-- The other port of a device. -/
def Port.other : Port → Port
  | .n => .s
  | .s => .n

end Sys2Proof
end

