-- ==== Sys2Proof/Machine/Ops.lean ====
section
/-!
DEFINITION. The named operations over the state that every family shares: group updates, time, flash bytes, the log
and trace, raising a status bit with its reaction (chapter 16), outputs and the opening of contactors, queueing of
frames, the lock-out, the fatal state and resets.
-/
namespace Sys2Proof.Machine

/-! ### Updates of one group -/

/-- Updates `dev`. -/
def State.updDev (s : State) (f : Dev → Dev) : State := { s with dev := f s.dev }
/-- Updates `keeper`. -/
def State.updKeeper (s : State) (f : Keeper → Keeper) : State := { s with keeper := f s.keeper }
/-- Updates `nv`. -/
def State.updNv (s : State) (f : NonVolatile → NonVolatile) : State := { s with nv := f s.nv }
/-- Updates `straps`. -/
def State.updStraps (s : State) (f : Straps → Straps) : State := { s with straps := f s.straps }
/-- Updates `meas`. -/
def State.updMeas (s : State) (f : Meas → Meas) : State := { s with meas := f s.meas }
/-- Updates `probes`. -/
def State.updProbes (s : State) (f : ProbeWire → ProbeWire) : State := { s with probes := f s.probes }
/-- Updates `clocks`. -/
def State.updClocks (s : State) (f : Clocks → Clocks) : State := { s with clocks := f s.clocks }
/-- Updates `ring`. -/
def State.updRing (s : State) (f : Ring → Ring) : State := { s with ring := f s.ring }
/-- Updates `dealer`. -/
def State.updDealer (s : State) (f : Dealer → Dealer) : State := { s with dealer := f s.dealer }
/-- Updates `services`. -/
def State.updServices (s : State) (f : Services → Services) : State := { s with services := f s.services }
/-- Updates `balance`. -/
def State.updBalance (s : State) (f : Balance → Balance) : State := { s with balance := f s.balance }
/-- Updates `outputs`. -/
def State.updOutputs (s : State) (f : Outputs → Outputs) : State := { s with outputs := f s.outputs }
/-- Updates `fan`. -/
def State.updFan (s : State) (f : Fan → Fan) : State := { s with fan := f s.fan }
/-- Updates `supply`. -/
def State.updSupply (s : State) (f : Supply → Supply) : State := { s with supply := f s.supply }
/-- Updates `life`. -/
def State.updLife (s : State) (f : Lifeline → Lifeline) : State := { s with life := f s.life }
/-- Updates `safety`. -/
def State.updSafety (s : State) (f : Safety → Safety) : State := { s with safety := f s.safety }
/-- Updates `vehicle`. -/
def State.updVehicle (s : State) (f : Vehicle → Vehicle) : State := { s with vehicle := f s.vehicle }
/-- Updates `pins`. -/
def State.updPins (s : State) (f : Pins → Pins) : State := { s with pins := f s.pins }
/-- Updates `logs`. -/
def State.updLogs (s : State) (f : Logs → Logs) : State := { s with logs := f s.logs }
/-- Updates `service`. -/
def State.updService (s : State) (f : Service → Service) : State := { s with service := f s.service }
/-- Updates `bist`. -/
def State.updBist (s : State) (f : Bist → Bist) : State := { s with bist := f s.bist }

/-- A port of the state. -/
def State.port (s : State) : Port → PortState
  | .n => s.portN
  | .s => s.portS

/-- Updates a port. -/
def State.updPort (s : State) (p : Port) (f : PortState → PortState) : State :=
  match p with
  | .n => { s with portN := f s.portN }
  | .s => { s with portS := f s.portS }

/-- Updates the status of a block. -/
def State.updBlock (s : State) (b : Block) (f : BlockState → BlockState) : State :=
  { s with faults := s.faults.modify (blockIndex b) f }

/-! ### Time on the keeper timebase (R21) -/

/-- Keeper time in KCLK periods of 1/32768 s. -/
def State.now (s : State) : Nat := s.keeper.time.toNat

/-- Seconds of the keeper timebase. -/
def State.seconds (s : State) : BitVec 32 := s.keeper.time.extractLsb' 15 32

/-- Whether at least `ms` milliseconds have passed from `since` to `t`, both in KCLK periods. -/
def passedMs (since t ms : Nat) : Bool := since * 1000 + ms * 32768 ≤ t * 1000

/-- Milliseconds from `since` to now have passed. -/
def State.passed (s : State) (since ms : Nat) : Bool := passedMs since s.now ms

/-! ### What the straps put in force -/

/-- The straps in force (Table 3-11). -/
def State.cfg (s : State) : InForce := inForce s.straps.latched

/-- Roles. -/
def State.isDealer (s : State) : Bool := s.cfg.role = .dealer
def State.isHead (s : State) : Bool := s.cfg.role = .stringHead
def State.isHand (s : State) : Bool := s.cfg.role = .hand

/-- Strap-fault state: some strap was invalid at latching (R75). -/
def State.strapFault (s : State) : Bool := s.dev.strapped && anyInvalid s.straps.latched

/-- The generation of a port. -/
def State.gen (s : State) : Port → Gen
  | .n => s.cfg.genN
  | .s => s.cfg.genS

/-- The device runs: RUN or SLEEP (Table 4-2). -/
def State.running (s : State) : Bool := s.dev.phase = .run

/-- The Raivo core works: started, not fenced and not halted by the fatal state (R484, R492). -/
def State.core (s : State) : Bool := s.dev.coreStarted && !s.dev.coreFenced && !s.dev.fatal

/-- Own position: 0 on the Dealer, `none` before one is taken. -/
def State.position (s : State) : Option (BitVec 6) := if s.isDealer then some 0 else s.ring.pos

/-- Deal period in force, in ms. -/
def State.period (s : State) : Nat := periodMs s.ring.period

/-- Whether the ring is closed: by strap on the Dealer, else as the accepted beacons say (Table 9-8). -/
def State.closedRing (s : State) : Bool := if s.isDealer then s.cfg.closed else s.ring.closed

/-- The device runs deals: the Dealer with its beacons running, another device that has accepted a beacon. -/
def State.deals (s : State) : Bool :=
  s.running && (if s.isDealer then !s.dealer.firstBeacon && !s.dealer.stopped && !s.dev.fatal else s.ring.dealing)

/-! ### Flash bytes -/

/-- A byte of flash; an unlisted address is erased and reads 0xFF (log 2). -/
def Memory.read : List Host.Cell → Nat → Byte
  | [], _ => 0xFF
  | (a, b) :: m, x => if x < a then 0xFF else if x = a then b else Memory.read m x

/-- Writes one byte and keeps the canonical form. -/
def Memory.write : List Host.Cell → Nat → Byte → List Host.Cell
  | [], x, v => if v = 0xFF then [] else [(x, v)]
  | (a, b) :: m, x, v =>
    if x < a then (if v = 0xFF then (a, b) :: m else (x, v) :: (a, b) :: m)
    else if x = a then (if v = 0xFF then m else (x, v) :: m)
    else (a, b) :: Memory.write m x v

/-- Writes successive bytes. -/
def Memory.program (m : List Host.Cell) (x : Nat) : List Byte → List Host.Cell
  | [] => m
  | b :: bs => Memory.program (Memory.write m x b) (x + 1) bs

/-- Erases `len` bytes from `x` on. -/
def Memory.erase (m : List Host.Cell) (x len : Nat) : List Host.Cell :=
  m.filter fun c => c.1 < x || x + len ≤ c.1

/-- `n` bytes from `x` on. -/
def Memory.bytes (m : List Host.Cell) (x n : Nat) : List Byte := (List.range n).map fun i => Memory.read m (x + i)

/-- The canonical form above a bound: addresses strictly rising, no entry reading as erased flash. -/
def Memory.wfAbove : Nat → List Host.Cell → Bool
  | _, [] => true
  | lo, (a, b) :: m => lo ≤ a && b != 0xFF && Memory.wfAbove (a + 1) m

/-- The canonical form of flash. -/
def Memory.wf (m : List Host.Cell) : Bool := Memory.wfAbove 0 m

/-- Base of the log region (Table 1-7). -/
def logBase : Nat := 0xC0000

/-- Address of a log slot: 48 sectors of 256 slots of 16 bytes. -/
def logSlot (sector index : Nat) : Nat := logBase + (sector % 48) * 4096 + (index % 256) * 16

/-- Base of an image slot (Table 1-7). -/
def slotBase (b : Bool) : Nat := if b then 0x60000 else 0x00000

/-! ### Log and trace -/

/-- Puts a record into the queue of 64 (R537); a record that finds it full is dropped and counted. -/
def State.pushLog (s : State) (t : Byte) (payload : List Byte) : State :=
  s.updLogs fun l =>
    if l.queue.length < 64 then { l with queue := l.queue ++ [{ rtype := t, seconds := s.seconds, payload := payload }] }
    else { l with lost := l.lost + 1 }

/-- A record of the Raivo core; a failed core writes none (chapter 18, section 1). -/
def State.log (s : State) (t : Byte) (payload : List Byte) : State := if s.core then s.pushLog t payload else s

/-- Microseconds within the keeper second of an event (R544, log 13). -/
def State.micros (s : State) : Nat := s.now % 32768 * 1000000 / 32768

/-- A trace entry of the Raivo core: the ring holds the newest 512 (R543). -/
def State.trace (s : State) (t : Byte) (data : List Byte) : State :=
  s.updLogs fun l =>
    if s.core && !s.dev.traceOff then
      { l with
        trace := (if l.trace.length < 512 then l.trace else l.trace.drop 1) ++
          [{ ttype := t, seconds := s.seconds, micros := s.micros, data := data }]
        unflushed := sat 512 (l.unflushed + 1) }
    else l

/-- The deal number of the device's current deal; 0 before a beacon (chapter 09, section 2). -/
def State.dealNo (s : State) : Word := if s.ring.dealing then s.ring.deal else 0

/-- A deal number as three bytes. -/
def dealBytes (w : Word) : List Byte := bytesBE 3 w.toNat

/-! ### Frames -/

/-- A frame of this device leaving by `p`: its position, side, deal, first hop (Tables 9-2, 9-4). -/
def State.ownFrame (s : State) (p : Port) (t : FrameType) (payload : List Word) : TxFrame :=
  { ftype := t, src := s.position.getD 0, side := p, deal := if t = .lifeline then 0 else s.dealNo, hop := 1,
    payload := payload, slot := none }

/-- Whether a port sends frames other than beacons: link up, not fenced (R215, R276). -/
def State.sends (s : State) (p : Port) : Bool := (s.port p).up && !(s.port p).fenced

/-- Queues a frame in its class of R262. A port whose link is down drops and counts it (R273). -/
def State.queue (s : State) (p : Port) (f : TxFrame) : State :=
  s.updPort p fun q =>
    if q.up && !q.fenced then
      match f.ftype with
      | .beacon => q
      | .trump => { q with trumpQ := q.trumpQ ++ [f] }
      | .service => { q with serviceQ := q.serviceQ ++ [f] }
      | _ => { q with normalQ := q.normalQ ++ [f] }
    else { q with queueDrops := q.queueDrops + 1 }

/-- Sends a frame of this device out of a port. -/
def State.send (s : State) (p : Port) (t : FrameType) (payload : List Word) : State :=
  s.queue p (s.ownFrame p t payload)

/-- A TRUMP leaves by both ports in a closed ring and by the primary side in an open chain (R263, R493). A port whose
link is down sends nothing. TRUMP trace entry (Table 18-6). -/
def State.sendTrumpWords (s : State) (payload : List Word) : State :=
  let w := payload.getD 0 0
  let s := s.trace 0x86 [0, BitVec.ofNat 8 (field w 17 12), BitVec.ofNat 8 (field w 11 7), (s.position.getD 0).setWidth 8, 0]
  if s.closedRing then
    let s := if (s.port .n).up then s.send .n .trump payload else s
    if (s.port .s).up then s.send .s .trump payload else s
  else s.send s.ring.primary .trump payload

/-- TRUMP payload (R257). -/
def trumpWords (cause item l1 : Nat) (reading summary limit : Word) : List Word :=
  [word (cause * 4096 + item * 128 + l1 * 8), reading, summary, limit]

/-! ### Outputs -/

/-- What a channel drives (Table 13-1). -/
inductive ChanRole where
  | none | coil | heater | lamp
  deriving DecidableEq, Repr

/-- The role of channel `i` (0 is OC1) under the straps (R386); the heater and lamps come from STR_OUT (R70). -/
def chanRole (c : InForce) (i : Nat) : ChanRole :=
  if i = 3 then (if c.heater then .heater else .none)
  else if i = 4 then (if 1 ≤ c.lamps then .lamp else .none)
  else if i = 5 then (if c.lamps = 2 then .lamp else .none)
  else if c.role = .dealer ∧ i < 3 then (if c.coils then .coil else .none)
  else if c.role = .stringHead ∧ i < 2 then (if c.coils then .coil else .none)
  else .none

/-- A channel of the outputs. -/
def State.chan (s : State) (i : Nat) : Channel := s.outputs.channels.getD i Channel.reset

/-- The gate is on: pull-in, inrush or steady (R395). -/
def Channel.isOn (c : Channel) : Bool := c.stage = .opening || c.stage = .steady

/-- Whether any contactor or precharge channel is commanded on, conducting or restarting. -/
def State.coilsOn (s : State) : Bool :=
  (List.range 3).any fun i => chanRole s.cfg i = .coil && ((s.chan i).command || (s.chan i).isOn)

/-- A pump runs while a channel of its pair is commanded on and VSW and the die allow it (R392, R380, R406). -/
def State.pumpWanted (s : State) (k : Nat) : Bool :=
  s.outputs.vswOk && !s.balance.dieTrip && !s.dev.fatal &&
    ((s.chan (2 * k)).command && !(s.chan (2 * k)).fenced || (s.chan (2 * k + 1)).command && !(s.chan (2 * k + 1)).fenced)

/-- Pumps and the time since which the contactors of this device are off (R172, R392) follow the channels. -/
def State.settle (s : State) : State :=
  let s' := s.updOutputs fun o =>
    { o with pumps := o.pumps.mapIdx fun k p =>
        if s.pumpWanted k then { p with running := true } else { p with running := false, under := false } }
  s'.updMeas fun m => { m with offSince := if s.coilsOn then none else some (m.offSince.getD s.now) }

/-- Changes one channel and settles the pumps. -/
def State.updChan (s : State) (i : Nat) (f : Channel → Channel) : State :=
  (s.updOutputs fun o => { o with channels := o.channels.modify i f }).settle

/-- OUTPUT trace entry (Table 18-6): channel, on or off, rule. -/
def State.traceOut (s : State) (i : Nat) (on : Bool) (rule : Nat) : State :=
  s.trace 0x87 [BitVec.ofNat 8 (i + 1), if on then 1 else 0, BitVec.ofNat 8 rule, 0, 0]

/-- Turns a channel off and withdraws its command (R396). -/
def State.commandOff (s : State) (i rule : Nat) : State :=
  let s' := if (s.chan i).isOn then s.traceOut i false rule else s
  s'.updChan i fun c => { c with command := false, stage := .off, onAt := none }

/-- Turns a channel off; its command stands, so that a rule may restart it. -/
def State.ruleOff (s : State) (i rule : Nat) (st : ChanStage) : State :=
  let s' := if (s.chan i).isOn then s.traceOut i false rule else s
  s'.updChan i fun c => { c with stage := st, onAt := none }

/-- Whether a channel may turn on: it has a role, no fence, no strap fault, no lowest state, VSW and pumps allow it
(R75, R105, R386, R402, R406, R407, R492). -/
def State.mayTurnOn (s : State) (i : Nat) : Bool :=
  chanRole s.cfg i ≠ .none && !(s.chan i).fenced && !s.strapFault && !s.supply.lowest && s.outputs.vswOk &&
    !s.balance.dieTrip && !s.dev.fatal && s.running

/-- The gate of a channel turns on; its pull-in time or inrush window begins (R394, R395). -/
def State.gateOn (s : State) (i rule : Nat) : State :=
  (s.traceOut i true rule).updChan i fun c => { c with stage := .opening, onAt := some s.now }

/-- Commands a channel on: its pump starts and the gate follows 1 ms later, at once where the pump already runs and is
not in undervoltage (R392, R394, Table 14-5). -/
def State.commandOn (s : State) (i : Nat) : State :=
  if s.mayTurnOn i && !(s.chan i).command then
    let p := s.outputs.pumps.getD (i / 2) Pump.reset
    let s := s.updChan i fun c => { c with command := true, stage := .pumpWait }
    if p.running && !p.under then s.gateOn i 0 else s
  else s

/-- Every contactor and precharge channel of this device off at once, unsequenced (R444). -/
def State.coilsOff (s : State) (rule : Nat) : State :=
  (List.range 3).foldl (fun t i => if chanRole s.cfg i = .coil then t.commandOff i rule else t) s

/-! ### Raising a status bit -/

/-- STICKY trace entry (Table 18-6). -/
def State.traceSticky (s : State) (b : Block) (i : Nat) (merged : Bool) : State :=
  s.trace 0x85 [BitVec.ofNat 8 (summaryBit b), BitVec.ofNat 8 i, BitVec.ofNat 8 (classOf b i).code, if merged then 1 else 0, 0]

/-- Payload of a FAULT record (Table 18-3, R491). -/
def faultPayload (b : Block) (i : Nat) (deal : Word) (merges count : Nat) : List Byte :=
  [BitVec.ofNat 8 (summaryBit b), BitVec.ofNat 8 (i * 16 + (classOf b i).code * 4)] ++ dealBytes deal ++
    [BitVec.ofNat 8 merges] ++ bytesBE 2 count

/-- Sets a sticky bit with `also` in the same word as one error (chapter 16, section 2.3) and advances the occurrence
count of each (R478, R480). -/
def setSticky (i : Nat) (also : List Nat) (x : BlockState) : BlockState :=
  (i :: also).foldl
    (fun y j => { y with sticky := y.sticky ||| (1 <<< j), counts := y.counts.modify j fun n => sat 0xFFFF (n + 1) }) x

/-- The reaction a first error starts (R486), or the merge into the one in progress (R487). -/
def react (i : Nat) (cls : FaultClass) (deal : Word) (now : Nat) (x : BlockState) : BlockState :=
  match x.reaction with
  | none =>
    { x with
      reaction := some { bit := i, cls := cls, deal := deal, started := now, untilReset := cls = .f }
      merges := 0
      pulses := x.pulses + 1 }
  | some r =>
    if cls = .f then { x with reaction := some { bit := i, cls := .f, deal := deal, started := now, untilReset := true } }
    else { x with reaction := some r, merges := sat 15 (x.merges + 1) }

/-- Raises a C- or U-class source: sticky bits, counts, reaction or merge, interrupt pulse and trace (R477 to R490). -/
def State.raiseBits (s : State) (b : Block) (i : Nat) (also : List Nat) : State :=
  let merged := (faultOf s.faults b).reaction.isSome
  (s.updBlock b fun x => react i (classOf b i) s.dealNo s.now (setSticky i also x)).traceSticky b i merged

/-- FAULT_N asserts on a U-class event of the Dealer itself (R469). -/
def State.faultPin (s : State) (cls : FaultClass) : State :=
  s.updPins fun p => if s.isDealer && s.running && cls ≠ .c then { p with faultN := true } else p

/-- Ends a block's reaction; the core writes its record (R491). -/
def State.endReaction (s : State) (b : Block) : State :=
  match (faultOf s.faults b).reaction with
  | none => s
  | some r =>
    if r.untilReset then s
    else
      let x := faultOf s.faults b
      let s' := s.log 0x05 (faultPayload b r.bit r.deal x.merges (x.counts.getD r.bit 0))
      s'.updBlock b fun y => { y with reaction := none, merges := if s.core then 0 else y.merges }

/-! ### Lock-out and opening -/

/-- LOCKOUT record (Table 18-3). -/
def State.logLockout (s : State) (event cause holdMs : Nat) : State :=
  s.log 0x07 ([BitVec.ofNat 8 event, BitVec.ofNat 8 cause] ++ bytesBE 2 (sat 0xFFFF holdMs) ++ dealBytes s.dealNo ++ [0])

/-- LOCK_N follows the keeper copy on the Dealer and is held inactive elsewhere (R471, Table 1-2). -/
def State.lockPin (s : State) : State :=
  s.updPins fun p => { p with lockN := s.isDealer && s.keeper.lockout }

/-- Sets the lock-out on the Dealer: both copies (R511). -/
def State.setLockout (s : State) (cause : Nat) : State :=
  let s' := if s.keeper.lockout then s else s.logLockout 1 cause 0
  ((s'.updKeeper fun k => { k with lockout := true }).updNv fun n => { n with lockout := true }).lockPin

/-- Pack states as Table 15-5 codes them. -/
def PackState.code : PackState → Nat
  | .opened => 0
  | .strings => 1
  | .neg => 2
  | .precharge => 3
  | .pos => 4
  | .preOff => 5
  | .closed => 6
  | .opening => 7

/-- Enters a pack state, with its trace entry. -/
def State.setPack (s : State) (p : PackState) : State :=
  let s' := if s.services.pack = p then s else s.trace 0x88 ([BitVec.ofNat 8 p.code] ++ dealBytes s.dealNo ++ [0])
  s'.updServices fun v => if v.pack = p then v else { v with pack := p, packAt := s.now }

/-- Every string commanded OPEN from the next beacon (R497). -/
def State.stringsOpen (s : State) : State :=
  s.updServices fun v =>
    { v with strings := v.strings.map fun x => if x.cmd = .open then x else { x with cmd := .open, quiet := 0, peak := 0 } }

/-- Unsequenced opening of the Dealer: OC1 to OC3 off, pack OPEN, every string OPEN from the next beacon, READY falls
(R444, R472, R497). -/
def State.openPack (s : State) (rule : Nat) : State :=
  ((((s.coilsOff rule).setPack .opened).stringsOpen).updPins fun p => { p with ready := false }).updServices fun v =>
    { v with readyNext := false }

/-- A safety trip on the Dealer, with its lock-out cause where Table 17-1 sets the lock-out (R497, R498). -/
def State.trip (s : State) (lock : Option Nat) : State :=
  let s := s.openPack 1
  match lock with
  | none => s
  | some c => s.setLockout c

/-- A String Head opens its string on its own authority (R518) and refuses until a beacon commands OPEN (R519). -/
def State.headOpens (s : State) : State := (s.coilsOff 1).updSafety fun f => { f with refuse := true }

/-! ### The fatal state -/

/-- Drops the frames of this device that still wait: in the fatal state only its FATAL TRUMP leaves (Table 16-8). -/
def ownFramesOut (pos : BitVec 6) (q : PortState) : PortState :=
  { q with trumpQ := q.trumpQ.filter (·.src ≠ pos), normalQ := q.normalQ.filter (·.src ≠ pos),
           serviceQ := q.serviceQ.filter (·.src ≠ pos), delayed := q.delayed.filter (·.src ≠ pos) }

/-- Payload of the FATAL TRUMP of a block (R257). -/
def State.fatalWords (s : State) (b : Block) : List Word :=
  trumpWords 0x0A (summaryBit b) 0 (statusOf s.faults b) (summaryWord s.faults) 0

/-- Outputs, balancing, fan and streamers of Table 16-8. -/
def State.fatalOutputs (s : State) : State :=
  let s := s.updOutputs fun o =>
    { o with channels := o.channels.map fun c => { c with command := false, stage := .off, onAt := none } }
  let s := s.settle
  let s := s.updBalance fun x =>
    { x with closed := List.replicate 18 false, stage := .unselected, wanted := none, command := 0, jobs := [],
             fenceA := true, fenceB := true, acvFenced := true }
  let s := s.updFan fun f =>
    if s.isHand then f else { f with reverse := false, duty := 480, target := 480, purge := none, frozen := false }
  s.updPins fun p => { p with testPulses := false }

/-- Stops a streamer until reset; a frame on the line completes. -/
def Stream.halt (x : Stream) : Stream :=
  { x with stopped := true, staged := none, queue := if x.busy then x.queue.take 1 else [] }

/-- What else the Dealer does on entering the fatal state (Table 16-8, R500). -/
def State.fatalDealer (s : State) : State :=
  let s := (s.setPack .opened).stringsOpen
  let s := s.updKeeper fun k => { k with lockout := true }
  let s := s.updVehicle fun v => { v with canOut := v.canOut.halt, rsOut := v.rsOut.halt }
  s.updPins fun p => { p with faultN := true, ready := false, socPwm := 0, lockN := true }

/-- Enters the fatal state (R492): the core writes the F-class record, then halts. -/
def State.enterFatal (s : State) (b : Block) (i : Nat) : State :=
  if s.dev.fatal then s
  else
    let s := if s.isDealer && !s.keeper.lockout then s.logLockout 1 3 0 else s
    let s := s.log 0x05 (faultPayload b i s.dealNo 0 ((faultOf s.faults b).counts.getD i 0))
    let s := s.updDev fun d => { d with fatal := true, watchdog := false }
    let s := s.fatalOutputs
    let pos := s.position.getD 0
    let s := (s.updPort .n (ownFramesOut pos)).updPort .s (ownFramesOut pos)
    if s.isDealer then s.fatalDealer
    else (s.sendTrumpWords (s.fatalWords b)).updRing fun r => { r with fatalLeft := 2, fatalTrump := s.fatalWords b }

/-- Raises a source of any class; an F-class error enters the fatal state at once (R477, R488). `also` are bits set
with it as one error. -/
def State.raiseAlso (s : State) (b : Block) (i : Nat) (also : List Nat) : State :=
  let s := (s.raiseBits b i also).faultPin (classOf b i)
  if classOf b i = .f then s.enterFatal b i else s

/-- Raises one source. -/
def State.raise (s : State) (b : Block) (i : Nat) : State := s.raiseAlso b i []

/-- Raises a source when a condition holds. -/
def State.raiseIf (s : State) (c : Bool) (b : Block) (i : Nat) : State := if c then s.raise b i else s

/-- The bit of a block is set. -/
def State.has (s : State) (b : Block) (i : Nat) : Bool := (faultOf s.faults b).sticky.getLsbD i

/-- Fences a channel with the event that causes it, as one error (R402, Table 16-5). -/
def State.fenceChan (s : State) (i bitNo : Nat) : State :=
  let s := s.ruleOff i 2 .off
  (s.updChan i fun c => { c with fenced := true, command := false }).raiseAlso .out bitNo [10 + i]

/-! ### Self-test in progress -/

/-- A segment of one of these slices runs (Table 19-1). -/
def State.testing (s : State) (slices : List Nat) : Bool := s.bist.running && slices.contains s.bist.slice

/-- A port under a segment discards what it receives (R575); during the off-line test nothing is relayed or acted on
(R584). -/
def State.deaf (s : State) (p : Port) : Bool :=
  s.dev.offTest || s.testing (match p with | .n => [13] | .s => [14])

/-- BIST_OK falls with any of BIST bits 3 to 7 and with a held fail (R585). -/
def State.bistFalls (s : State) : State :=
  s.updPins fun p =>
    if (faultOf s.faults .bist).sticky &&& 0x00F8 ≠ 0 then { p with bistOk := false } else p

/-! ### Free values -/

/-- Draws the next free word (log 5). -/
def State.drawWord (s : State) : Word × State :=
  (Config.freeWord s.dev.freeCtr, s.updDev fun d => { d with freeCtr := d.freeCtr + 1 })

/-! ### Resets -/

/-- A port out of reset: a Dealer booting with VAUX valid begins the 2 ms wake carrier on every port with a generation
(R115). The role is the one whose straps the keeper holds until they are latched anew (Table 5-1). -/
def bootPort (c : InForce) (vaux hold : Bool) (g : Gen) : PortState :=
  if !hold && vaux && c.role = .dealer && g.ring then { PortState.reset with line := [.wakeCarrier] } else PortState.reset

/-- A reset of every switched domain (Table 4-4, R495): the keeper, the lifeline block, flash and fuses stay; the cause
bits are recorded (Table 4-5); the lock-out copies are latched as found (R500). `hold` keeps the part in reset while
RESET_N is low (R117). Supply levels and input pins are outside the part and keep what they are. -/
def State.resetDomains (s : State) (cause : Word) (hold : Bool) : State :=
  { s with
    dev := { Dev.reset with phase := if hold then .held else .boot, freeCtr := s.dev.freeCtr, lastService := s.now }
    keeper := { s.keeper with cause := s.keeper.cause ||| cause, lockSeenK := s.keeper.lockout, lockSeenF := s.nv.lockout }
    straps := Straps.reset
    meas := { Meas.reset with offSince := some s.now }
    probes := ProbeWire.reset
    clocks := Clocks.reset
    portN := bootPort (inForce s.keeper.straps) s.supply.vaux hold (inForce s.keeper.straps).genN
    portS := bootPort (inForce s.keeper.straps) s.supply.vaux hold (inForce s.keeper.straps).genS
    ring := Ring.reset
    dealer := Dealer.reset
    services := Services.reset
    balance := { Balance.reset with pin := s.balance.pin }
    outputs := Outputs.reset
    fan := { Fan.reset with tachA := s.fan.tachA, tachB := s.fan.tachB, zeroAt := s.now, edgeAt := s.now }
    supply := { Supply.reset with vaux := s.supply.vaux, buck := s.supply.buck, fromVaux := s.supply.fromVaux }
    safety := Safety.reset
    vehicle := Vehicle.reset
    pins := Pins.reset s.keeper.lockout
    logs := Logs.reset
    service := Service.reset
    bist := Bist.reset
    faults := List.replicate 18 BlockState.reset }

/-- Bits of the reset cause word (Table 4-5). -/
def causePor : Word := 0x00001
def causeRstn : Word := 0x00020
def causeWdog : Word := 0x00040
def causeRing : Word := 0x00080
def causeStwake : Word := 0x00100
def causeLifexit : Word := 0x00200
def causeKprloss : Word := 0x00400

/-- The brown-out bit of a rail (Table 4-5). -/
def causeRail : Rail → Word
  | .v5 => 0x00002
  | .v3a => 0x00004
  | .v3d => 0x00008
  | .v1c => 0x00010

end Sys2Proof.Machine
end

