-- ==== Sys2Proof/Machine/Balance.lean ====
section
/-!
DEFINITION. Balancing (chapters 11 and 12): the scheduler of R367, jobs and their energy, throttle episodes, the passive
banks, the active converter with its protections, the die trip and the ageing ceilings.
-/
namespace Sys2Proof.Machine

/-! ### Readings the scheduler uses -/

/-- States in which a unit refuses a cell (R313). -/
def CellState.refused : CellState → Bool
  | .open => true
  | .mismatch => true
  | .rev => true
  | .ovr => true
  | _ => false

/-- The code Table 6-9 gives for kitty accounting: primary, or diverse under DIVSUB; OVR, MISMATCH and OPEN excluded. -/
def kittyCode (st : CellState) (primary diverse : Word) : Option Int :=
  match st with
  | .ok => some (codeOf primary)
  | .rev => some (codeOf primary)
  | .disagree => some (codeOf primary)
  | .nocmp => some (codeOf primary)
  | .divsub => some (codeOf diverse)
  | .ovr => none
  | .mismatch => none
  | .open => none

/-- State of own cell `k` (0 is cell 1). -/
def State.cellState (s : State) (k : Nat) : CellState := s.meas.cells.getD k .ok

/-- Own cell's code for kitty accounting. -/
def State.cellCode (s : State) (k : Nat) : Option Int :=
  if k < s.cfg.cells then kittyCode (s.cellState k) (s.meas.primary.getD k 0) (s.meas.diverse.getD k 0) else none

/-- A code in mV. -/
def milliVolts (c : Int) : Rat := (c : Rat) / 20

/-- Cell voltage in mV for kitty accounting; 0 where excluded. -/
def State.cellMv (s : State) (k : Nat) : Rat := ((s.cellCode k).map milliVolts).getD 0

/-- The die factor s of R379, die temperature as code of 1/1024 °C. -/
def dieFactor (die : Int) : Rat :=
  if die < 115 * 1024 then 1
  else if die < 150 * 1024 then (150 - (die : Rat) / 1024) / 35
  else 0

/-- Fraction of a unit in hundredths (Table 12-1). -/
def unitPercent : BalUnit → Nat
  | .pbA => 30
  | .pbB => 30
  | .active => 40

/-- Number of a unit in job reports (Table 9-12). -/
def unitCode : BalUnit → Nat
  | .pbA => 1
  | .pbB => 2
  | .active => 3

/-- The bank of a cell (Table 11-1). -/
def bankOf (k : Nat) : BalUnit := if k < 9 then .pbA else .pbB

/-- A unit's power allowance in mW (R359). -/
def State.allowance (s : State) (u : BalUnit) : Rat :=
  (s.ring.share : Rat) * unitPercent u / 100 * dieFactor (codeOf s.meas.die)

/-- Nominal rating in mA (Table 11-1). -/
def State.nominal (s : State) : BalUnit → Nat
  | .active => s.cfg.limitMa
  | _ => 1000

/-- Index of a unit. -/
def unitIndex : BalUnit → Nat
  | .pbA => 0
  | .pbB => 1
  | .active => 2

/-- Ceiling of a unit in mA (R349, R350). -/
def State.ceiling (s : State) (u : BalUnit) : Rat :=
  let nom : Rat := s.nominal u
  if !s.cfg.adaptive then nom
  else
    let t := Config.trimmedMax (unitIndex u)
    let m : Rat := nom * (if t < 10400 then 10400 else if 12600 < t then 12600 else t) / 10000
    let c := m * (s.balance.ageing.getD (unitIndex u) none).getD 1
    if c < nom * 104 / 100 then nom * 104 / 100 else c

/-- Counted power of a closed switch in mW (R361). -/
def State.bleedMw (s : State) (k : Nat) : Rat :=
  let p : Rat := s.period
  let pause : Rat := if 50 ≤ s.period then 8292 / 1000 else 1124 / 1000
  s.cellMv k * s.cellMv k / 1000 / ((s.cfg.bleedOhm : Rat) + 3 / 2) * ((p - pause) / p)

/-- Counted current of a closed switch in mA (chapter 11, section 5). -/
def State.bleedMa (s : State) (k : Nat) : Rat := s.cellMv k / ((s.cfg.bleedOhm : Rat) + 3 / 2)

/-- A unit that STR_BAL enables and no fence holds (R312, R360). -/
def State.unitOn (s : State) : BalUnit → Bool
  | .pbA => s.cfg.passive && !s.balance.fenceA
  | .pbB => s.cfg.passive && !s.balance.fenceB
  | .active => s.cfg.active && !s.balance.acvFenced

/-- Own melds carry SETTLING, or the device is in no meld at all (R369, R290); the Dealer sends none. -/
def State.settling (s : State) : Bool := !s.isDealer && s.ring.admitted && s.ring.settle ≠ 0

/-- Nothing balances: share 0, settling, out of service, strap fault or mismatch, lowest state, die trip (R75, R88, R354,
R358, R369, R380, R383). -/
def State.noBalancing (s : State) : Bool :=
  s.ring.share = 0 || s.settling || (!s.isDealer && !s.ring.admitted) || s.strapFault || s.straps.mismatch ||
    s.supply.lowest || s.balance.dieTrip || s.dev.fatal || s.dev.offTest

/-! ### Jobs -/

/-- Elapsed job time as reported: whole seconds rounded up, 1 to 60 (R370). -/
def jobSeconds (ticks : Nat) : Nat :=
  let n := (ticks + 32767) / 32768
  if n < 1 then 1 else if 60 < n then 60 else n

/-- The energy of a job in mJ (R371). -/
def jobEnergy (start now : BitVec 32) (ticks : Nat) (baseline : Option Rat) : Nat :=
  match baseline with
  | none => 0x3FFFF
  | some pb =>
    let e := roundQ (((now - start).toNat : Rat) - pb * ticks / 32768)
    sat 0x3FFFE e.toNat

/-- JOB trace entry. -/
def State.traceJob (s : State) (j : Job) (start : Bool) : State :=
  s.trace 0x8A [BitVec.ofNat 8 (j.cell + 1), BitVec.ofNat 8 (unitCode j.unit), if start then 1 else 0, 0, 0]

/-- Reports a finished job: log record, meld queue of 32, totals (R370, R373). -/
def State.reportJob (s : State) (j : Job) : State :=
  let ticks := s.now - j.startTick
  let secs := jobSeconds ticks
  let e := jobEnergy j.startEnergy s.keeper.energy ticks s.balance.baseline
  let s := s.log 0x0B ([BitVec.ofNat 8 ((j.cell + 1) * 8 + unitCode j.unit), BitVec.ofNat 8 secs] ++ dealBytes s.dealNo ++
    bytesBE 3 e)
  let s := s.traceJob j false
  let full := 32 ≤ s.balance.finished.length
  let s := s.raiseIf full .raivo 0
  s.updBalance fun b =>
    { b with
      finished := if full then b.finished else b.finished ++ [{ cell := j.cell, unit := j.unit, seconds := secs, energy := e }]
      jobsLogged := b.jobsLogged + 1
      jobEnergy := if e = 0x3FFFF then b.jobEnergy else b.jobEnergy + e }

/-- Takes a job away and opens what it drove; the converter's pairs open. -/
def dropJob (j : Job) (b : Balance) : Balance :=
  match j.unit with
  | .active => { b with jobs := b.jobs.filter (· ≠ j), stage := .unselected, wanted := none, command := 0 }
  | _ => { b with jobs := b.jobs.filter (· ≠ j), closed := b.closed.set j.cell false }

/-- Ends a job (R370). A failed core reports nothing (chapter 18, section 1). -/
def State.endJob (s : State) (j : Job) : State :=
  let s := s.updBalance (dropJob j)
  if s.core then s.reportJob j else s

/-- Ends the jobs that meet a condition, in order. -/
def State.endJobs (s : State) (c : Job → Bool) : State := (s.balance.jobs.filter c).foldl (fun t j => t.endJob j) s

/-- The active job. -/
def State.activeJob (s : State) : Option Job := s.balance.jobs.find? (·.unit = .active)

/-- BAL_TRIP latched and counted (R340, R342): three latched within 64 deals fence the converter. -/
def State.latchTrip (s : State) : State :=
  let near := (s.balance.trips64.filter fun d => s.ring.deals < d + 64) ++ [s.ring.deals]
  let s := (s.updBalance fun b => { b with latch := true, trips64 := near, stage := match b.stage with
    | .primaryOn c => .ready c
    | .rectifierOn c => .ready c
    | st => st }).raise .bala 3
  if 3 ≤ near.length then
    ((s.updBalance fun b => { b with acvFenced := true, stage := .unselected }).raise .bala 9).endJobs (·.unit = .active)
  else s

/-- Starts a job at the boundary that commands it (R370). A converter that powers up reads BAL_TRIP first (R339). -/
def State.startJob (s : State) (k : Nat) (u : BalUnit) (discharge : Bool) : State :=
  let j : Job := { cell := k, unit := u, discharge := discharge, startTick := s.now, startEnergy := s.keeper.energy }
  let s := s.updBalance fun b =>
    { b with
      jobs := b.jobs ++ [j]
      baseStart := none
      acvOn := b.acvOn || u = .active
      acvBusy := b.acvBusy || u = .active
      closed := if u = .active then b.closed else b.closed.set k true
      discharge := if u = .active then discharge else b.discharge
      wanted := if u = .active then some k else b.wanted
      stage := if u = .active ∧ b.stage = .unselected then .selecting k else b.stage }
  let s := s.traceJob j true
  if u = .active && s.balance.pin && !s.balance.latch then s.latchTrip else s

/-! ### The scheduler (R365 to R367) -/

/-- Distance of a cell's code from the target. -/
def State.distance (s : State) (k : Nat) : Nat := ((((s.cellCode k).getD (codeOf s.ring.target)) - codeOf s.ring.target)).natAbs

/-- The cell passes R313. -/
def State.cellUsable (s : State) (k : Nat) : Bool := (s.cellCode k).isSome && !(s.cellState k).refused

/-- Above target + band, or below target − band. -/
def State.above (s : State) (k : Nat) : Bool := (s.cellCode k).any fun c => codeOf s.ring.target + s.ring.band.toNat < c
def State.below (s : State) (k : Nat) : Bool := (s.cellCode k).any fun c => c < codeOf s.ring.target - s.ring.band.toNat

/-- Operating window in mV (Table 3-4). -/
def State.window (s : State) : Nat × Nat := (s.cfg.profile.map fun p => windows.getD p (0, 0)).getD (0, 0)

/-- Within 100 mV above the lower window voltage, or within 50 mV below the upper one (R366). -/
def State.nearLow (s : State) (k : Nat) : Bool := s.cellMv k ≤ ((s.window.1 + 100 : Nat) : Rat)
def State.nearHigh (s : State) (k : Nat) : Bool := ((s.window.2 : Rat) - 50) ≤ s.cellMv k

/-- Candidates of R366. -/
def State.dischargeCandidate (s : State) (k : Nat) : Bool := s.cellUsable k && s.above k && !s.nearLow k
def State.chargeCandidate (s : State) (k : Nat) : Bool := s.cellUsable k && s.below k && !s.nearHigh k

/-- A cell excluded only by the margins (throttle reason LIMIT). -/
def State.limitExcluded (s : State) (k : Nat) : Bool :=
  s.cellUsable k && (s.above k && s.nearLow k || s.below k && s.nearHigh k)

/-- The cell of a list with the largest measure, the lowest cell first among equals. -/
def bestCell (f : Nat → Nat) : List Nat → Option Nat
  | [] => none
  | k :: ks =>
    match bestCell f ks with
    | none => some k
    | some j => if f j ≤ f k then some k else some j

/-- A job has reached its target, run 60 s or lost its cell (R367). -/
def State.jobDone (s : State) (j : Job) : Bool :=
  !s.cellUsable j.cell || s.passed j.startTick 60000 || !s.unitOn j.unit ||
    match s.cellCode j.cell with
    | none => true
    | some c => if j.discharge then c ≤ codeOf s.ring.target else codeOf s.ring.target ≤ c

/-- Starts an active job on the candidate farthest from the target (R367). -/
def State.scheduleActive (s : State) : State :=
  if !s.unitOn .active || s.activeJob.isSome then s
  else
    let cs := (List.range s.cfg.cells).filter fun k => s.dischargeCandidate k || s.chargeCandidate k
    match bestCell s.distance cs with
    | none => s
    | some k => (s.endJobs fun j => j.cell = k).startJob k .active (s.above k)

/-- Current the allowance gives the active job, in mA (R367). -/
def State.allowedCurrent (s : State) (k : Nat) : Rat :=
  let v := s.cellMv k
  if v ≤ 0 then 0 else s.allowance .active * 5000 / v

/-- Commands the active job's current: the lesser of ceiling and allowance (R367). -/
def State.commandActive (s : State) : State :=
  match s.activeJob with
  | none => s.updBalance fun b => { b with command := 0 }
  | some j =>
    let a := s.allowedCurrent j.cell
    let c := s.ceiling .active
    s.updBalance fun b => { b with command := if a < c then a else c, kittyOn := b.kittyOn || a < c }

/-- Cells of a bank with a passive job. -/
def State.bankJobs (s : State) (u : BalUnit) : List Nat := (s.balance.jobs.filter (·.unit = u)).map (·.cell)

/-- Ends jobs of a bank, the cell nearest the target first, while the counted power exceeds the allowance (R367). -/
def State.fitBank (u : BalUnit) : Nat → State → State
  | 0, s => s
  | n + 1, s =>
    let cells := s.bankJobs u
    if ((cells.map s.bleedMw).foldl (· + ·) 0) ≤ s.allowance u then s
    else
      match bestCell (fun k => 0x40000 - s.distance k) cells with
      | none => s
      | some k => State.fitBank u n ((s.endJobs fun j => j.cell = k && j.unit = u).updBalance fun b => { b with kittyOn := true })

/-- A switch's neighbours are open and fewer than 9 switches are closed (R315). -/
def State.switchFree (s : State) (k : Nat) : Bool :=
  !(s.balance.closed.getD k false) && !(s.balance.closed.getD (k + 1) false) && !(1 ≤ k && s.balance.closed.getD (k - 1) false) &&
    (s.balance.closed.filter id).length < 9 && !(s.balance.fenced.getD k false)

/-- No passive job runs on the cell or beside it, fewer than 9 run, and the switch is not fenced (R367). -/
def State.jobFits (s : State) (k : Nat) : Bool :=
  let ks := (s.balance.jobs.filter (·.unit ≠ .active)).map (·.cell)
  !(ks.any fun i => i = k || i = k + 1 || i + 1 = k) && ks.length < 9 && !(s.balance.fenced.getD k false)

/-- Closes the switch of a discharge candidate as a new job when R315, the ceiling and the allowance let it (R367). -/
def State.tryBleed (u : BalUnit) (s : State) (k : Nat) : State :=
  let cells := s.bankJobs u
  let amps := ((cells.map s.bleedMa).foldl (· + ·) 0) + s.bleedMa k
  let watts := ((cells.map s.bleedMw).foldl (· + ·) 0) + s.bleedMw k
  if (s.activeJob.any fun j => j.cell = k) || !s.jobFits k || s.ceiling u < amps then s
  else if s.allowance u < watts then s.updBalance fun b => { b with kittyOn := true }
  else s.startJob k u true

/-- Cells by largest distance first. -/
def sortByDistance (f : Nat → Nat) : Nat → List Nat → List Nat
  | 0, _ => []
  | n + 1, ks =>
    match bestCell f ks with
    | none => []
    | some k => k :: sortByDistance f n (ks.filter (· ≠ k))

/-- One bank at the boundary (R367). -/
def State.scheduleBank (s : State) (u : BalUnit) : State :=
  if !s.unitOn u then s
  else
    let s := State.fitBank u 18 s
    let cs := (List.range s.cfg.cells).filter fun k => bankOf k = u && s.dischargeCandidate k && !(s.bankJobs u).contains k
    (sortByDistance s.distance 18 cs).foldl (State.tryBleed u) s

/-- A bank applies the command of one switch: it refuses one that breaks R315 or would take the bank above its ceiling
(R312, chapter 11, section 5), and counts the refusal. -/
def State.applySwitch (s : State) (k : Nat) : State :=
  let amps := (((List.range 18).filter fun i => s.balance.closed.getD i false && bankOf i = bankOf k).map s.bleedMa).foldl (· + ·) 0
  if s.switchFree k && amps + s.bleedMa k ≤ s.ceiling (bankOf k) then s.updBalance fun b => { b with closed := b.closed.set k true }
  else s.raise .balp 0

/-- The banks apply the commands of a boundary in ascending cell order (R315). -/
def State.applyBanks (s : State) : State :=
  ((List.range 18).filter fun k => s.balance.jobs.any fun j => j.cell = k && j.unit ≠ .active).foldl State.applySwitch
    (s.updBalance fun b => { b with closed := List.replicate 18 false })

/-- The scheduler at a deal boundary (R367); it renews every command (R368). A failed core runs none. -/
def State.schedule (s : State) : State :=
  if !s.core then s
  else
    let s := s.updBalance fun b => { b with renewed := true, kittyOn := false, limitOn := false }
    if s.noBalancing then (s.endJobs fun _ => true).updBalance fun b => { b with command := 0 }
    else
      let s := s.endJobs s.jobDone
      let s := s.scheduleActive
      let s := s.commandActive
      let s := s.scheduleBank .pbA
      let s := (s.scheduleBank .pbB).applyBanks
      s.updBalance fun b =>
        { b with limitOn := (s.unitOn .pbA || s.unitOn .active) && (List.range s.cfg.cells).any s.limitExcluded }

/-- COMMAND_TIMEOUT (R368): a unit whose command the core has not renewed for 2 deal periods stops. -/
def execCommandTimeout (u : BalUnit) (s : State) : Host.Outcome State Fault Refusal :=
  .next <| if s.running && !s.core then s.endJobs (·.unit = u) else s

/-! ### Throttle episodes (R374 to R376) -/

/-- Whether a device-scope reason is in force (Table 12-2). -/
def State.reasonOn (s : State) (r : Nat) : Bool :=
  match r with
  | 1 => s.balance.kittyOn
  | 2 => 115 * 1024 ≤ codeOf s.meas.die
  | 3 => s.balance.dieTrip
  | 4 => s.supply.lowest
  | 5 => s.balance.latch
  | 7 => s.balance.limitOn
  | 9 => s.settling
  | _ => false

/-- Device-scope reasons in the rank of R376. -/
def throttleRank : List Nat := [3, 4, 5, 2, 7, 9, 1]

/-- Duration in 10 ms units, saturating at 0x3FFF (R375). -/
def episodeUnits (start stop : Nat) : Nat := sat 0x3FFF ((stop - start) * 100 / 32768)

/-- Reasons that came into force start an episode, those that went out of force mark its end. `outDeals` is the number of
deal boundaries a reason that goes out now has already behind it. -/
def State.noteReasons (s : State) (outDeals : Nat) : State :=
  throttleRank.foldl (fun t r =>
    let on := t.reasonOn r
    match t.balance.episodes.find? (·.reason = r) with
    | none =>
      if on then
        (t.updBalance fun b => { b with episodes := b.episodes ++ [{ reason := r, start := t.now, outAt := none, outDeals := 0 }] }).trace
          0x89 [BitVec.ofNat 8 r, 1, 0, 0, 0]
      else t
    | some _ =>
      t.updBalance fun b => { b with episodes := b.episodes.map fun e =>
        if e.reason ≠ r then e
        else if on then { e with outAt := none, outDeals := 0 }
        else if e.outAt.isNone then { e with outAt := some t.now, outDeals := outDeals }
        else e }) s

/-- THROTTLE record of an ended episode (Table 18-3), device scope. -/
def State.logThrottle (s : State) (reason units : Nat) (ring : Bool) : State :=
  s.log 0x0C ([BitVec.ofNat 8 (reason + if ring then 128 else 0)] ++ bytesBE 2 units ++ dealBytes s.dealNo ++ [0, 0])

/-- At a deal boundary: an episode whose reason has been out of force for one whole deal ends; its final record waits for
a meld (R375). -/
def State.closeEpisodes (s : State) : State :=
  let s := s.updBalance fun b => { b with episodes := b.episodes.map fun e =>
    if e.outAt.isSome then { e with outDeals := e.outDeals + 1 } else e }
  let done := s.balance.episodes.filter fun e => e.outAt.isSome && 2 ≤ e.outDeals
  let s := done.foldl (fun t e =>
    (t.logThrottle e.reason (episodeUnits e.start (e.outAt.getD e.start)) false).trace 0x89 [BitVec.ofNat 8 e.reason, 0, 0, 0, 0]) s
  s.updBalance fun b =>
    { b with
      episodes := b.episodes.filter fun e => !(e.outAt.isSome && 2 ≤ e.outDeals)
      finals := b.finals ++ done.map fun e => (e.reason, episodeUnits e.start (e.outAt.getD e.start)) }

/-! ### Passive banks -/

/-- Fences one switch (R317, R318): its job ends. -/
def State.fenceSwitch (s : State) (k bitNo : Nat) : State :=
  ((s.updBalance fun b => { b with fenced := b.fenced.set k true, closed := b.closed.set k false }).endJobs
    fun j => j.cell = k && j.unit ≠ .active).raise .balp bitNo

/-- BLEED_CURRENT_LIMIT (R317): the switch opens for the rest of the deal; the third trip within 64 deals fences it. -/
def execBleedCurrentLimit (cell : Fin 18) (s : State) : Host.Outcome State Fault Refusal :=
  let k := cell.val
  .next <|
    if !(s.balance.closed.getD k false) || s.balance.tripped.getD k false || s.meas.pause then s
    else
      let near := ((s.balance.trips.getD k []).filter fun d => s.ring.deals < d + 64) ++ [s.ring.deals]
      let s := (s.updBalance fun b => { b with tripped := b.tripped.set k true, trips := b.trips.set k near }).raise .balp 1
      if 3 ≤ near.length then s.fenceSwitch k 3 else s

/-- BLEED_CURRENT_CHECK (R318): below 40 % of Vcell / (Rbleed + 3.0 Ω) on two consecutive measured deals fences the
switch. -/
def execBleedCurrentCheck (cell : Fin 18) (ua : Nat) (s : State) : Host.Outcome State Fault Refusal :=
  let k := cell.val
  .next <|
    if !(s.balance.closed.getD k false) || s.balance.tripped.getD k false then s
    else
      let low : Bool := (ua : Rat) < s.cellMv k * 400 / ((s.cfg.bleedOhm : Rat) + 3)
      let r := s.balance.lowRun.getD k 0
      let n := if !low then 0 else if s.balance.lowAt.getD k none = some s.ring.deals && r ≠ 0 then r else r + 1
      let s := s.updBalance fun b => { b with lowRun := b.lowRun.set k n, lowAt := b.lowAt.set k (some s.ring.deals) }
      if n = 2 then s.fenceSwitch k 4 else s

/-- BLEED_LEAKAGE (R319): 5 mA or more through a switch commanded open, on two consecutive deals, fences its bank; the
cell is reported. -/
def execBleedLeakage (cell : Fin 18) (ua : Nat) (s : State) : Host.Outcome State Fault Refusal :=
  let k := cell.val
  .next <|
    if s.balance.closed.getD k false || !s.running || (if k < 9 then s.balance.fenceA else s.balance.fenceB) then s
    else
      let d := s.ring.deals
      let r := s.balance.leakRun.getD k 0
      let at_ := s.balance.leakAt.getD k none
      let n := if ua < 5000 then 0 else if at_ = some d && r ≠ 0 then r else if at_.any (· + 1 = d) then r + 1 else 1
      let s := s.updBalance fun b => { b with leakRun := b.leakRun.set k n, leakAt := b.leakAt.set k (some d) }
      if n = 2 then
        ((s.updBalance fun b =>
          { b with
            leakCell := some k
            fenceA := b.fenceA || k < 9
            fenceB := b.fenceB || !(k < 9)
            closed := b.closed.mapIdx fun i c => c && decide (bankOf i ≠ bankOf k) }).endJobs (·.unit = bankOf k)).raise .balp 5
      else s

/-! ### The active converter -/

/-- Fences the converter: gates low, every pair open, its job ends (R337, R344). -/
def State.fenceAcv (s : State) (bitNo : Nat) : State :=
  ((s.updBalance fun b => { b with acvFenced := true, stage := .unselected, wanted := none, command := 0 }).raise .bala bitNo).endJobs
    (·.unit = .active)

/-- Both gates off. -/
def gatesOff (b : Balance) : Balance :=
  { b with stage := match b.stage with
    | .primaryOn c => .ready c
    | .rectifierOn c => .ready c
    | st => st }

/-- The cell the converter has selected. -/
def ConvStage.cell : ConvStage → Option Nat
  | .unselected => none
  | .selecting c => some c
  | .ready c => some c
  | .primaryOn c => some c
  | .rectifierOn c => some c

/-- A gate is on. -/
def ConvStage.gateOn : ConvStage → Bool
  | .primaryOn _ => true
  | .rectifierOn _ => true
  | _ => false

/-- SELECTION_CONFIRMED (R333): the change has run to its end; a newer command starts its own change, else the soft start
begins (R331). -/
def execSelectionConfirmed (s : State) : Host.Outcome State Fault Refusal :=
  .next <| s.updBalance fun b =>
    match b.stage with
    | .selecting c =>
      match b.wanted with
      | none => { b with stage := .unselected }
      | some w => if w = c then { b with stage := .ready c, soft := 0, skipNext := false } else { b with stage := .selecting w }
    | _ => b

/-- The converter may switch: an active job, no latch, no stop, no lowest state, no die trip, no sense-wire test
(R105, R181, R335, R336, R340, R380). -/
def State.maySwitch (s : State) : Bool :=
  s.activeJob.isSome && !s.balance.latch && !s.balance.stopped && !s.supply.lowest && !s.balance.dieTrip &&
    !s.balance.acvFenced && !s.meas.testDeal && !s.dev.fatal && !s.testing [17]

/-- SWITCHING_PERIOD (R326, R329 to R331): a period boundary. A rectifying leg not at zero at T − td counts, and the next
period is skipped; otherwise a period is enabled while the measured mean lies below the command. -/
def execSwitchingPeriod (rectifierNotZero : Bool) (meanMa : Nat) (s : State) : Host.Outcome State Fault Refusal :=
  let notZero := rectifierNotZero && (match s.balance.stage with | .rectifierOn _ => true | _ => false)
  let s := s.raiseIf notZero .bala 0
  let skip := s.balance.skipNext || notZero
  let enable := s.maySwitch && !skip && ((meanMa : Rat) < s.balance.command)
  .next <| s.updBalance fun b =>
    let b := gatesOff { b with legsHit := [], skipNext := false }
    match b.stage with
    | .ready c => if enable then { b with stage := .primaryOn c, soft := sat 32 (b.soft + 1) } else b
    | _ => b

/-- ACV_PEAK (R328): the primary leg is off; after the dead time the rectifying leg conducts (R326). -/
def execAcvPeak (s : State) : Host.Outcome State Fault Refusal :=
  .next <| s.updBalance fun b => match b.stage with
    | .primaryOn c => { b with stage := .rectifierOn c }
    | _ => b

/-- ACV_ZERO_CURRENT (R328): the rectifying leg is off. -/
def execAcvZeroCurrent (s : State) : Host.Outcome State Fault Refusal :=
  .next <| s.updBalance fun b => match b.stage with
    | .rectifierOn c => { b with stage := .ready c }
    | _ => b

/-- ACV_PEAK_TIMEOUT (R329): the primary leg is turned off and counted; the period ends. -/
def execAcvPeakTimeout (s : State) : Host.Outcome State Fault Refusal :=
  .next <|
    match s.balance.stage with
    | .primaryOn c => (s.updBalance fun b => { b with stage := .ready c }).raise .bala 0
    | _ => s

/-- Notes a detection on a leg within this period. -/
def noteLeg (l : Leg) (b : Balance) : Balance := { b with legsHit := if b.legsHit.contains l then b.legsHit else b.legsHit ++ [l] }

/-- ACV_DESATURATION (R335, R337): both gates off, rest of the period skipped; the eighth in a deal stops the converter,
stops on three consecutive deals fence it; both legs within a period fence at once. -/
def execAcvDesaturation (leg : Leg) (s : State) : Host.Outcome State Fault Refusal :=
  .next <|
    if s.balance.acvFenced || s.activeJob.isNone then s
    else
      let s := (s.updBalance fun b => { noteLeg leg (gatesOff b) with desats := b.desats + 1 }).raise .bala 1
      if s.balance.legsHit.length = 2 then s.fenceAcv 7
      else if s.balance.desats = 8 then
        let s := s.updBalance fun b => { b with stopped := true, desatStopped := true, desatStops := b.desatStops + 1 }
        if s.balance.desatStops = 3 then s.fenceAcv 5 else s
      else s

/-- ACV_HARD_SHORT (R336, R337): gates off, every SEL low, stopped to the deal boundary; the second on one leg within 64
deals fences, and so do both legs within a period. The hard-short comparator is never blanked. -/
def execAcvHardShort (leg : Leg) (s : State) : Host.Outcome State Fault Refusal :=
  .next <|
    if s.balance.acvFenced || s.activeJob.isNone then s
    else
      let near := (s.balance.shorts.filter fun d => s.ring.deals < d + 64) ++ [s.ring.deals]
      let s := (s.updBalance fun b =>
        { noteLeg leg (gatesOff b) with stage := .unselected, stopped := true, shorts := near }).raise .bala 2
      if s.balance.legsHit.length = 2 then s.fenceAcv 7 else if 2 ≤ near.length then s.fenceAcv 6 else s

/-- SHOOT_THROUGH (R337, R338): fenced at once, no retry. -/
def execShootThrough (s : State) : Host.Outcome State Fault Refusal :=
  .next <| if s.balance.acvFenced || !s.running then s else s.fenceAcv 7

/-- SEL_LEVEL_TIMEOUT (R334): a SEL output off its level for 2 ms, or two high, fences the converter. -/
def execSelLevelTimeout (s : State) : Host.Outcome State Fault Refusal :=
  .next <| if s.balance.acvFenced || !s.running then s else s.fenceAcv 8

/-- ACV is powered: an active job is assigned, a cell is selected, or no whole deal has passed without either (Table 1-5). -/
def State.acvPowered (s : State) : Bool := s.activeJob.isSome || s.balance.stage ≠ .unselected || s.balance.acvOn

/-- BAL_TRIP (R339, R340): the pin asserts. While ACV is powered the trip is latched and counted, unless the latch
holds. -/
def execBalTrip (s : State) : Host.Outcome State Fault Refusal :=
  .next <|
    let s := s.updBalance fun b => { b with pin := true }
    if s.running && s.acvPowered && !s.balance.latch && !s.balance.acvFenced then s.latchTrip.noteReasons 0 else s

/-- BAL_TRIP_INACTIVE (R341): the pin has been inactive for 50 µs, so that the next deal boundary may clear the latch. -/
def execBalTripInactive (s : State) : Host.Outcome State Fault Refusal :=
  .next <| s.updBalance fun b => { b with pin := false }

/-- The converter at a deal boundary: the latch clears or its clear is refused (R341, R342), stops end, and a job whose
cell is not selected starts a selection change (R333, R336). -/
def State.acvBoundary (s : State) : State :=
  let refuse := s.balance.latch && s.balance.pin
  let busy := s.activeJob.isSome
  let s := s.updBalance fun b =>
    { b with
      acvOn := b.acvOn && b.acvBusy
      acvBusy := busy
      latch := refuse
      refused := if refuse then b.refused + 1 else 0
      soft := if b.latch && !refuse then 0 else b.soft
      stopped := false
      desats := 0
      desatStops := if b.desatStopped then b.desatStops else 0
      desatStopped := false
      tripped := List.replicate 18 false }
  if 16 ≤ s.balance.refused && !s.balance.acvFenced then s.fenceAcv 9 else s

/-- After the scheduler: a job whose cell is not selected starts its selection change. -/
def State.acvSelect (s : State) : State :=
  match s.activeJob with
  | none => s
  | some j =>
    s.updBalance fun b =>
      { b with
        wanted := some j.cell
        stage := match b.stage with
          | .unselected => .selecting j.cell
          | .ready c => if c = j.cell then .ready c else .selecting j.cell
          | st => st }

/-! ### Die trip -/

/-- DIE_TRIP (R380, R382): a comparator trips. A new trip opens every switch, drops every SEL output and stops the pumps;
every job ends; the contactors open unsequenced (R444). The third trip within 10 min fences the balancing units. -/
def execDieTrip (sensor : Fin 4) (s : State) : Host.Outcome State Fault Refusal :=
  .next <|
    if !s.running then s
    else
      let s := s.updBalance fun b => { b with comparators := b.comparators.set sensor.val true }
      if s.balance.dieTrip then s
      else
        let near := (s.balance.dieTrips.filter fun t => !(s.passed t 600000)) ++ [s.now]
        let s := s.updBalance fun b => { b with dieTrip := true, dieTrips := near, stage := .unselected,
                                                closed := List.replicate 18 false }
        let s := (s.endJobs fun _ => true).raise .therm 0
        let s := (List.range 6).foldl (fun t i =>
          if (t.chan i).stage = .off then t
          else if chanRole t.cfg i = .coil then t.commandOff i 5
          else t.ruleOff i 5 .held) s
        let s := if s.isDealer then s.openPack 5 else s
        let s := if 3 ≤ near.length then
            (s.updBalance fun b => { b with fenceA := true, fenceB := true, acvFenced := true }).raise .therm 2
          else s
        s.noteReasons 0

/-- The die trip releases at the first boundary with the die below 125 °C and no comparator tripped (R381); heater and
lamp channels still commanded on restart (R407). -/
def State.dieRelease (s : State) : State :=
  if s.balance.dieTrip && codeOf s.meas.die < 125 * 1024 && !(s.balance.comparators.any id) then
    let s := s.updBalance fun b => { b with dieTrip := false }
    (List.range 6).foldl (fun t i =>
      if (t.chan i).stage = .held && (t.chan i).command && !t.supply.lowest then t.updChan i fun c => { c with stage := .pumpWait }
      else t) s.settle
  else s

/-! ### Ageing -/

/-- AGEING record (Table 18-3). -/
def State.logAgeing (s : State) (monitor value : Nat) (u : BalUnit) : State :=
  s.log 0x13 ([BitVec.ofNat 8 monitor] ++ bytesBE 2 value ++ bytesBE 2 (s.ceiling u).floor.toNat ++ bytesBE 3 s.nv.runHours)

/-- AGEING_MEASUREMENT (R350 to R352): hourly. Ceilings follow the monitors; a limit is reported once per boot; the
readings are logged with the first measurement of a boot and every 24 h of RUN. -/
def execAgeingMeasurement (ratioA ratioB dropConv dropSdr : Nat) (s : State) : Host.Outcome State Fault Refusal :=
  .next <|
    if !s.running then s
    else
      let d := if dropConv < dropSdr then dropSdr else dropConv
      let f (r : Nat) : Rat := if r ≤ 4096 then 1 else 4096 / (r : Rat)
      let s := s.updNv fun n => { n with runHours := n.runHours + 1 }
      let s := s.updBalance fun b =>
        { b with ageing := [some (f ratioA), some (f ratioB), some (1 - 2 * (d : Rat) / 100000)] }
      let atEnd : List Bool := [4096 * 14 ≤ ratioA * 10, 4096 * 14 ≤ ratioB * 10, 10000 ≤ dropConv, 10000 ≤ dropSdr]
      let old := s.balance.aged
      let s := (List.range 4).foldl (fun t i =>
        if atEnd.getD i false && !(old.getD i false) then t.raise (if i < 2 then .balp else .bala) (if i < 2 then 2 else 4) else t) s
      let s := s.updBalance fun b => { b with aged := (List.range 4).map fun i => old.getD i false || atEnd.getD i false }
      if s.balance.agedAt.all fun t => passedMs t s.dev.runTicks 86400000 then
        ((((s.logAgeing 1 ratioA .pbA).logAgeing 2 ratioB .pbB).logAgeing 3 dropConv .active).logAgeing 4 dropSdr .active).updBalance
          fun b => { b with agedAt := some s.dev.runTicks }
      else s

end Sys2Proof.Machine
end

