-- ==== Sys2Proof/Machine/Frames.lean ====
section
/-!
DEFINITION. Frames, control words and payloads of chapter 09: how a frame stands on the line, how a control word is
read, and the fields of BEACON, MELD, TRUMP, ROLLCALL, LIFELINE and SERVICE payloads.
-/
namespace Sys2Proof.Machine

/-! ### Frame on the line -/

/-- TYPE codes of Table 9-3. -/
def FrameType.code : FrameType → Nat
  | .beacon => 1
  | .meld => 2
  | .trump => 3
  | .rollcall => 4
  | .lifeline => 5
  | .service => 6

/-- Payload lengths a type allows (Table 9-3). -/
def FrameType.lenOk (t : FrameType) (n : Nat) : Bool :=
  match t with
  | .beacon => n = 14
  | .meld => 1 ≤ n && n ≤ 64
  | .trump => n = 4
  | .rollcall => 4 ≤ n && n ≤ 62
  | .lifeline => 19 ≤ n && n ≤ 31
  | .service => 2 ≤ n && n ≤ 59

/-- Header word 1 (Table 9-2). -/
def headerWord (f : TxFrame) : Word :=
  word (f.ftype.code * 2 ^ 14 + f.src.toNat * 2 ^ 8 + portBit f.side * 2 ^ 7 + f.payload.length)

/-- PAR makes bits 11:0 hold an even number of ones (Table 9-4). -/
def parBit (hop : BitVec 6) (seq : BitVec 5) : Nat :=
  ((bitsOf hop).map Bool.toNat).sum + ((bitsOf seq).map Bool.toNat).sum

/-- Tail word 2 (Table 9-4). -/
def tailWord (crc : BitVec 24) (hop : BitVec 6) (seq : BitVec 5) : Word :=
  word (crc.toNat % 64 * 2 ^ 12 + hop.toNat * 2 ^ 6 + seq.toNat * 2 + parBit hop seq % 2)

/-- The words of a frame after its comma (chapter 09, section 2): headers, payload, tails. -/
def frameWords (f : TxFrame) (seq : BitVec 5) : List Word :=
  let body := [headerWord f, f.deal] ++ f.payload
  let crc := crcWords body
  body ++ [word (crc.toNat / 64), tailWord crc f.hop seq]

/-! ### Control words (Tables 9-5, 9-6) -/

/-- A control word from KIND and ARG. -/
def controlWord (kind arg : Nat) : Word :=
  word (kind * 2 ^ 14 + (15 - kind) * 2 ^ 10 + arg * 2 ^ 5 + (31 - arg))

/-- KIND and ARG of a symbol. -/
def Control.parts : Control → Nat × Nat
  | .credit r f => (1, r.toNat * 16 + f.toNat)
  | .ack q => (2, q.toNat)
  | .nak q => (3, q.toNat)
  | .idle r f => (4, r.toNat * 16 + f.toNat)
  | .marker => (5, 0x15)
  | .skip q => (6, q.toNat)

/-- The word of a symbol. -/
def Control.toWord (c : Control) : Word := controlWord c.parts.1 c.parts.2

/-- A control word read under R250: `none` where its complements fail, its KIND is reserved or its ARG departs from
Table 9-6. -/
def readControl (w : Word) : Option Control :=
  let kind := field w 17 14
  let arg := field w 9 5
  if field w 13 10 ≠ 15 - kind ∨ field w 4 0 ≠ 31 - arg then none
  else
    match kind with
    | 1 => if arg / 8 % 2 = 1 then none else some (.credit (BitVec.ofNat 1 (arg / 16)) (BitVec.ofNat 3 arg))
    | 2 => some (.ack (BitVec.ofNat 5 arg))
    | 3 => some (.nak (BitVec.ofNat 5 arg))
    | 4 => if arg / 8 % 2 = 1 then none else some (.idle (BitVec.ofNat 1 (arg / 16)) (BitVec.ofNat 3 arg))
    | 5 => if arg = 0x15 then some .marker else none
    | 6 => some (.skip (BitVec.ofNat 5 arg))
    | _ => none

/-! ### Payload helpers -/

/-- A payload word; a missing one reads 0. -/
def pw (ws : List Word) (i : Nat) : Word := ws.getD i 0

/-- `n` words of 16 bits in bits 15:0, big-endian (section 4.5). -/
def words16 (n x : Nat) : List Word := (List.range n).map fun i => word (x / 2 ^ (16 * (n - 1 - i)) % 65536)

/-- The number in words of 16 bits. -/
def ofWords16 (ws : List Word) : Nat := ws.foldl (fun acc w => acc * 65536 + field w 15 0) 0

/-- A 24-bit check as two words: [23:6], and [5:0] in bits 17:12. -/
def checkWords (c : BitVec 24) : Word × Nat := (word (c.toNat / 64), c.toNat % 64 * 2 ^ 12)

/-- A 24-bit check from its two words. -/
def ofCheckWords (a b : Word) : BitVec 24 := BitVec.ofNat 24 (a.toNat * 64 + field b 17 12)

/-! ### BEACON (Tables 9-8, 9-9) -/

/-- String command codes (R252); a reserved code is taken as OPEN. -/
def cmdOfCode : Nat → StringCmd
  | 1 => .precharge
  | 2 => .close
  | 3 => .closed
  | _ => .open

/-- Code of a string command. -/
def StringCmd.code : StringCmd → Nat
  | .open => 0
  | .precharge => 1
  | .close => 2
  | .closed => 3

/-- The fields of a BEACON payload. -/
structure Beacon where
  rst    : Bool
  sealc  : Bool
  pchg   : Bool
  closed : Bool
  nosvc  : Bool
  lock   : Bool
  kper   : Bool
  isSealed : Bool
  legacy : Bool
  rthr   : Nat
  period : Nat
  annPeriod : Nat
  annDeal : Word
  sealNo : Word
  sealChk : BitVec 24
  count  : Nat
  cmds   : List StringCmd
  target : Word
  band   : Word
  share  : Nat
  key    : Word
  /-- Admitted positions. -/
  map    : List Nat
  deriving DecidableEq, Repr

/-- Reset key of word 10 (R252). -/
def resetKey : Word := 0x2D2D2

/-- Word 11 + j of the admitted map: bit i stands for position 16j + i + 1 (Table 9-9). -/
def mapWord (ps : List Nat) (j : Nat) : Word :=
  word (((List.range 16).map fun i => flag i (16 * j + i + 1 ≤ 47 && ps.contains (16 * j + i + 1))).sum)

/-- The 14 payload words of a beacon. -/
def Beacon.words (b : Beacon) : List Word :=
  [word (flag 17 b.rst + flag 16 b.sealc + flag 15 b.pchg + flag 14 b.closed + flag 13 b.nosvc + flag 12 b.lock +
      flag 11 b.kper + flag 10 b.isSealed + flag 9 b.legacy + b.rthr % 16 * 32),
    word (b.period % 8 * 2 ^ 15 + b.annPeriod % 8 * 2 ^ 12), b.annDeal, b.sealNo, (checkWords b.sealChk).1,
    word ((checkWords b.sealChk).2 + b.count % 64 * 64),
    word (((b.cmds.getD 0 .open).code) * 2 ^ 15 + ((b.cmds.getD 1 .open).code) * 2 ^ 12 + ((b.cmds.getD 2 .open).code) * 2 ^ 9),
    b.target, b.band, word b.share, if b.rst then resetKey else 0, mapWord b.map 0, mapWord b.map 1, mapWord b.map 2]

/-- Positions of an admitted map. -/
def mapOf (ws : List Word) : List Nat :=
  (List.range 47).filterMap fun i => if bit (pw ws (11 + i / 16)) (i % 16) then some (i + 1) else none

/-- The fields of received beacon words. A ring reset is requested only with RST and the key together (R252). -/
def readBeacon (ws : List Word) : Beacon :=
  let w0 := pw ws 0
  let w1 := pw ws 1
  let w5 := pw ws 5
  let w6 := pw ws 6
  { rst := bit w0 17 && pw ws 10 == resetKey
    sealc := bit w0 16
    pchg := bit w0 15
    closed := bit w0 14
    nosvc := bit w0 13
    lock := bit w0 12
    kper := bit w0 11
    isSealed := bit w0 10
    legacy := bit w0 9
    rthr := field w0 8 5
    period := field w1 17 15
    annPeriod := field w1 14 12
    annDeal := pw ws 2
    sealNo := pw ws 3
    sealChk := ofCheckWords (pw ws 4) w5
    count := field w5 11 6
    cmds := [cmdOfCode (field w6 17 15), cmdOfCode (field w6 14 12), cmdOfCode (field w6 11 9)]
    target := pw ws 7
    band := pw ws 8
    share := (pw ws 9).toNat
    key := pw ws 10
    map := mapOf ws }

/-! ### MELD (Tables 9-10 to 9-12) -/

/-- Fields of a received part A. -/
structure MeldA where
  settling : Bool
  pred     : Bool
  unsync   : Bool
  curp     : Bool
  curovr   : Bool
  curinv   : Bool
  sfault   : Bool
  smism    : Bool
  pside    : Bool
  rcause   : Bool
  ncell    : Nat
  summary  : Word
  /-- Sticky words of the 18 blocks in summary order, 0 where the summary bit is clear. -/
  status   : List Word
  cause    : Word
  cells    : List Word
  states   : List Nat
  /-- Diverse code of each cell in DISAGREE or MISMATCH; the cell code for the others. -/
  diverse  : List Word
  current  : Word
  acc      : BitVec 48
  deriving DecidableEq, Repr

/-- Status words spread over the 18 blocks of the summary word. -/
def spreadStatus (summary : Word) : Nat → List Word → List Word
  | 0, _ => []
  | n + 1, ws =>
    if bit summary n then
      match ws with
      | [] => 0 :: spreadStatus summary n []
      | w :: rest => w :: spreadStatus summary n rest
    else 0 :: spreadStatus summary n ws

/-- Number of set bits of a word. -/
def ones (w : Word) : Nat := ((List.range 18).filter fun i => w.getLsbD i).length

/-- Cell states of the packed words (R254): six 3-bit states per word. -/
def unpackStates (n : Nat) (ws : List Word) : List Nat :=
  (List.range n).map fun k => field (pw ws (k / 6)) (17 - 3 * (k % 6)) (15 - 3 * (k % 6))

/-- Diverse codes given back to their cells: an entry for each state 5 or 6, in cell order. -/
def spreadDiverse : List Nat → List Word → List Word → List Word
  | [], _, _ => []
  | st :: sts, cs, ds =>
    if st = 5 ∨ st = 6 then ds.headD 0 :: spreadDiverse sts cs.tail ds.tail
    else cs.headD 0 :: spreadDiverse sts cs.tail ds

/-- Reads part A words (R254). -/
def readMeldA (ws : List Word) : MeldA :=
  let w0 := pw ws 0
  let n := field w0 4 0
  let summary := pw ws 1
  let k := ones summary
  let rest := ws.drop (2 + k)
  let rcause := bit w0 6
  let rest1 := if rcause then rest.drop 1 else rest
  let cells := rest1.take n
  let stw := (rest1.drop n).take ((n + 5) / 6)
  let states := unpackStates n stw
  let rest2 := rest1.drop (n + (n + 5) / 6)
  let nd := (states.filter fun st => st = 5 ∨ st = 6).length
  let rest3 := rest2.drop nd
  { settling := bit w0 15
    pred := bit w0 14
    unsync := bit w0 13
    curp := bit w0 12
    curovr := bit w0 11
    curinv := bit w0 10
    sfault := bit w0 9
    smism := bit w0 8
    pside := bit w0 7
    rcause := rcause
    ncell := n
    summary := summary
    status := spreadStatus summary 18 ((ws.drop 2).take k)
    cause := if rcause then pw rest 0 else 0
    cells := cells
    states := states
    diverse := spreadDiverse states cells (rest2.take nd)
    current := pw rest3 0
    acc := BitVec.ofNat 48 (ofWords16 ((rest3.drop 1).take 3)) }

/-- Fields of a received part B. -/
structure MeldB where
  nprobe : Nat
  nntc   : Nat
  mgt    : Bool
  probes : List Word
  pstates : List Nat
  ntc    : List Word
  die    : Word
  vmod   : Word
  energy : BitVec 32
  bleed  : Word
  act    : Word
  jobs   : List (Word × Word)
  thr    : List Word
  fan    : Option Word
  deriving DecidableEq, Repr

/-- Pairs of successive words. -/
def pairUp : Nat → List Word → List (Word × Word)
  | 0, _ => []
  | n + 1, ws => (ws.headD 0, ws.tail.headD 0) :: pairUp n (ws.drop 2)

/-- Probe states of the packed words (R255): nine 2-bit states per word. -/
def unpackProbes (n : Nat) (ws : List Word) : List Nat :=
  (List.range n).map fun k => field (pw ws (k / 9)) (17 - 2 * (k % 9)) (16 - 2 * (k % 9))

/-- Reads part B words (R255, Table 9-12). -/
def readMeldB (ws : List Word) : MeldB :=
  let w0 := pw ws 0
  let k := field w0 15 11
  let m := field w0 10 7
  let mgt := bit w0 6
  let r1 := ws.drop (1 + k)
  let r2 := r1.drop ((k + 8) / 9)
  let r3 := r2.drop m
  let mg := r3.drop 2
  let mgh := if mgt then pw mg 0 else 0
  let j := field mgh 17 16
  let t := field mgh 15 14
  { nprobe := k
    nntc := m
    mgt := mgt
    probes := (ws.drop 1).take k
    pstates := unpackProbes k (r1.take ((k + 8) / 9))
    ntc := r2.take m
    die := pw r3 0
    vmod := pw r3 1
    energy := BitVec.ofNat 32 (ofWords16 ((mg.drop 1).take 2))
    bleed := pw mg 3
    act := pw mg 4
    jobs := if mgt then pairUp j (mg.drop 5) else []
    thr := (mg.drop (5 + 2 * j)).take t
    fan := if bit mgh 13 then some (pw mg (5 + 2 * j + t)) else none }

/-- PART field of a MELD word 0 (R253). -/
def meldPart (ws : List Word) : Nat := field (pw ws 0) 17 16

/-- Packs 3-bit cell states into words (R254). -/
def packStates (sts : List Nat) : List Word :=
  (List.range ((sts.length + 5) / 6)).map fun j =>
    word (((List.range 6).map fun i => sts.getD (6 * j + i) 0 * 2 ^ (15 - 3 * i)).sum)

/-- Packs 2-bit probe states into words (R255). -/
def packProbes (sts : List Nat) : List Word :=
  (List.range ((sts.length + 8) / 9)).map fun j =>
    word (((List.range 9).map fun i => sts.getD (9 * j + i) 0 * 2 ^ (16 - 2 * i)).sum)

/-! ### ROLLCALL (Table 9-14) -/

/-- Word 0 of a ROLLCALL or SERVICE frame: subtype, target and chunk index. -/
def callWord (sub target chunk : Nat) : Word := word (sub * 2 ^ 14 + target * 2 ^ 8 + chunk)

/-- Subtype of word 0. -/
def subtype (ws : List Word) : Nat := field (pw ws 0) 17 14

/-- Target position of word 0. -/
def targetOf (ws : List Word) : Nat := field (pw ws 0) 13 8

/-- A CALL payload (Table 9-14). -/
def callPayload (target : Nat) (sealNo : Word) (period : Nat) (closed : Bool) (sender latency : Nat) : List Word :=
  [callWord 1 target 0, sealNo, word (period * 2 ^ 15 + flag 14 closed + sender * 2 ^ 8),
    word (latency / 2 ^ 18), word latency]

/-- The fields of an ANSWER or REJOIN after word 0. -/
structure Answer where
  factory : FactoryNumber
  print   : List Word
  sealNo  : Word
  sealChk : BitVec 24
  l1      : Nat
  sfault  : Bool
  smism   : Bool
  pside   : Nat
  cause   : Word
  deriving DecidableEq, Repr

/-- Payload of an ANSWER (subtype 2) or REJOIN (subtype 5). -/
def Answer.words (a : Answer) (sub : Nat) : List Word :=
  [callWord sub 0 0] ++ words16 4 a.factory.toNat ++ a.print ++
    [a.sealNo, (checkWords a.sealChk).1,
      word ((checkWords a.sealChk).2 + a.l1 * 2 ^ 8 + flag 7 a.sfault + flag 6 a.smism + flag 5 (a.pside = 1)), a.cause]

/-- Reads an ANSWER or REJOIN. -/
def readAnswer (ws : List Word) : Answer :=
  { factory := BitVec.ofNat 64 (ofWords16 ((ws.drop 1).take 4))
    print := (ws.drop 5).take 4
    sealNo := pw ws 9
    sealChk := ofCheckWords (pw ws 10) (pw ws 11)
    l1 := field (pw ws 11) 11 8
    sfault := bit (pw ws 11) 7
    smism := bit (pw ws 11) 6
    pside := field (pw ws 11) 5 5
    cause := pw ws 12 }

/-- Words of one seal entry: factory number, then the fingerprint. -/
def entryWords (e : SealEntry) : List Word := words16 4 e.factory.toNat ++ e.fingerprint

/-- SEAL_CHUNK number `c` of a record, up to 7 entries (Table 9-14); the last carries the check. -/
def chunkPayload (r : SealRecord) (c : Nat) : List Word :=
  let last := r.entries.length ≤ 7 * (c + 1)
  [callWord 3 63 c, r.number, word (r.entries.length * 2 ^ 12 + flag 11 r.closed + r.l1Count.toNat * 2 ^ 7), word (7 * c)] ++
    ((r.entries.drop (7 * c)).take 7).flatMap entryWords ++
    if last then [(checkWords r.check).1, word (checkWords r.check).2] else []

/-- Entries in chunk words. -/
def readEntries : Nat → List Word → List SealEntry
  | 0, _ => []
  | n + 1, ws =>
    { factory := BitVec.ofNat 64 (ofWords16 (ws.take 4)), fingerprint := (ws.drop 4).take 4 } :: readEntries n (ws.drop 8)

/-- SEAL_CONFIRM payload. -/
def confirmPayload (r : SealRecord) (result : Nat) : List Word :=
  [callWord 4 0 0, r.number, (checkWords r.check).1, word (checkWords r.check).2, word result]

/-! ### SERVICE (Table 9-15) -/

/-- Image bytes two per word, big-endian in bits 15:0. -/
def imageWords : List Byte → List Word
  | [] => []
  | [a] => [word (a.toNat * 256)]
  | a :: b :: rest => word (a.toNat * 256 + b.toNat) :: imageWords rest

/-- Bytes of image words. -/
def imageBytes (ws : List Word) : List Byte :=
  ws.flatMap fun w => [BitVec.ofNat 8 (w.toNat / 256), BitVec.ofNat 8 w.toNat]

end Sys2Proof.Machine
end

