-- ==== Sys2Proof/Machine/Link.lean ====
section
/-!
DEFINITION. The link layer of a port (chapters 08 and 09): what it sends at a frame boundary, credits, acknowledgement,
retries and skips, link-up and link-down, fencing, and the commands of the physical layer.
-/
namespace Sys2Proof.Machine

/-! ### Credits -/

/-- Frees a receive slot of the general or the reserve region (R267, R268). -/
def PortState.free (reserve : Bool) (q : PortState) : PortState :=
  if reserve then { q with reserveFreed := q.reserveFreed + 1, creditDue := true }
  else { q with freed := q.freed + 1, creditDue := true }

/-- Frees the slot a relayed frame occupies. -/
def State.freeSlot (s : State) : Option (Port × Bool) → State
  | none => s
  | some (p, r) => s.updPort p (PortState.free r)

/-- Frees the slots of dropped frames. -/
def State.freeSlots (s : State) (fs : List TxFrame) : State := fs.foldl (fun t f => t.freeSlot f.slot) s

/-- The credit a frame may start on: `some false` general, `some true` reserve (R268). -/
def creditFor (q : PortState) (f : TxFrame) : Option Bool :=
  if (q.started - q.freedSeen).toNat < 7 then some false
  else if f.ftype = .trump ∧ q.resStarted = q.resFreed then some true
  else none

/-- Consumes a credit at a frame start (R267). -/
def useCredit (reserve : Bool) (q : PortState) : PortState :=
  if reserve then { q with resStarted := q.resStarted + 1 } else { q with started := q.started + 1 }

/-- The retransmit buffer takes a further frame: seven copies and one TRUMP copy (section 6). -/
def bufferRoom (q : PortState) (f : TxFrame) : Bool :=
  let held := q.unacked.filter fun u => !u.abandoned
  if f.ftype = .trump then held.length < 8 else (held.filter fun u => u.frame.ftype ≠ .trump).length < 7

/-! ### Sending -/

/-- Starts a new frame: next SEQ, a copy in the retransmit buffer (R267, R269). -/
def startNew (f : TxFrame) (reserve : Bool) (q : PortState) : PortState :=
  let q := useCredit reserve q
  { q with txSeq := q.txSeq + 1, line := [.frame f q.txSeq],
           unacked := q.unacked ++ [{ seq := q.txSeq, frame := f, tries := 0, abandoned := false }] }

/-- Starts a retransmission or a frame re-sent after a cut-off. -/
def startRetry (u : Unacked) (reserve : Bool) (q : PortState) : PortState :=
  { useCredit reserve q with line := [.frame u.frame u.seq], retryQ := q.retryQ.filter (· ≠ u.seq) }

/-- The copy a NAK or timer asked for and that still waits, oldest request first. -/
def retryHead (q : PortState) : Option Unacked :=
  q.retryQ.findSome? fun x => q.unacked.find? fun u => u.seq = x && !u.abandoned

/-- The control symbols due at a boundary: at most one CREDIT, one ACK or NAK and one SKIP (R262). -/
def controlsDue (q : PortState) : List Control :=
  (if q.creditDue then [.credit q.reserveFreed q.freed] else []) ++ q.ackDue.toList ++ (q.skipDue.take 1).map .skip

/-- Sends IDLE with the running counts (R245, R268). -/
def sendIdle (q : PortState) : PortState :=
  { q with line := [.control (.idle q.reserveFreed q.freed)], creditDue := false }

/-- Sends the control symbols due. -/
def sendControls (q : PortState) : PortState :=
  { q with line := (controlsDue q).map .control, creditDue := false, ackDue := none, skipDue := q.skipDue.drop 1 }

/-- The new frame a port would start next: TRUMP, then general traffic, then SERVICE (R262). The retransmission of item
4 is chosen between them by `atBoundary`. -/
def startHead (s : State) (p : Port) (f : TxFrame) (drop : PortState → PortState) : Option State :=
  let q := s.port p
  match creditFor q f with
  | none => none
  | some r => if bufferRoom q f then some ((s.updPort p fun q => startNew f r (drop q)).freeSlot f.slot) else none

/-- The first frame of R262 items 3 to 6 that can start. -/
def atBoundary (s : State) (p : Port) : Option State :=
  let q := s.port p
  let trump := q.trumpQ.head?.bind fun f => startHead s p f fun q => { q with trumpQ := q.trumpQ.tail }
  let retry := (retryHead q).bind fun u => (creditFor q u.frame).map fun r => s.updPort p (startRetry u r)
  let normal := q.normalQ.head?.bind fun f => startHead s p f fun q => { q with normalQ := q.normalQ.tail }
  let service := q.serviceQ.head?.bind fun f => startHead s p f fun q => { q with serviceQ := q.serviceQ.tail }
  trump.or (retry.or (normal.or service))

/-- FRAME_BOUNDARY (R262): the port sends the first item due; with none due it sends IDLE (R245). A fenced port sends
control symbols only, beacons leaving at their own instant (R276); a port under test sends fill (R575). -/
def execFrameBoundary (port : Port) (s : State) : Host.Outcome State Fault Refusal :=
  let q := s.port port
  .next <|
    if !q.up then s
    else if s.deaf port then s.updPort port fun q => { q with line := [] }
    else if controlsDue q ≠ [] then s.updPort port sendControls
    else if q.fenced then s.updPort port sendIdle
    else (atBoundary s port).getD (s.updPort port sendIdle)

/-! ### Beacons leaving -/

/-- What a beacon comma cuts off is sent again whole and is no retry (R218). -/
def cutOff (q : PortState) : PortState :=
  match q.line.getLast? with
  | some (.frame f x) =>
    if f.ftype ≠ .beacon ∧ q.unacked.any (fun u => u.seq = x) then { q with retryQ := x :: q.retryQ.filter (· ≠ x) } else q
  | some (.control (.ack x)) => { q with ackDue := some (q.ackDue.getD (.ack x)) }
  | some (.control (.nak x)) => { q with ackDue := some (.nak x) }
  | some (.control (.skip x)) => { q with skipDue := x :: q.skipDue }
  | some (.control (.credit _ _)) => { q with creditDue := true }
  | _ => q

/-- A BEACON leaves at its instant, cutting off what is on the line (R216 to R218); a fenced port still sends it, and so
does a port whose link is down, since a beacon wakes a device in STORAGE (R114). -/
def State.sendBeacon (s : State) (p : Port) (f : TxFrame) : State :=
  s.updPort p fun q => if (s.gen p).ring && !q.heldDown then { cutOff q with line := [.frame f 0] } else q

/-- Whether a frame from `inp` to `out` waits 512 µs (R217). -/
def State.slowToFast (s : State) (inp out : Port) : Bool := !(s.gen inp).fast && (s.gen out).fast

/-- RELAY_DELAYED_START (R217): 512 µs after the comma, the held beacon leaves at once, or the oldest held frame joins
the frames to send. -/
def execRelayDelayedStart (port : Port) (s : State) : Host.Outcome State Fault Refusal :=
  let q := s.port port
  .next <|
    match q.beaconHeld with
    | some f => (s.updPort port fun q => { q with beaconHeld := none }).sendBeacon port f
    | none =>
      match q.delayed with
      | [] => s
      | f :: rest =>
        let s := s.updPort port fun q => { q with delayed := rest }
        if s.sends port then s.queue port f else (s.queue port f).freeSlot f.slot

/-! ### Acknowledgement, retries, skips -/

/-- Abandons a SEQ: SKIP is due and repeats until an ACK covers it (R270). -/
def abandon (x : BitVec 5) (q : PortState) : PortState :=
  { q with unacked := q.unacked.map fun u => if u.seq = x then { u with abandoned := true } else u,
           skipDue := if q.skipDue.contains x then q.skipDue else q.skipDue ++ [x],
           retryQ := q.retryQ.filter (· ≠ x) }

/-- A MELD whose deadline has passed on this port (R271). -/
def meldLate (q : PortState) (f : TxFrame) : Bool :=
  f.ftype = .meld && q.deadDeal.any fun d => (d - f.deal).toNat < 2 ^ 17

/-- Asks for the retransmission of a SEQ: at most three times, a MELD only before its deadline, an abandoned SEQ by SKIP
(R269 to R271). -/
def State.retransmit (s : State) (p : Port) (x : BitVec 5) : State :=
  match (s.port p).unacked.find? fun u => u.seq = x with
  | none => s
  | some u =>
    if u.abandoned then s.updPort p (abandon x)
    else if meldLate (s.port p) u.frame then (s.updPort p (abandon x)).raise (portBlock p) 3
    else if 3 ≤ u.tries then (s.updPort p (abandon x)).raise (portBlock p) 2
    else
      s.updPort p fun q =>
        { q with retryQ := if q.retryQ.contains x then q.retryQ else q.retryQ ++ [x],
                 unacked := q.unacked.map fun v => if v.seq = x then { v with tries := v.tries + 1 } else v }

/-- The port's state when its link goes down: everything of the link is gone, drops are counted (R273). -/
def portDown (q : PortState) : PortState :=
  let n := (q.trumpQ ++ q.normalQ ++ q.serviceQ ++ q.delayed).length + (q.unacked.filter fun u => !u.abandoned).length
  { PortState.reset with
    heldDown := q.heldDown, fenced := q.fenced, trainFails := q.trainFails, cableNs := q.cableNs,
    queueDrops := q.queueDrops + n, lifeDrops := q.lifeDrops, seen := q.seen, serviceSent := q.serviceSent,
    deadDeal := q.deadDeal, lifeSeen := q.lifeSeen, feed := q.feed, carrierSeen := q.carrierSeen }

/-- A frame that waits to be relayed and came over a link that is down now: its slot is not counted on the next link
(R268). -/
def forgetSlot (p : Port) (f : TxFrame) : TxFrame :=
  { f with slot := f.slot.filter fun x => x.1 ≠ p }

/-- The frames of a port that came over the other port's link lose their slots there. -/
def forgetSlots (p : Port) (q : PortState) : PortState :=
  { q with trumpQ := q.trumpQ.map (forgetSlot p), normalQ := q.normalQ.map (forgetSlot p)
           serviceQ := q.serviceQ.map (forgetSlot p), delayed := q.delayed.map (forgetSlot p) }

/-- LINK trace entry (Table 18-6). -/
def State.traceLink (s : State) (p : Port) (up : Bool) (ns : Nat) : State :=
  s.trace 0x84 ([BitVec.ofNat 8 (portBit p), if up then 1 else 0] ++ bytesBE 3 ns)

/-- A Hand changes its primary side: event on the side left, PLL hold, trace (R300). -/
def State.switchPrimary (s : State) (side : Port) : State :=
  if s.isDealer || s.ring.primary = side then s
  else
    let s := s.raise (portBlock s.ring.primary) 6
    let s := s.trace 0x83 (dealBytes s.dealNo ++ [BitVec.ofNat 8 (portBit side), 0])
    (s.updRing fun r => { r with primary := side }).updClocks fun c => { c with holding := c.locked }

/-- A link goes down (R273): queued and unacknowledged frames drop, the event is of class C in a closed ring and U in an
open chain, and a Hand whose primary side it is switches while its other link is up (R299, R303). -/
def State.linkDown (s : State) (p : Port) : State :=
  if !(s.port p).up then s
  else
    let q := s.port p
    let s := s.freeSlots (q.trumpQ ++ q.normalQ ++ q.serviceQ ++ q.delayed)
    let s := (s.updPort p portDown).updPort p.other (forgetSlots p)
    let s := s.traceLink p false 0
    let s := s.raise (portBlock p) (if s.closedRing then 5 else 9)
    if s.closedRing && !s.isDealer && s.ring.primary = p && (s.port p.other).up then s.switchPrimary p.other else s

/-- Counts a failure toward link-down, of a frame sent or of a frame received; the eighth in a row of one direction takes
the link down (R273). -/
def State.countFail (s : State) (p : Port) (sent : Bool) : State :=
  let s := s.updPort p fun q =>
    { q with fails := if sent then q.fails else q.fails + 1, txFails := if sent then q.txFails + 1 else q.txFails }
  if 8 ≤ (if sent then (s.port p).txFails else (s.port p).fails) then s.linkDown p else s

/-- LINK_DOWN (R273): 2 ms without a comma, or the eighth failure. -/
def execLinkDown (port : Port) (s : State) : Host.Outcome State Fault Refusal := .next (s.linkDown port)

/-- Whether an ACK of `x` covers `y`: every earlier frame (R269). -/
def ackCovers (x y : BitVec 5) : Bool := (x - y).toNat < 16

/-- A symbol that belongs to no LIFELINE frame ends a feed (R140). -/
def State.endFeed (s : State) (p : Port) : State := s.updPort p fun q => { q with feed := Feed.off }

/-- What an ACK takes off the sender's books (R269, R273). -/
def acked (seq : BitVec 5) (q : PortState) : PortState :=
  { q with unacked := q.unacked.filter fun u => !ackCovers seq u.seq,
           skipDue := q.skipDue.filter fun x => !ackCovers seq x,
           retryQ := q.retryQ.filter fun x => !ackCovers seq x, txFails := 0 }

/-- ACK (R269): covers that frame and every earlier one, and restarts the failure count (R273). In LIFELINE it acknowledges
the last report (R146). -/
def execAck (port : Port) (seq : BitVec 5) (s : State) : Host.Outcome State Fault Refusal :=
  .next <|
    if s.dev.phase = .lifeline then
      if s.life.awaiting && s.life.port = port then s.updLife fun l => { l with awaiting := false, unacked := 0 } else s
    else if s.deaf port then s
    else
      let s := s.endFeed port
      if (s.port port).up then s.updPort port (acked seq) else s

/-- NAK (R269, R270): the SEQ named is retransmitted; the NAK counts toward link-down (R273). -/
def execNak (port : Port) (seq : BitVec 5) (s : State) : Host.Outcome State Fault Refusal :=
  .next <|
    if s.deaf port then s
    else
      let s := s.endFeed port
      if (s.port port).up then (s.retransmit port seq).countFail port true else s

/-- ACK_TIMEOUT (R269, R270): the oldest unacknowledged frame is retransmitted or its SKIP repeated; the expiry counts
toward link-down. -/
def execAckTimeout (port : Port) (s : State) : Host.Outcome State Fault Refusal :=
  .next <|
    match (s.port port).unacked with
    | [] => s
    | u :: _ => if (s.port port).up then (s.retransmit port u.seq).countFail port true else s

/-- The deal number of the deal before. -/
def lateMelds (d : Word) (fs : List TxFrame) : List TxFrame :=
  fs.filter fun f => f.ftype = .meld && (d - f.deal).toNat < 2 ^ 17

/-- The deadline on one port: the MELDs of the current deal that have not left are dropped, those waiting for a
retransmission with SKIP; each counts as a deadline drop (R271). -/
def State.meldDeadline (s : State) (port : Port) : State :=
  let d := s.dealNo
  let q := s.port port
  let gone := lateMelds d (q.normalQ ++ q.delayed)
  let wait := q.unacked.filter fun u => !u.abandoned && q.retryQ.contains u.seq && !(lateMelds d [u.frame]).isEmpty
  let s := s.freeSlots gone
  let s := s.updPort port fun q =>
    { q with normalQ := q.normalQ.filter fun f => (lateMelds d [f]).isEmpty,
             delayed := q.delayed.filter fun f => (lateMelds d [f]).isEmpty, deadDeal := some d }
  let s := wait.foldl (fun t u => t.updPort port (abandon u.seq)) s
  (List.range (gone.length + wait.length)).foldl (fun t _ => t.raise (portBlock port) 3) s

/-- MELD_DEADLINE (R271): at T0(n) + 0.8 P − 200 µs, on both ports. -/
def execMeldDeadline (s : State) : Host.Outcome State Fault Refusal :=
  .next <| if s.deals then (s.meldDeadline .n).meldDeadline .s else s

/-- CREDIT or IDLE (R268): the sender takes over the freed counts; the symbols also end a feed (R140). -/
def execCredit (port : Port) (reserve : BitVec 1) (freed : BitVec 3) (s : State) : Host.Outcome State Fault Refusal :=
  .next <| s.updPort port fun q =>
    { q with freedSeen := if q.up && !s.deaf port then freed else q.freedSeen,
             resFreed := if q.up && !s.deaf port then reserve else q.resFreed,
             feed := if s.deaf port then q.feed else Feed.off }

/-- MARKER (R232): a device in RUN answers with idle symbols; the marker ends a feed (R140). -/
def execMarker (port : Port) (s : State) : Host.Outcome State Fault Refusal :=
  .next <|
    if s.running && !s.deaf port then
      s.updPort port fun q =>
        { q with line := [.control (.idle q.reserveFreed q.freed)], creditDue := false,
                 feed := Feed.off }
    else s

/-- CONTROL_WORD_FAILED (R250): the word is discarded and counted; a word that R250 passes is no failure. -/
def execControlWordFailed (port : Port) (w : Word) (s : State) : Host.Outcome State Fault Refusal :=
  .next <| if s.running && !s.deaf port && (readControl w).isNone then s.raise (portBlock port) 0 else s

/-! ### Fencing and failed frames -/

/-- Whether one more item of this kind within the deal fences the port (R276). -/
def fenceHit (seen : List Seen) (x : Seen) : Bool :=
  let n := seen.count x
  match x with
  | .partA _ => 1 ≤ n
  | .partB _ => 1 ≤ n
  | .legacy q _ => 1 ≤ n || 15 ≤ (seen.filter fun y => match y with | .legacy r _ => r = q | _ => false).length
  | .trump _ => 4 ≤ n
  | .rollcall _ => 2 ≤ n
  | .service q => (if q = 0 then 8 else 2) ≤ n
  | .dropped => 16 ≤ n

/-- Fences a port (R276): it keeps its link; its queued frames are dropped and the SEQs it can no longer retransmit are
abandoned with SKIP. -/
def State.fencePort (s : State) (p : Port) : State :=
  if (s.port p).fenced then s
  else
    let q := s.port p
    let fs := q.trumpQ ++ q.normalQ ++ q.serviceQ ++ q.delayed
    let s := s.freeSlots fs
    let s := s.updPort p fun q =>
      { q with fenced := true, trumpQ := [], normalQ := [], serviceQ := [], delayed := [], retryQ := [],
               queueDrops := q.queueDrops + fs.length,
               unacked := q.unacked.map fun u => { u with abandoned := true },
               skipDue := q.skipDue ++ ((q.unacked.filter fun u => !u.abandoned).map (·.seq)) }
    s.raise (portBlock p) 10

/-- Notes what a port received within the deal and fences it where R276 says so. A device that runs no deal has none to
count in. -/
def State.noteSeen (s : State) (p : Port) (x : Seen) : State :=
  if !s.deals then s
  else if fenceHit (s.port p).seen x then s.fencePort p
  else s.updPort p fun q => { q with seen := q.seen ++ [x] }

/-- Ends a forwarded copy with the poison tail and abandons its SEQ on the outgoing hop (R265). The copy consumed a
SEQ and a credit of that hop. -/
def State.poisonCopy (s : State) (out : Port) (f : TxFrame) : State :=
  s.updPort out fun q =>
    if q.up && !q.fenced then
      match creditFor q f with
      | none => q
      | some r =>
        let x := q.txSeq
        abandon x { startNew f r q with line := [.poison x] }
    else q

/-- A placeholder for a forwarded copy of which only its place on the hop matters: it never arrives whole. -/
def poisonedFrame : TxFrame :=
  { ftype := .rollcall, src := 0, side := .n, deal := 0, hop := 63, payload := [], slot := none }

/-- Draws a NAK for the next expected SEQ unless one is outstanding (R269). -/
def drawNak (q : PortState) : PortState :=
  if q.nakSent then q else { q with ackDue := some (.nak q.rxNext), nakSent := true }

/-- A frame failure (R248): NAK, freed credit slot, poisoned copy, count toward link-down. A failed BEACON draws no NAK
and holds no slot (R269). -/
def State.frameFailure (s : State) (p : Port) (f : FailedFrame) : State :=
  let s := s.raise (portBlock p) 1
  let s := if f.beacon then s else s.updPort p fun q => (drawNak q).free f.reserve
  let s := if f.forwarding then
      (if f.beacon then s.updPort p.other fun q => if q.up then { q with line := [.poison 0] } else q
       else s.poisonCopy p.other poisonedFrame)
    else s
  let s := if f.reservedType then s.noteSeen p .dropped else s
  s.countFail p false

/-- FRAME_FAILURE (R248). -/
def execFrameFailure (port : Port) (f : FailedFrame) (s : State) : Host.Outcome State Fault Refusal :=
  .next <| if (s.port port).up && !s.deaf port then s.frameFailure port f else s

/-- BUFFER_PARITY_ERROR (R485, MEM bit 2): the frame is handled as a frame failure. -/
def execBufferParityError (port : Port) (s : State) : Host.Outcome State Fault Refusal :=
  .next <|
    let s := s.raise .mem 2
    if (s.port port).up && !s.deaf port then
      s.frameFailure port { beacon := false, reservedType := false, reserve := false, forwarding := false }
    else s

/-- POISON_TAIL (R249): discarded without NAK, no failure; it frees its credit slot, and a copy being forwarded ends the
same way (R247, R265). -/
def execPoisonTail (port : Port) (forwarding reserve : Bool) (s : State) : Host.Outcome State Fault Refusal :=
  .next <|
    if (s.port port).up && !s.deaf port then
      let s := s.updPort port (PortState.free reserve)
      if forwarding then s.poisonCopy port.other poisonedFrame else s
    else s

/-! ### Link-up and the physical layer -/

/-- Latency known for the beacon received on a port (R282). -/
def State.latency (s : State) : Port → Option Nat
  | .n => s.ring.latN
  | .s => s.ring.latS

/-- L_out of a port in ns: the instant its relayed beacon comma starts (R283); 0 on the Dealer. -/
def State.latencyOut (s : State) (p : Port) : Option Nat :=
  if s.isDealer then some 0
  else (s.latency p.other).map fun l => l + if s.slowToFast p.other p then 512000 else 0

/-- Own seal number. -/
def State.sealNumber (s : State) : Word := ((s.nv.active.map (·.number)).getD 0)

/-- A CALL out of a port to `target` (Table 9-14). -/
def State.sendCall (s : State) (p : Port) (target : Nat) : State :=
  match s.position, s.latencyOut p with
  | some q, some l =>
    s.send p .rollcall (callPayload target (if s.isDealer then s.sealNumber else s.ring.dealerSeal)
      (if s.isDealer then s.cfg.period else s.ring.period) s.closedRing q.toNat l)
  | _, _ => s

/-- The link CALL of R304: to the position expected beyond, modulo N. -/
def State.linkCall (s : State) (p : Port) : State :=
  match s.position with
  | none => s
  | some q =>
    let n := s.ring.count
    if n = 0 then s else s.sendCall p (match p with | .n => (q.toNat + 1) % n | .s => (q.toNat + n - 1) % n)

/-- Holds a link down until reset after a U-class event of Table 8-4. -/
def State.holdDown (s : State) (p : Port) (bitNo : Nat) : State :=
  (s.updPort p fun q => { q with heldDown := true, up := false }).raise (portBlock p) bitNo

/-- A trained link comes up with every count at 0 (R215, R268). -/
def portUp (ns : Nat) (q : PortState) : PortState :=
  { portDown q with up := true, cableNs := ns, trainFails := 0, feed := Feed.off, queueDrops := q.queueDrops }

/-- LINK_UP (R215): bring-up ends. A delay beyond the reach (5 ns per metre, as the worked examples count) or a third
failed training holds the link down (Table 8-4). A link that comes up in RUN carries one link CALL (R304); an L1 port
sends the L1 wake (R234). -/
def execLinkUp (port : Port) (result : BringUp) (s : State) : Host.Outcome State Fault Refusal :=
  let q := s.port port
  .next <|
    if !s.running || q.heldDown || q.up then s
    else if s.gen port = .l1 then s.updPort port fun q => { q with line := [.wakeCarrier] }
    else if !(s.gen port).ring then s
    else
      match result with
      | .trainingFailed =>
        if 2 ≤ q.trainFails then s.holdDown port 12 else s.updPort port fun q => { q with trainFails := q.trainFails + 1 }
      | .trained ns =>
        if 5 * (s.gen port).reachM < ns then s.holdDown port 13
        else ((s.updPort port (portUp ns)).traceLink port true ns).linkCall port

/-- OTHER_GENERATION_ACTIVITY (R233): line activity of another generation for 10 ms with no link. -/
def execOtherGenerationActivity (port : Port) (s : State) : Host.Outcome State Fault Refusal :=
  .next <| if s.running && !(s.port port).up && (s.gen port).ring then s.holdDown port 11 else s

/-- CARRIER_ON_UP_LINK (R233): a carrier without a marker takes an up link down. -/
def execCarrierOnUpLink (port : Port) (s : State) : Host.Outcome State Fault Refusal :=
  .next <| if s.running && (s.port port).up then (s.raise (portBlock port) 7).linkDown port else s

end Sys2Proof.Machine
end

