-- ==== Sys2Proof/Machine/Membership.lean ====
section
/-!
DEFINITION. Ring membership (chapter 10): discovery with CALL and ANSWER, positions and latencies, REJOIN, the phase
from a beacon, the primary-side switch, and what the Dealer keeps of each position.
-/
namespace Sys2Proof.Machine

/-! ### The Dealer's table of positions -/

/-- What the Dealer holds for a position. -/
def State.pos (s : State) (i : Nat) : PosInfo := s.dealer.positions.getD i PosInfo.vacant

/-- Changes what the Dealer holds for a position. -/
def State.updPos (s : State) (i : Nat) (f : PosInfo → PosInfo) : State :=
  s.updDealer fun d => { d with positions := d.positions.modify i f }

/-- Code of a position state (Table 15-13). -/
def PosState.code : PosState → Nat
  | .inRing => 0
  | .settling => 1
  | .late => 2
  | .dummy => 3
  | .foreign => 4
  | .vacant => 3

/-- Enters a position state, with its MEMBER trace entry (Table 18-6). -/
def State.setPos (s : State) (i : Nat) (st : PosState) : State :=
  let s' := if (s.pos i).state = st then s else s.trace 0x8D [BitVec.ofNat 8 i, BitVec.ofNat 8 st.code, 0, 0, 0]
  s'.updPos i fun p => { p with state := st }

/-- IN, SETTLING and LATE have their bit set in the admitted map (R290). -/
def PosState.isAdmitted : PosState → Bool
  | .inRing => true
  | .settling => true
  | .late => true
  | _ => false

/-- The positions of the ring other than the Dealer's. -/
def State.handPositions (s : State) : List Nat := (List.range s.ring.count).filter (1 ≤ ·)

/-- Seal entry of a position in the active record (Table 3-13). -/
def State.sealEntry (s : State) (i : Nat) : Option SealEntry := s.nv.active.bind fun r => r.entries[i]?

/-- The answer a position gave, as fields. -/
def State.answerOf (s : State) (i : Nat) : Option Answer := (s.pos i).answer.map readAnswer

/-- Fingerprint by which the Dealer knows a position: its answer, or its seal entry. -/
def State.printOf (s : State) (i : Nat) : List Word :=
  match s.answerOf i with
  | some a => a.print
  | none => ((s.sealEntry i).map (·.fingerprint)).getD []

/-- The string number a position's fingerprint names: 2 to 4 on a String Head (Table 3-3). -/
def State.headString (s : State) (i : Nat) : Option Nat :=
  let k := printLevel (s.printOf i) 0
  if 2 ≤ k ∧ k ≤ 4 then some k else none

/-! ### Discovery on the Dealer -/

/-- A discovery CALL of the Dealer: position 0, latency 0, for all (R280). -/
def State.discoveryCall (s : State) (p : Port) : State := s.sendCall p 63

/-- Positions of the active seal other than the Dealer's. -/
def State.sealPositions (s : State) : List Nat :=
  match s.nv.active with
  | none => []
  | some r => (List.range r.entries.length).filter (1 ≤ ·)

/-- Ends discovery (R284, R285): the count is the seal's, or the one found; a repeat is due where a sweep timed out or a
sealed position has not answered; positions still unanswered are out of service. -/
def State.endDiscovery (s : State) : State :=
  let d := s.dealer.discovery
  let count := match s.nv.active with
    | some r => r.entries.length
    | none => d.found
  let missing := s.sealPositions.any fun i => !d.answered.contains i
  let again := (d.timedOut || missing) && !d.repeated
  let s := s.updRing fun r => { r with count := count }
  let s := s.updDealer fun x =>
    { x with discovery := { d with active := false, repeatDue := again, done := !again } }
  if again then s
  else (List.range count).foldl (fun t i =>
    if 1 ≤ i ∧ (t.pos i).state = .vacant then t.setPos i .dummy else t) s

/-- Ends the sweep in progress: in a closed ring the S sweep follows the N sweep (R280). -/
def State.endSweep (s : State) : State :=
  let d := s.dealer.discovery
  if d.sweep = .n && s.cfg.closed then
    let s := s.updDealer fun x => { x with discovery := { d with sweep := .s } }
    let s := s.updRing fun r => { r with count := match s.nv.active with | some a => a.entries.length | none => d.found }
    s.discoveryCall .s
  else s.endDiscovery

/-- Starts the N sweep. -/
def State.startDiscovery (s : State) (again : Bool) : State :=
  let s := s.updDealer fun x =>
    { x with discovery := { x.discovery with active := true, sweep := .n, repeated := again, timedOut := false, repeatDue := false,
                                             done := false } }
  s.discoveryCall .n

/-- DISCOVERY_START (R116, R280): the Dealer starts discovery, VAUX being valid (R101) and no fatal state held. -/
def execDiscoveryStart (s : State) : Host.Outcome State Fault Refusal :=
  let d := s.dealer.discovery
  .next <|
    if s.isDealer && s.running && s.supply.vaux && !s.dev.fatal && !d.active && !d.done && !d.repeatDue then
      s.startDiscovery false
    else s

/-- DISCOVERY_REPEAT (R285): the whole discovery once more. -/
def execDiscoveryRepeat (s : State) : Host.Outcome State Fault Refusal :=
  .next <| if s.isDealer && s.running && s.dealer.discovery.repeatDue then s.startDiscovery true else s

/-- SWEEP_TIMEOUT (R284): 20 ms with no ANSWER end the sweep, SUPERV bit 0. -/
def execSweepTimeout (s : State) : Host.Outcome State Fault Refusal :=
  .next <|
    if s.isDealer && s.dealer.discovery.active then
      ((s.updDealer fun x => { x with discovery := { x.discovery with timedOut := true } }).raise .superv 0).endSweep
    else s

/-! ### CALL and ANSWER -/

/-- The device's own ANSWER or REJOIN fields (Table 9-14). -/
def State.ownAnswer (s : State) : Answer :=
  { factory := Config.factoryNumber
    print := fingerprint s.straps.latched
    sealNo := s.sealNumber
    sealChk := (s.nv.active.map (·.check)).getD 0
    l1 := (s.dealer.l1.filter (·.present)).length
    sfault := s.strapFault
    smism := s.straps.mismatch
    pside := portBit s.ring.primary
    cause := s.ring.causeWord }

/-- The position a CALL from `q` on a port gives (R281): q + 1 on Port S; on Port N q − 1, or N − 1 from the Dealer, and
none on a device with seal number 0. -/
def positionFrom (p : Port) (q : Nat) (sealedCount : Option Nat) : Option Nat :=
  match p with
  | .s => some (q + 1)
  | .n =>
    match sealedCount with
    | none => none
    | some n => if 1 ≤ q then some (q - 1) else some (n - 1)

/-- Seal device count, `none` when the seal number is 0. -/
def State.sealCount (s : State) : Option Nat := s.nv.active.map (·.entries.length)

/-- Takes a position when none is held, and the latency of the receiving side (R281, R282, R305). -/
def State.takeCall (s : State) (p : Port) (ws : List Word) (count : Option Nat) : State :=
  let q := field (pw ws 2) 13 8
  let l := field (pw ws 3) 17 0 * 2 ^ 18 + (pw ws 4).toNat + (s.gen p).hopNs + (s.port p).cableNs
  s.updRing fun r =>
    let r := { r with
      pos := r.pos.or ((positionFrom p q count).map (BitVec.ofNat 6))
      dealerSeal := pw ws 1
      latN := if p = .n then some l else r.latN
      latS := if p = .s then some l else r.latS }
    if r.dealing then r else { r with period := field (pw ws 2) 17 15, closed := bit (pw ws 2) 14 }

/-- A discovery CALL on a device other than the Dealer (R281 to R283, R311). -/
def State.discoveryCalled (s : State) (p : Port) (ws : List Word) : State :=
  if s.ring.dealing then s.resetDomains causeRing false
  else
    let s := s.takeCall p ws s.sealCount
    if s.ring.pos.isNone || s.dev.fatal then s
    else
      let s := (s.send p .rollcall (s.ownAnswer.words 2)).updRing fun r => { r with answered := true, primary := .s }
      if (s.gen p.other).ring then s.discoveryCall p.other else s

/-- A link CALL (R305): the latency of that side; a device without a position also takes one, its primary side, and sends
link CALLs on its other links that are up. -/
def State.linkCalled (s : State) (p : Port) (ws : List Word) : State :=
  let had := s.ring.pos.isSome
  let s := s.takeCall p ws (s.sealCount.map fun n => if s.ring.dealing then s.ring.count else n)
  if had || s.ring.pos.isNone then s
  else
    let s := s.updRing fun r => { r with primary := if s.portS.up then .s else .n }
    if (s.port p.other).up then s.linkCall p.other else s

/-- A CALL received: consumed by every device (R258). At the Dealer a discovery CALL shows that the ring is closed and
ends the sweep, N being the sender position plus 1 (R284). -/
def State.handleCall (s : State) (p : Port) (ws : List Word) : State :=
  let discovery := targetOf ws = 63
  if s.isDealer then
    let d := s.dealer.discovery
    if discovery && d.active && d.sweep = p.other then
      let n := field (pw ws 2) 13 8 + 1
      (s.updDealer fun x => { x with discovery := { d with found := if d.sweep = .n then n else d.found } }).endSweep
    else s
  else if discovery then s.discoveryCalled p ws
  else s.linkCalled p ws

/-- Admits a position or makes it FOREIGN by the factory number it gave (R287, R289, R307, R309). -/
def State.judgeFactory (s : State) (i : Nat) (a : Answer) : State :=
  match s.nv.active with
  | none => s.setPos i .settling
  | some _ =>
    if (s.sealEntry i).any fun e => e.factory = a.factory then
      (s.setPos i .settling).raiseIf (a.sealNo ≠ s.sealNumber || a.sealChk ≠ (s.nv.active.map (·.check)).getD 0) .superv 9
    else (s.setPos i .foreign).raise .superv 8

/-- An ANSWER at the Dealer during discovery (R284, R287). -/
def State.handleAnswer (s : State) (src : Nat) (ws : List Word) : State :=
  let d := s.dealer.discovery
  if !s.isDealer || !d.active || src = 0 then s
  else
    let a := readAnswer ws
    let link := printLevel a.print 3
    let s := s.updPos src fun p => { p with answer := some ws }
    let s := if d.answered.contains src && (s.pos src).state ≠ .dummy then s else s.judgeFactory src a
    let s := s.updDealer fun x =>
      { x with discovery := { d with answered := if d.answered.contains src then d.answered else d.answered ++ [src],
                                     found := if d.found ≤ src then src + 1 else d.found } }
    if link / 4 = 0 || link / 4 = 4 then s.endSweep else s

/-! ### REJOIN -/

/-- REJOIN_SEND (R306): a device with a position and a latency for its primary side, not in service, sends a REJOIN when
its interval has run out: 4 deals, or 64 once it takes itself as refused. The fatal state sends none (Table 16-8). -/
def execRejoinSend (s : State) : Host.Outcome State Fault Refusal :=
  let r := s.ring
  .next <|
    if s.running && !s.isDealer && r.dealing && r.pos.isSome && (s.latency r.primary).isSome && !r.admitted &&
        r.rejoinIn = 0 && !s.dev.fatal then
      (s.send r.primary .rollcall (s.ownAnswer.words 5)).updRing fun r =>
        { r with rejoinIn := if r.refused then 64 else 4, rejoinSent := some r.deal }
    else s

/-- A REJOIN at the Dealer is held for the closure (R307). -/
def State.handleRejoin (s : State) (src : Nat) (ws : List Word) : State :=
  if s.isDealer && src ≠ 0 then s.updPos src fun p => { p with rejoin := some ws } else s

/-- Acts on the REJOIN of a position at the closure (R307 to R309). An unsealed Dealer admits provisionally (R287). -/
def State.actRejoin (s : State) (i : Nat) : State :=
  let p := s.pos i
  if p.readmit then
    let s := s.updPos i fun p => { p with readmit := false }
    match s.answerOf i with
    | some a => s.judgeFactory i a
    | none => s
  else
    match p.rejoin with
    | none => s
    | some ws =>
      let s := s.updPos i fun p => { p with rejoin := none, answer := some ws, missA := 0, missB := 0, lastA := none, lastB := none, lifeline := none }
      if p.state.isAdmitted then
        (s.setPos i .dummy).updPos i fun p => { p with readmit := true, outOfService := true }
      else if s.nv.active.isNone || (s.sealEntry i).any fun e => e.factory = (readAnswer ws).factory then
        s.judgeFactory i (readAnswer ws)
      else ((s.setPos i .foreign).raise .superv 3).raise .superv 8

/-! ### The deal and the phase -/

/-- A new deal begins on this device: what is counted per deal starts again. -/
def State.newDeal (s : State) (d : Word) : State :=
  let s := s.updRing fun r =>
    { r with
      deal := d, gotPrimary := false, gotOther := false, deals := r.deals + 1, rejoinIn := r.rejoinIn - 1
      period := match r.announced with
        | some (p, k) => if k = d then p else r.period
        | none => r.period
      announced := r.announced.filter fun a => a.2 ≠ d }
  (s.updPort .n fun q => { q with seen := [], serviceSent := 0 }).updPort .s fun q => { q with seen := [], serviceSent := 0 }

/-- PHASE trace entry and the PRED flag when the phase error exceeds 2 µs (R286). -/
def State.phaseError (s : State) (e : Int) : State :=
  if 2000 < e ∨ e < -2000 then
    (s.trace 0x82 (dealBytes s.dealNo ++ bytesBE 2 (signed16 e))).updRing fun r => { r with pred := true, phaseFix := e }
  else s.updRing fun r => { r with phaseFix := e }

/-- Takes the phase from a beacon received at `t` on a side whose latency is known (R286). -/
def State.takePhase (s : State) (p : Port) (t : Nat) (first : Bool) : State :=
  match s.latency p with
  | none => s
  | some l =>
    let t0 : Int := (t : Int) - l
    let e := if first then 0 else t0 - s.ring.t0
    (s.phaseError e).updRing fun r => { r with t0 := t0 }

/-- BEACON_MISSING_ON_PRIMARY (R299, R300): a Hand of a closed ring whose primary side missed the beacon of this deal,
a copy having come on the other side, changes its primary side and takes the phase from that copy. -/
def execBeaconMissingOnPrimary (deal : Word) (t : Nat) (s : State) : Host.Outcome State Fault Refusal :=
  let r := s.ring
  .next <|
    if s.running && !s.isDealer && r.dealing && s.closedRing && r.deal = deal && !r.gotPrimary && r.gotOther then
      let side := r.primary.other
      ((s.switchPrimary side).takePhase side t false).updRing fun r => { r with gotPrimary := true, gotOther := false }
    else s

/-- BEACON_TIMEOUT (R16, R518): 3 deal periods without a beacon; a String Head opens its string, SUPERV bit 6, and sends
the TRUMP SH_OPEN. -/
def execBeaconTimeout (s : State) : Host.Outcome State Fault Refusal :=
  .next <|
    if s.running && s.isHead && !s.dev.fatal && s.ring.dealing && s.coilsOn then
      let s := s.headOpens.raise .superv 6
      if s.ring.bitSet then s.sendTrumpWords (trumpWords 0x0B 0 0 0 (summaryWord s.faults) 0) else s
    else s

end Sys2Proof.Machine
end

