-- ==== Sys2Proof/Machine/Profiles.lean ====
section
/-!
DEFINITION. Chemistry profiles (14_pack_services.md, section 2), the trip checks they give (R166, R421, R422), and the
view the Dealer takes of the melds of a closed deal (Table 6-9).
-/
namespace Sys2Proof.Machine

/-! ### Profiles -/

/-- Family of a STR_CHEM level (Table 3-4). -/
def familyOf (level : Nat) : Family :=
  if level < 10 then .lfp else if level < 22 then .nmc else if level < 27 then .nca else .lto

/-- Upper margin in mV (Table 14-1). -/
def Family.upperMargin : Family → Nat
  | .lfp => 150
  | _ => 100

/-- Temperature trip limits in °C (Table 14-1). -/
def Family.tripTemps : Family → Int × Int
  | .lfp => (-30, 65)
  | .lto => (-40, 70)
  | _ => (-30, 60)

/-- Charge temperature window in °C (Table 14-1, R423: level 4 is LFP-5). -/
def chargeWindow (level : Nat) : Int × Int :=
  if level = 4 then (-10, 45)
  else
    match familyOf level with
    | .lfp => (0, 45)
    | .nmc => (0, 45)
    | .nca => (5, 45)
    | .lto => (-20, 55)

/-- Discharge temperature window in °C (Table 14-1). -/
def Family.dischargeWindow : Family → Int × Int
  | .lto => (-30, 60)
  | _ => (-20, 55)

/-- Rated charge current in units of 0.1 C. -/
def Family.ratedCharge : Family → Nat
  | .lfp => 10
  | .nmc => 10
  | .nca => 7
  | .lto => 40

/-- Rated discharge current in units of 0.1 C. -/
def Family.ratedDischarge : Family → Nat
  | .lto => 40
  | _ => 20

/-- Nominal cell resistance in mΩ·Ah. -/
def Family.nominalR : Family → Nat
  | .lfp => 100
  | .nmc => 120
  | .nca => 150
  | .lto => 60

/-- Heater-on threshold in °C (Table 14-1, R423). -/
def heaterBelow (level : Nat) : Int :=
  if level = 4 then -5
  else
    match familyOf level with
    | .lfp => 5
    | .nmc => 5
    | .nca => 10
    | .lto => -20

/-- Rest-correction error in units of 0.01 %. -/
def Family.restError : Family → Nat
  | .lfp => 500
  | _ => 300

/-- Open-circuit voltages of Table 14-2 in mV, 0 % to 100 %. -/
def Family.ocv : Family → List Nat
  | .lfp => [2900, 3200, 3250, 3280, 3290, 3300, 3310, 3320, 3330, 3340, 3450]
  | .nmc => [3300, 3500, 3580, 3630, 3680, 3740, 3820, 3900, 3980, 4060, 4170]
  | .nca => [3200, 3450, 3530, 3600, 3660, 3730, 3810, 3890, 3970, 4060, 4170]
  | .lto => [1900, 2170, 2220, 2260, 2290, 2320, 2350, 2390, 2440, 2520, 2650]

/-- State of charge in 0.01 % on the piecewise line through table points, starting at `base` (R424). -/
def ocvWalk (base : Nat) (mv : Rat) : List Nat → Rat
  | a :: b :: rest =>
    if mv ≤ a then base
    else if mv ≤ b then (base : Rat) + 1000 * (mv - a) / ((b : Rat) - a)
    else ocvWalk (base + 1000) mv (b :: rest)
  | _ => base

/-- State of charge of an open-circuit voltage in 0.01 % (R424). -/
def Family.socOf (f : Family) (mv : Rat) : Rat := ocvWalk 0 mv f.ocv

/-! ### Trip limits -/

/-- Lower and upper trip limits of a profile as codes of 50 µV (R421). -/
def tripCodes (level : Nat) : Int × Int :=
  let w := windows.getD level (0, 0)
  (20 * ((w.1 : Int) - 300), 20 * ((w.2 : Int) + (familyOf level).upperMargin))

/-- Temperature trip limits as codes of 1/1024 °C (R422). -/
def tripTempCodes (level : Nat) : Int × Int :=
  ((familyOf level).tripTemps.1 * 1024, (familyOf level).tripTemps.2 * 1024)

/-- The codes a limit check looks at: both in DISAGREE and MISMATCH, none in OPEN (R166). -/
def checkedCodes (st : Nat) (code diverse : Int) : List Int :=
  if st = 7 then [] else if st = 5 ∨ st = 6 then [code, diverse] else [code]

/-- The most adverse code above the upper limit, if one is (R166). -/
def breachHi (lim : Int × Int) (cs : List Int) : Option Int :=
  (cs.filter fun c => lim.2 < c).max?

/-- The most adverse code below the lower limit, if one is. -/
def breachLo (lim : Int × Int) (cs : List Int) : Option Int :=
  (cs.filter fun c => c < lim.1).min?

/-- Every code lies within its trip limits. -/
def withinTrip (lim : Int × Int) (cs : List Int) : Bool := (breachHi lim cs).isNone && (breachLo lim cs).isNone

/-! ### What a meld gives (Table 6-9) -/

/-- A cell of a meld as safety decisions see it. -/
structure CellView where
  /-- Cell number, from 1. -/
  cell    : Nat
  state   : Nat
  code    : Int
  diverse : Int
  deriving DecidableEq, Repr

/-- Cells of a part A. -/
def MeldA.view (a : MeldA) : List CellView :=
  (List.range a.ncell).map fun k =>
    { cell := k + 1, state := a.states.getD k 0, code := codeOf (a.cells.getD k 0), diverse := codeOf (a.diverse.getD k 0) }

/-- Whether Table 6-9 admits the cell to state of charge, limits and kitty: not OVR, MISMATCH or OPEN. -/
def CellView.counted (c : CellView) : Bool := c.state ≠ 2 && c.state ≠ 6 && c.state ≠ 7

/-- Codes admitted to state of charge, limits and kitty; an unsynchronised meld gives none. -/
def MeldA.codes (a : MeldA) : List Int := if a.unsync then [] else (a.view.filter CellView.counted).map (·.code)

/-- Admitted temperatures with their source (Table 15-9): probes VALID, or STALE with a value to repeat, then NTC
inputs not excluded (Table 7-5, R176). -/
def MeldB.temps (b : MeldB) : List (Int × Nat) :=
  ((List.range b.nprobe).filterMap fun k =>
      let st := b.pstates.getD k 0
      let c := b.probes.getD k 0
      if st = 0 ∨ (st = 1 ∧ c ≠ 0) then some (codeOf c, k) else none) ++
    (List.range b.nntc).filterMap fun k =>
      let c := b.ntc.getD k 0
      if c = 0x20000 then none else some (codeOf c, 16 + k)

/-- A bit of a block's status word in a part A. -/
def MeldA.hasBit (a : MeldA) (b : Block) (i : Nat) : Bool := bit (a.status.getD (blockIndex b) 0) i

/-- Class of a status word (Table 9-7). -/
def wordClass (w : Word) : Nat := field w 17 16

/-! ### The Dealer's view of the last closed deal -/

/-- A position whose data the last closed deal gave: both parts arrived, not SETTLING (Table 10-1). -/
structure Member where
  pos    : Nat
  string : Nat
  a      : MeldA
  b      : MeldB
  deriving DecidableEq, Repr

/-- Position of a string's head: the Dealer for string 1. -/
def State.headAt (s : State) (k : Nat) : Option Nat :=
  if k = 1 then some 0 else s.handPositions.find? fun i => s.headString i = some k

/-- The string of a position: that of the last String Head at or before it, which is the first module of its string
(log 15). -/
def State.stringAt (s : State) (i : Nat) : Nat :=
  (List.range (i + 1)).foldl (fun k j => if j = 0 then 1 else (s.headString j).getD k) 1

/-- Positions of a string. -/
def State.stringPositions (s : State) (k : Nat) : List Nat := (List.range s.ring.count).filter fun i => s.stringAt i = k

/-- Part A of the last closed deal, if it arrived (missA is 0 at and after that closure). -/
def PosInfo.nowA (p : PosInfo) : Option MeldA := if p.missA = 0 then p.lastA.map readMeldA else none

/-- Part B of the last closed deal. -/
def PosInfo.nowB (p : PosInfo) : Option MeldB := if p.missB = 0 then p.lastB.map readMeldB else none

/-- The Dealer counts as IN; another position by its state. -/
def State.isIn (s : State) (i : Nat) : Bool := i = 0 || (s.pos i).state = .inRing

/-- Admitted: the Dealer, or IN, SETTLING, LATE. -/
def State.admittedAt (s : State) (i : Nat) : Bool := i = 0 || (s.pos i).state.isAdmitted

/-- The data of one position, if they are used. -/
def State.memberAt (s : State) (i : Nat) : Option Member :=
  if s.isIn i then
    match (s.pos i).nowA, (s.pos i).nowB with
    | some a, some b => if a.settling then none else some { pos := i, string := s.stringAt i, a := a, b := b }
    | _, _ => none
  else none

/-- The positions whose data are used, in order. -/
def State.members (s : State) : List Member := (List.range s.ring.count).filterMap s.memberAt

/-- The latest part A of an admitted position. -/
def State.latestA (s : State) (i : Nat) : Option MeldA := if s.admittedAt i then (s.pos i).lastA.map readMeldA else none

/-- The latest part B of an admitted position. -/
def State.latestB (s : State) (i : Nat) : Option MeldB := if s.admittedAt i then (s.pos i).lastB.map readMeldB else none

/-- Status word of a block at an admitted position: the Dealer's own words are those it holds now. -/
def State.statusAt (s : State) (i : Nat) (b : Block) : Word :=
  if i = 0 then statusOf s.faults b else ((s.latestA i).map fun a => a.status.getD (blockIndex b) 0).getD 0

/-- Admitted positions of the ring. -/
def State.admittedList (s : State) : List Nat := (List.range s.ring.count).filter s.admittedAt

/-- A status bit of some admitted device. -/
def State.ringHas (s : State) (b : Block) (i : Nat) : Bool := s.admittedList.any fun p => bit (s.statusAt p b) i

/-- The part A that carries a string's current: its head is the Dealer, IN or LATE, and its part A has arrived without
SETTLING (R419). -/
def State.headMeld (s : State) (k : Nat) : Option MeldA :=
  (s.headAt k).bind fun h =>
    if h = 0 ∨ (s.pos h).state = .inRing ∨ (s.pos h).state = .late then (s.pos h).nowA.filter (fun a => !a.settling) else none

/-- Shunt of a string's head in µΩ; 0 is no current sensing. -/
def State.shuntOf (s : State) (k : Nat) : Nat :=
  if k = 1 then s.cfg.shunt else ((s.headAt k).map fun h => shunts.getD (printLevel (s.printOf h) 8) 0).getD 0

/-- Amperes of a current code: 1.52588 µV over the shunt (R425). -/
def ampsOf (shunt : Nat) (code : Int) : Rat := (code : Rat) * 152588 / 100000 / shunt

/-- A string's current in A, none while invalid or absent. -/
def State.stringAmps (s : State) (k : Nat) : Option Rat :=
  (s.headMeld k).bind fun a => if a.curp && !a.curinv && s.shuntOf k ≠ 0 then some (ampsOf (s.shuntOf k) (codeOf a.current)) else none

/-- Strings of the pack. -/
def State.stringList (s : State) : List Nat := (List.range s.cfg.strings).map (· + 1)

/-- What the Dealer keeps of a string. -/
def State.str (s : State) (k : Nat) : StringSvc := s.services.strings.getD (k - 1) StringSvc.reset

/-- Changes what the Dealer keeps of a string. -/
def State.updStr (s : State) (k : Nat) (f : StringSvc → StringSvc) : State :=
  s.updServices fun v => { v with strings := v.strings.modify (k - 1) f }

/-- Cell capacity in A per A·h; none while STR_CAP is invalid. -/
def State.capAh (s : State) : Option Rat := s.cfg.capacity.map fun c => (c : Rat) / 10

/-- Magnitude. -/
def absR (q : Rat) : Rat := if q < 0 then -q else q

/-- Populated cells of a position (STR_CELLS). -/
def State.cellsAt (s : State) (i : Nat) : Nat := if i = 0 then s.cfg.cells else printLevel (s.printOf i) 1 + 5

end Sys2Proof.Machine
end

