-- ==== Sys2Proof/Machine/Services.lean ====
section
/-!
DEFINITION. The pack services of chapter 14 on the Dealer: state of charge, state of health, limits, energy accounting,
the balancing target (R363), the reason CURRENT (R364) and the deal period (R296, R297).
-/
namespace Sys2Proof.Machine

/-! ### What a string gave in the closed deal -/

/-- Members of a string. -/
def State.stringMembers (s : State) (k : Nat) : List Member := s.members.filter (·.string = k)

/-- Codes admitted to state of charge, limits and kitty. -/
def State.stringCodes (s : State) (k : Nat) : List Int := (s.stringMembers k).flatMap (·.a.codes)

/-- Admitted temperatures of a string. -/
def State.stringTemps (s : State) (k : Nat) : List Int := ((s.stringMembers k).flatMap (·.b.temps)).map (·.1)

/-- Mean of codes; none of an empty list. -/
def meanOf (cs : List Int) : Option Rat := if cs.isEmpty then none else some ((cs.sum : Rat) / cs.length)

/-- Sum of the admitted cell voltages of a string in mV. -/
def State.stringSumMv (s : State) (k : Nat) : Rat := milliVolts (s.stringCodes k).sum

/-- Voltage of a string in mV: its summed codes scaled by populated over admitted cells (R436). -/
def State.stringMv (s : State) (k : Nat) : Rat :=
  let cs := s.stringCodes k
  if cs.isEmpty then Config.noCellVoltage
  else milliVolts cs.sum * ((s.stringPositions k).map s.cellsAt).sum / cs.length

/-- Profile level in force, 0 where STR_CHEM is invalid: the strap-fault state then keeps the pack open (R75). -/
def State.profile (s : State) : Nat := s.cfg.profile.getD 0

/-- Family in force. -/
def State.family (s : State) : Family := familyOf s.profile

/-- SoC of a code in 0.01 %. -/
def State.socOfCode (s : State) (c : Rat) : Rat := s.family.socOf (c / 20)

/-! ### Coulomb counting (R425 to R427, R430, R448) -/

/-- Charge of accumulator counts in C: 1.52588 µV times 250 µs over the shunt (R425). -/
def chargeOf (shunt : Nat) (counts : Int) : Rat := ampsOf shunt counts * 250 / 1000000

/-- Difference of two accumulators modulo 2^48, signed. -/
def accDiff (new old : BitVec 48) : Int := (new - old).toInt

/-- Holds the charge within 0 % and 100 %. -/
def clampSoc (q : Rat) : Rat := if q < 0 then 0 else if 10000 < q then 10000 else q

/-- Seconds between two keeper times. -/
def secondsOf (ticks : Nat) : Rat := (ticks : Rat) / 32768

/-- Charge ΔQ of a deal and the growth of the bound by a bridged interval, both in C (R425, R426). -/
def dealCharge (shunt : Nat) (a : MeldA) (now : Nat) (v : StringSvc) : Rat × Rat :=
  let t := secondsOf (now - v.lastTick)
  let i0 := ampsOf shunt v.lastCur
  let i1 := ampsOf shunt (codeOf a.current)
  let bridged := ((i0 + i1) / 2 * t, absR (i0 - i1) / 2 * t)
  match v.lastAcc with
  | some old => if v.broken then bridged else (chargeOf shunt (accDiff a.acc old), 0)
  | none => if v.bridging then (bridged.1, bridged.2 + absR i0 * 60) else (0, 0)

/-- Counts the charge of a deal into a string (R425, R426, R430, R448). `capC` is C in coulombs, `volts` the string
voltage in V. -/
def countCharge (shunt : Nat) (capC sohC volts : Rat) (a : MeldA) (now : Nat) (v : StringSvc) : StringSvc :=
  let qe := dealCharge shunt a now v
  let q := qe.1
  let d := 10000 * q / (capC * sohC)
  let t := secondsOf (now - v.lastTick)
  let grow := 10000 * (absR q * 4 / 1000 + t / shunt + qe.2) / capC
  let first := v.lastAcc.isNone && !v.bridging
  { v with
    soc := clampSoc (v.soc + d)
    socHigh := clampSoc (v.socHigh + d)
    socLow := clampSoc (v.socLow + d)
    bound := if first then v.bound else v.bound + grow
    lastAcc := some a.acc
    lastCur := codeOf a.current
    lastTick := now
    bridging := false
    broken := false
    sinceOcv := v.sinceOcv + q
    chgQ := if 0 < q then v.chgQ + q else v.chgQ
    disQ := if q < 0 then v.disQ - q else v.disQ
    chgE := if 0 < q then v.chgE + q * volts else v.chgE
    disE := if q < 0 then v.disE - q * volts else v.disE
    restSince := if absR (ampsOf shunt (codeOf a.current)) ≤ capC / 3600 / 50 then some (v.restSince.getD now) else none }

/-- An invalid or absent current, or an unknown capacity: held, flagged, not counted (R427, Table 3-11). -/
def holdCharge (a : MeldA) (now : Nat) (v : StringSvc) : StringSvc :=
  { v with socInvalid := true, lastAcc := if a.curp then some a.acc else none, lastCur := 0, lastTick := now,
           bridging := false, broken := false, restSince := none }

/-- The current is absent: held and flagged (R427). The sequence goes on once the head is back (R425, R426). -/
def absentCharge (v : StringSvc) : StringSvc := { v with socInvalid := true, restSince := none }

/-! ### Corrections (R428 to R431) -/

/-- Kinds of correction. -/
inductive Correction where
  | rest | top | first
  deriving DecidableEq, Repr

/-- The correction due: top of charge before rest; a string without a known value takes the first deal (R428 to R430). -/
def State.correctionDue (s : State) (k : Nat) (v : StringSvc) : Option Correction :=
  let cs := s.stringCodes k
  match meanOf cs with
  | none => none
  | some m =>
    let top := match s.stringAmps k, s.capAh with
      | some i, some c => 0 < i && i ≤ c / 5 && (cs.max?.any fun x => 20 * ((s.window.2 : Nat) : Int) ≤ x)
      | _, _ => false
    let soc := s.socOfCode m
    let lfpOk := s.family ≠ .lfp || soc ≤ 1500 || 9500 ≤ soc
    if top then some .top
    else if !v.socKnown then some .first
    else if ((v.restSince.any fun t => s.passed t 1800000) || s.services.rested && !v.firstTaken) && lfpOk then some .rest
    else none

/-- Applies a correction; the second result is C_est / C where R431 forms one. -/
def State.correct (s : State) (k : Nat) (cor : Correction) (v : StringSvc) : StringSvc × Option Rat :=
  let cs := s.stringCodes k
  match meanOf cs, cs.max?, cs.min? with
  | some m, some hi, some lo =>
    let table := s.socOfCode m
    let soc := if cor = .top then 10000 - (s.socOfCode hi - table) else table
    let qualifies := cor ≠ .first && (s.family ≠ .lfp || cor = .top || table ≤ 1500)
    let est := match v.lastOcv, s.capAh with
      | some o, some c =>
        if qualifies && 4000 ≤ absR (table - o) then some (v.sinceOcv * 10000 / (table - o) / (c * 3600)) else none
      | _, _ => none
    ({ v with
        soc := clampSoc soc
        bound := if cor = .first then 2 * (s.family.restError : Rat) else (s.family.restError : Rat)
        socInvalid := cor = .first && (s.stringAmps k).isNone
        socKnown := true
        socHigh := s.socOfCode hi
        socLow := s.socOfCode lo
        restSince := v.restSince.map fun _ => s.now
        lastOcv := if qualifies then some table else v.lastOcv
        sinceOcv := if qualifies then 0 else v.sinceOcv }, est)
  | _, _, _ => (v, none)

/-- Moves SoH_C by one eighth toward an estimate, within 0.50 and 1.10 (R431). -/
def moveSoh (soh est : Rat) : Rat :=
  let x := soh + (est - soh) / 8
  if x < 1 / 2 then 1 / 2 else if 11 / 10 < x then 11 / 10 else x

/-! ### Resistance (R432) -/

/-- g(T) of R434 for a temperature code: 1 at 25 °C and above, exact at whole exponents, else the constant of log 8. -/
def gFactor (t : Int) : Rat :=
  if 25600 ≤ t then 1
  else if t % 25600 = 0 then ((2 ^ (((25600 - t) / 25600).toNat) : Nat) : Rat)
  else Config.resistanceFactor t

/-- Lowest admitted temperature code of a string. -/
def State.lowestTemp (s : State) (k : Nat) : Int := ((s.stringTemps k).min?).getD Config.stringTemperature

/-- R_s in mΩ: r_nom / C_Ah until a step has been taken. -/
def State.resistance (s : State) (v : StringSvc) : Rat :=
  match v.rS with
  | some r => r
  | none => (s.family.nominalR : Rat) / s.capAh.getD 1

/-- Insertion into an ascending list. -/
def insertR (x : Rat) : List Rat → List Rat
  | [] => [x]
  | y :: ys => if x ≤ y then x :: y :: ys else y :: insertR x ys

/-- Median of a list: the mean of the two middle values where their number is even (log 16). -/
def medianOf (xs : List Rat) : Rat :=
  let ys := xs.foldl (fun acc x => insertR x acc) []
  let n := ys.length
  (ys.getD ((n - 1) / 2) 0 + ys.getD (n / 2) 0) / 2

/-- All melds of a string are synchronised. -/
def State.synchronised (s : State) (k : Nat) : Bool :=
  (s.stringMembers k).all (fun m => !m.a.unsync) && (s.headMeld k).any fun a => !a.unsync

/-- Cell states of a string, in order. -/
def State.stringStates (s : State) (k : Nat) : List Nat := (s.stringMembers k).flatMap (·.a.states)

/-- The step of a deal pair that qualifies under R432, in mΩ at 25 °C. -/
def State.resistanceStep (s : State) (k : Nat) (old : StringSvc) : Option Rat :=
  match old.lastMean, meanOf (s.stringCodes k), s.stringAmps k, s.capAh with
  | some m0, some m1, some i1, some c =>
    let i0 := ampsOf (s.shuntOf k) old.lastCur
    if s.synchronised k && old.lastStates = s.stringStates k && c / 5 ≤ absR (i1 - i0) &&
        ((s.stringTemps k).min?.any fun t => 15 * 1024 ≤ t) then
      some ((m1 - m0) / 20 / (i1 - i0) / gFactor (s.lowestTemp k))
    else none
  | _, _, _, _ => none

/-- Takes a step into the estimate (R432): 64 steps after the first sealing set R_ref, later ones the exponential mean. -/
def State.takeStep (s : State) (x : Rat) (v : StringSvc) : StringSvc :=
  match v.rRef with
  | some _ => let r := s.resistance v; { v with rS := some (r + (x - r) / 256) }
  | none =>
    if s.nv.active.isNone then v
    else
      let xs := v.rSteps ++ [x]
      if 64 ≤ xs.length then { v with rRef := some (medianOf xs), rSteps := [] } else { v with rSteps := xs }

/-- SoH_R (R432); none before R_ref is set. -/
def State.sohR (s : State) (v : StringSvc) : Option Rat := v.rRef.map fun r => r / s.resistance v

/-- Published state of health of a string in per cent (R433). -/
def State.sohPercent (s : State) (v : StringSvc) : Rat :=
  let c := s.services.sohC
  100 * match s.sohR v with
    | none => c
    | some r => if r < c then r else c

/-! ### One string at a closure -/

/-- The head's part A of the closed deal, SETTLING or not, carries a reset cause (R426). -/
def State.headBoots (s : State) (k : Nat) : Bool := (s.headAt k).any fun h => (s.pos h).nowA.any (·.rcause)

/-- A string's current is absent: no device heads it, or its head is not admitted. A meld missing from one deal leaves the
current to the next one (R425). -/
def State.headAbsent (s : State) (k : Nat) : Bool := (s.headAt k).all fun h => !s.admittedAt h

/-- State of charge, health and counters of a string at a closure (R425 to R432, R448). -/
def State.serveString (s : State) (k : Nat) : State :=
  let old := { s.str k with broken := (s.str k).broken || s.headBoots k }
  let v := match s.headMeld k, s.capAh with
    | none, _ => if s.headAbsent k then absentCharge old else old
    | some a, none => holdCharge a s.now old
    | some a, some c =>
      if !a.curp || a.curinv || s.shuntOf k = 0 then holdCharge a s.now old
      else countCharge (s.shuntOf k) (c * 3600) s.services.sohC (s.stringMv k / 1000) a s.now old
  let ve := match s.correctionDue k v with
    | none => (v, none)
    | some cor => s.correct k cor v
  let v := match s.resistanceStep k old with
    | none => ve.1
    | some x => s.takeStep x ve.1
  let v := { v with
    lastMean := if s.synchronised k && (s.stringAmps k).isSome then meanOf (s.stringCodes k) else none
    lastStates := s.stringStates k
    firstTaken := v.firstTaken || !(s.stringCodes k).isEmpty }
  let s := s.updStr k fun _ => v
  match ve.2 with
  | none => s
  | some e => s.updServices fun x => { x with sohC := moveSoh x.sohC e }

/-! ### Limits (R434 to R437) -/

/-- f of R435 for one temperature code and a window in °C: 0 outside, 1 inside, linear over the 10 °C at each edge. -/
def deratingAt (w : Int × Int) (t : Int) : Rat :=
  let c : Rat := (t : Rat) / 1024
  let lo := (c - w.1) / 10
  let hi := ((w.2 : Rat) - c) / 10
  let f := if lo < hi then lo else hi
  if f < 0 then 0 else if 1 < f then 1 else f

/-- f of a string: its worst admitted temperature decides (R435). -/
def derating (w : Int × Int) (ts : List Int) : Rat :=
  let ts := if ts.isEmpty then [Config.stringTemperature] else ts
  ts.foldl (fun f t => let x := deratingAt w t; if x < f then x else f) 1

/-- Least value of a list of currents, the constant of log 14 for an empty list. -/
def leastR : List Rat → Rat
  | [] => Config.noCellLimit
  | x :: xs => xs.foldl (fun a b => if b < a then b else a) x

/-- Floor of 0. -/
def atLeast0 (q : Rat) : Rat := if q < 0 then 0 else q

/-- Discharge and charge limit of a string in A, and whether either f is below 1 (R434, R435). -/
def State.stringLimits (s : State) (k : Nat) : Rat × Rat × Bool :=
  let v := s.str k
  let i := (s.stringAmps k).getD 0
  let r := s.resistance v * gFactor (s.lowestTemp k)
  let cs := s.stringCodes k
  let ts := s.stringTemps k
  let fd := derating s.family.dischargeWindow ts
  let fc := derating (chargeWindow s.profile) ts
  let base := s.capAh.getD 0 * s.services.sohC / 10
  let dis := leastR (cs.map fun c => atLeast0 (-i + (milliVolts c - s.window.1) / r))
  let chg := leastR (cs.map fun c => atLeast0 (i + ((s.window.2 : Rat) - milliVolts c) / r))
  let capD := (s.family.ratedDischarge : Rat) * base * fd
  let capC := (s.family.ratedCharge : Rat) * base * fc
  let empty := cs.any fun c => c ≤ 20 * (s.window.1 : Nat)
  let full := cs.any fun c => 20 * ((s.window.2 : Nat) : Int) ≤ c
  (if empty then 0 else if dis < capD then dis else capD,
    if full then 0 else if chg < capC then chg else capC, fd < 1 || fc < 1)

/-- Closed strings: string 1 while the pack is CLOSED, another while commanded CLOSED (R436). -/
def State.closedStrings (s : State) : List Nat :=
  s.stringList.filter fun k => if k = 1 then s.services.pack = .closed else (s.str k).sent = .closed

/-- Pack voltage in mV: the mean over the closed strings, over all when none is closed (R436, Table 15-5). -/
def State.packMv (s : State) : Rat :=
  let ks := if s.closedStrings.isEmpty then s.stringList else s.closedStrings
  (ks.map s.stringMv).foldl (· + ·) 0 / ks.length

/-- Smallest of a list with the lowest string number that has it; 0 and string 0 for none. -/
def smallest : List (Nat × Rat) → Nat × Rat
  | [] => (0, 0)
  | x :: xs => xs.foldl (fun a b => if b.2 < a.2 then b else a) x

/-- A published limit falls at once and rises by no more than 0.1 × rated × C_Ah per second (R437). -/
def paced (old target rate seconds : Rat) : Rat := if target < old + rate * seconds then target else old + rate * seconds

/-- The published limits at a closure (R436, R437): halved while the degraded timer runs, 0 unless CLOSED. -/
def State.publishLimits (s : State) : State :=
  let ks := s.closedStrings
  let ls := ks.map fun k => (k, s.stringLimits k)
  let d := smallest (ls.map fun x => (x.1, x.2.1))
  let c := smallest (ls.map fun x => (x.1, x.2.2.1))
  let half : Rat := if s.safety.running then 1 / 2 else 1
  let n : Rat := ks.length
  let t := secondsOf (s.now - s.services.limAt)
  let cap := s.capAh.getD 0
  let volts := s.packMv / 1000
  s.updServices fun v =>
    if v.pack = .closed then
      let dis := paced v.limDis (d.2 * n * half) ((s.family.ratedDischarge : Rat) * cap / 100) t
      let chg := paced v.limChg (c.2 * n * half) ((s.family.ratedCharge : Rat) * cap / 100) t
      { v with limDis := dis, limChg := chg, powDis := dis * volts, powChg := chg * volts, limStrD := d.1, limStrC := c.1,
               derated := ls.any (·.2.2.2), limAt := s.now }
    else { v with limDis := 0, limChg := 0, powDis := 0, powChg := 0, limStrD := 0, limStrC := 0, derated := false,
                  limAt := s.now }

/-! ### Targets and ring-wide throttling -/

/-- STR_BAL of a device enables an active mode (Table 3-5): levels 3 and above. -/
def State.activeAt (s : State) (i : Nat) : Bool := if i = 0 then s.cfg.active else 3 ≤ printLevel (s.printOf i) 5 && printLevel (s.printOf i) 5 ≤ 18

/-- The balancing target of a closure (R363): the mean, or the lowest of the codes admitted for kitty accounting. -/
def State.target (s : State) : State :=
  let cs := s.members.flatMap (·.a.codes)
  match meanOf cs, cs.min? with
  | some m, some lo =>
    s.updDealer fun d => { d with target := some (satCode (if s.dealer.present.any s.activeAt then roundNearest m else lo)) }
  | _, _ => s

/-- Strings R364 counts: their head is the Dealer, IN or LATE. -/
def State.countedStrings (s : State) : List Nat :=
  s.stringList.filter fun k => match s.headAt k with
    | none => false
    | some h => h = 0 || (s.pos h).state = .inRing || (s.pos h).state = .late

/-- A string's current for R364: none where invalid, in overrange or absent. -/
def State.calmAmps (s : State) (k : Nat) : Option Rat :=
  if (s.headMeld k).any (·.curovr) then none else s.stringAmps k

/-- Starts or ends a ring-scope episode (R377); the end is logged. -/
def State.ringEpisode (s : State) (reason : Nat) (on : Bool) : State :=
  let start := if reason = 8 then s.dealer.curEp else s.dealer.paceEp
  match start, on with
  | none, true =>
    let s := s.trace 0x89 [BitVec.ofNat 8 reason, 1, 0, 0, 0]
    s.updDealer fun d => if reason = 8 then { d with curEp := some s.now } else { d with paceEp := some s.now }
  | some t, false =>
    let n := episodeUnits t s.now
    let s := (s.logThrottle reason n true).trace 0x89 [BitVec.ofNat 8 reason, 0, 0, 0, 0]
    s.updDealer fun d =>
      if reason = 8 then { d with curEp := none, curDur := n } else { d with paceEp := none, paceDur := n }
  | _, _ => s

/-- CURRENT at a closure (R364): in force above 0.5 C, lifted after 10 s at or below 0.4 C, never with STR_SHUNT level
0, always with an unknown capacity. -/
def State.currentReason (s : State) : State :=
  if s.cfg.shunt = 0 && (level s.straps.latched 8).any (· = 0) then s
  else
    match s.capAh with
    | none => (s.updDealer fun d => { d with current := true, calmSince := none }).ringEpisode 8 true
    | some c =>
      let amps := s.countedStrings.map s.calmAmps
      let above := amps.any fun a => a.all fun i => c / 2 < absR i
      let calm := amps.all fun a => a.any fun i => absR i ≤ c * 2 / 5
      let since := if calm then some (s.dealer.calmSince.getD s.now) else none
      let lift := since.any fun t => s.passed t 10000
      let on := above || s.dealer.current && !lift
      (s.updDealer fun d => { d with current := on, calmSince := since }).ringEpisode 8 on

/-! ### Pace (R296, R297) -/

/-- Announces a period in the next beacon and the three after it; it applies from the deal 4 above the first. -/
def State.announce (s : State) (p : Nat) : State :=
  let s := s.updRing fun r => { r with announced := some (p, r.deal + 5) }
  s.updDealer fun d => { d with announceLeft := 4, lateRun := 0, fastRun := 0 }

/-- An announced period has not come into force yet. -/
def State.announcing (s : State) : Bool := s.ring.announced.any fun a => a.1 ≠ s.ring.period

/-- The pace at a closure: 8 late deals stretch by one period, 256 fast ones step back (R296, R297). -/
def State.pace (s : State) : State :=
  let p := s.period
  let late := s.dealer.t0 + p * 500000 < s.dealer.lastMeld
  let shorter := periodMs (s.ring.period - 1)
  let fast := s.dealer.lastMeld ≤ s.dealer.t0 + shorter * 400000
  let s := s.updDealer fun d =>
    { d with lateRun := if late then d.lateRun + 1 else 0
             fastRun := if fast && s.cfg.period < s.ring.period then d.fastRun + 1 else 0 }
  if s.announcing || s.dealer.announceLeft ≠ 0 then s
  else if 8 ≤ s.dealer.lateRun then
    if s.ring.period < 6 then ((s.announce (s.ring.period + 1)).raise .superv 4).ringEpisode 6 true
    else s
  else if 256 ≤ s.dealer.fastRun then s.announce (s.ring.period - 1)
  else s

end Sys2Proof.Machine
end

