-- ==== Sys2Proof/Machine/Pack.lean ====
section
/-!
DEFINITION. The pack and string sequence of the Dealer (chapter 14, section 6), the conditions it takes from the safety
function (chapter 17), degraded mode, and the status pins (chapter 15, section 6).
-/
namespace Sys2Proof.Machine

/-! ### Conditions -/

/-- The interlock reads closed, and no interlock fault holds it open (R504 to R506). -/
def State.interlockClosed (s : State) : Bool :=
  !s.safety.openA && !s.safety.openB && !s.safety.crossShort && !s.safety.srcFault

/-- Fingerprint level of strap `j` at a position; the Dealer's own is the one it latched. -/
def State.levelAt (s : State) (i j : Nat) : Nat :=
  if i = 0 then (fingerLevels s.straps.latched).getD j 31 else printLevel (s.printOf i) j

/-- The number of String Heads that name a string. -/
def State.headCount (s : State) (k : Nat) : Nat := (s.handPositions.filter fun i => s.headString i = some k).length

/-- The five checks of R74. Heads are counted over every known position, the others over the admitted ones. -/
def State.ringConsistent (s : State) : Bool :=
  let ps := s.admittedList.filter (1 ≤ ·)
  ps.all (fun i => s.levelAt i 2 = s.levelAt 0 2) &&
    (s.stringList.all fun k => k = 1 || s.headCount k = 1) &&
    (s.handPositions.all fun i => (s.headString i).all fun k => k ≤ s.cfg.strings) &&
    (!s.cfg.closed || ps.all fun i => s.levelAt i 3 / 4 ≠ 4 && (s.answerOf i).all fun a => a.l1 = 0) &&
    (s.cfg.shunt = 0 || s.handPositions.all fun i => (s.headString i).isNone || shunts.getD (s.levelAt i 8) 0 ≠ 0)

/-- A flag a device reports in its latest part A, or in the answer it gave before any. -/
def State.reports (s : State) (i : Nat) (meld : MeldA → Bool) (answer : Answer → Bool) : Bool :=
  match s.latestA i with
  | some a => meld a
  | none => (s.answerOf i).any answer

/-- Some device is in strap-fault state (R75). -/
def State.anyStrapFault (s : State) : Bool :=
  s.strapFault || (s.handPositions.any fun i => s.admittedAt i && s.reports i (·.sfault) (·.sfault))

/-- Some admitted device is in strap-mismatch state, or some device reports a fingerprint other than its seal entry's
(R88). -/
def State.anyMismatch (s : State) : Bool :=
  s.straps.mismatch || (s.handPositions.any fun i => s.admittedAt i && s.reports i (·.smism) (·.smism)) ||
    (s.handPositions.any fun i => match s.answerOf i, s.sealEntry i with
      | some a, some e => a.print ≠ e.fingerprint
      | _, _ => false)

/-- Some admitted device reports another seal number or check (R288). -/
def State.anySealDiff (s : State) : Bool :=
  s.handPositions.any fun i => s.admittedAt i && (s.answerOf i).any fun a =>
    a.sealNo ≠ s.sealNumber || a.sealChk ≠ (s.nv.active.map (·.check)).getD 0

/-- Some position is FOREIGN (R289). -/
def State.anyForeign (s : State) : Bool := s.handPositions.any fun i => (s.pos i).state = .foreign

/-- A refusal of closing that R443 lets open a closed pack: R74, R75, R81, R88, R288, R401 and the STRAP bits 4 and 6 whose
containment is a refused closing (Table 16-7). The conditions of the safety function, R79, R100, R289 and R510 keep
closed contactors closed (log 17). -/
def State.ceases (s : State) : Bool :=
  !s.ringConsistent || s.anyStrapFault || s.nv.active.isNone || s.anyMismatch || s.anySealDiff ||
    ((List.range 3).any fun i => chanRole s.cfg i = .coil && (s.chan i).offCurrent) || (s.handPositions.any fun i => (s.headString i).isSome && bit (s.statusAt i .out) 5) ||
    s.ringHas .strap 4 || s.has .strap 6

/-- A U-class STRAP fault of live reading refuses closing after the next opening (R79). -/
def State.liveRefuses (s : State) : Bool := s.services.pack = .opened && s.ringHas .strap 1

/-- Codes of a member's cells within the trip limits, both codes where R166 checks both. -/
def Member.within (level : Nat) (m : Member) : Bool :=
  (m.a.view.all fun c => withinTrip (tripCodes level) (checkedCodes c.state c.code c.diverse)) &&
    m.b.temps.all fun t => withinTrip (tripTempCodes level) [t.1]

/-- Every admitted cell and temperature of the latest closed deal lies within its trip limits (R501, R514). -/
def State.allWithin (s : State) : Bool := s.members.all (Member.within s.profile)

/-- A position is absent or foreign for R515 and R516: out of service, or its readmission not complete (R307). -/
def State.outAt (s : State) (i : Nat) : Bool :=
  (s.pos i).state = .dummy || (s.pos i).state = .foreign || (s.pos i).outOfService

/-- Positions absent or foreign. -/
def State.outList (s : State) : List Nat := s.handPositions.filter s.outAt

/-- A degradable condition of Table 17-4 is present. -/
def State.degradable (s : State) : Bool :=
  !s.outList.isEmpty || s.ringHas .portN 14 || s.has .superv 8 || s.ringHas .meas 2 || s.ringHas .div 2 || s.ringHas .div 3 ||
    s.ringHas .raivo 8 || s.ringHas .raivo 9 || s.ringHas .mem 4 || s.ringHas .mem 5 || s.ringHas .probe 4 ||
    s.ringHas .probe 5 || s.ringHas .probe 7 || s.ringHas .probe 8 || s.ringHas .meas 5

/-- An F-class status word on the Dealer or on a String Head. -/
def State.anyF (s : State) : Bool :=
  allBlocks.any fun b => wordClass (s.statusAt 0 b) = 3 ||
    s.handPositions.any fun i => (s.headString i).isSome && wordClass (s.statusAt i b) = 3

/-- The supervisor's permission to turn a contactor or precharge output on (R501). -/
def State.permitted (s : State) : Bool :=
  s.interlockClosed && !s.keeper.demand && s.allWithin && (s.handPositions.all fun i => (s.pos i).state = .inRing) &&
    !s.degradable && !s.safety.expired && !s.anyF

/-- The closing conditions of R438. -/
def State.closeOk (s : State) : Bool :=
  s.supply.vaux && !s.keeper.lockout && !s.ceases && !s.liveRefuses && !s.anyForeign && s.permitted

/-! ### Strings -/

/-- Every populated cell of the string is admitted, and every position IN (R438). -/
def State.stringWhole (s : State) (k : Nat) : Bool :=
  (s.stringPositions k).all fun i => (s.memberAt i).any fun m =>
    !m.a.unsync && m.a.ncell = s.cellsAt i && m.a.view.all CellView.counted

/-- A string s ≥ 2 is eligible (R438, R521). -/
def State.eligible (s : State) (k : Nat) : Bool :=
  match s.headAt k with
  | none => false
  | some h =>
    (s.pos h).state = .inRing && (s.pos h).interlock = 0 && s.stringWhole k &&
      absR (s.stringSumMv k - s.stringSumMv 1) * 100 ≤ s.stringSumMv 1

/-- Pull-in time of a coil class in ms (Table 13-2). -/
def pullInMs (c : Nat) : Nat := [100, 150, 200, 300].getD c 300

/-- Pull-in time of the coils of a string's head. -/
def State.pullInOf (s : State) (k : Nat) : Nat :=
  if k = 1 then pullInMs s.cfg.coilClass else pullInMs (((s.headAt k).map fun h => s.levelAt h 9).getD 0 / 6)

/-- One deal of precharge supervision (R441): peak and deals in a row at or below the threshold. -/
def prechargeDeal (cap : Rat) (amps : Option Rat) (pk : Rat × Nat) : Rat × Nat :=
  match amps with
  | none => (pk.1, 0)
  | some i =>
    let p := if pk.1 < absR i then absR i else pk.1
    let th := if p / 20 < cap / 100 then cap / 100 else p / 20
    (p, if absR i ≤ th then pk.2 + 1 else 0)

/-- A string's sequence fails: OPEN, and no retry for 60 s (R442). -/
def State.stringFails (s : State) (k : Nat) : State :=
  (s.updStr k fun v => { v with cmd := .open, failed := true, failedAt := s.now }).raise .superv 5

/-- A string under PRECHARGE at a closure (R441, R442). The head's gate is taken to turn on 1 ms after the beacon. -/
def State.stringPrecharge (s : State) (k : Nat) : State :=
  let v := s.str k
  let pull := s.pullInOf k + 1
  if s.cfg.shunt = 0 then
    if s.passed v.cmdAt (pull + 2000) then s.updStr k fun v => { v with cmd := .close } else s
  else
    let pk := if passedMs v.cmdAt s.meas.sampledAt pull then prechargeDeal (s.capAh.getD 0) (s.stringAmps k) (v.peak, v.quiet)
      else (0, 0)
    let s := s.updStr k fun v => { v with peak := pk.1, quiet := pk.2 }
    if 2 ≤ pk.2 then s.updStr k fun v => { v with cmd := .close }
    else if s.passed v.cmdAt (pull + 5000) then s.stringFails k
    else s

/-- One string at a closure (Table 14-4, R442, R445). -/
def State.stringStep (s : State) (k : Nat) : State :=
  let v := s.str k
  let near := match s.stringAmps 1, s.capAh with
    | some i, some c => absR i ≤ c / 5
    | _, _ => false
  match v.cmd with
  | .open =>
    let may := s.services.pack = .strings || s.services.pack = .closed && (near || s.cfg.shunt = 0)
    if may && s.eligible k && s.closeOk && (!v.failed || s.passed v.failedAt 60000) then
      s.updStr k fun v => { v with cmd := .precharge, failed := false, peak := 0, quiet := 0 }
    else s
  | .precharge => if s.eligible k then s.stringPrecharge k else s.stringFails k
  | .close =>
    if !s.eligible k then s.stringFails k
    else if s.passed v.cmdAt (s.pullInOf k + 50) && v.sent = .close then s.updStr k fun v => { v with cmd := .closed }
    else s
  | .closed =>
    if (s.headAt k).any fun h => s.admittedAt h then s else s.updStr k fun v => { v with cmd := .open }

/-- Strings s ≥ 2. -/
def State.otherStrings (s : State) : List Nat := s.stringList.filter (2 ≤ ·)

/-! ### The pack (Table 14-3) -/

/-- Outputs a pack state wants: OC1 positive, OC2 negative, OC3 precharge. -/
def packWants (p : PackState) (oc1Off : Bool) (i : Nat) : Bool :=
  match p with
  | .opened => false
  | .strings => false
  | .neg => i = 1
  | .precharge => i = 1 || i = 2
  | .pos => i < 3
  | .preOff => i = 0 || i = 1
  | .closed => i = 0 || i = 1
  | .opening => i = 1 || i = 0 && !oc1Off

/-- A coil step is done: pull-in plus 50 ms since the gate's turn-on (R439). -/
def State.coilDone (s : State) (i : Nat) : Bool :=
  (s.chan i).onAt.any fun t => s.passed t (pullInMs s.cfg.coilClass + 50)

/-- A pack failure: unsequenced opening, SUPERV bit 5, no retry for 60 s (R442, R444). -/
def State.packFails (s : State) : State :=
  ((s.raise .superv 5).openPack 1).updServices fun v => { v with failedAt := some s.now }

/-- Begins the sequenced opening (R443); without OC1 on there is nothing to wait for. -/
def State.openSequenced (s : State) : State :=
  if s.services.pack = .opened || s.services.pack = .opening then s
  else
    let on := (s.chan 0).command
    (((s.setPack .opening).updServices fun v => { v with oc1Off := !on }).updPins fun p => { p with ready := false }).publishLimits

/-- Summed current of string 1 and the closed strings. -/
def State.packAmps (s : State) : Option Rat :=
  (1 :: (s.otherStrings.filter fun k => (s.str k).cmd = .closed)).foldl
    (fun acc k => match acc, s.stringAmps k with
      | some a, some b => some (a + b)
      | _, _ => none) (some 0)

/-- PRECHARGE at a closure (R441, R442). -/
def State.packPrecharge (s : State) : State :=
  match (s.chan 2).onAt with
  | none => if s.passed s.services.packAt 5000 then s.packFails else s
  | some t =>
    let pull := pullInMs s.cfg.coilClass
    if s.cfg.shunt = 0 then if s.passed t (pull + 2000) then s.setPack .pos else s
    else
      let pk := if passedMs t s.meas.sampledAt pull then
          prechargeDeal (s.capAh.getD 0) s.packAmps (s.services.peak, s.services.quiet) else (0, 0)
      let s := s.updServices fun v => { v with peak := pk.1, quiet := pk.2 }
      if 2 ≤ pk.2 then s.setPack .pos else if s.passed t (pull + 5000) then s.packFails else s

/-- A coil step: the next state when done, a failure 5 s after the state was entered. -/
def State.coilStep (s : State) (i : Nat) (next : PackState) : State :=
  if s.coilDone i then (s.setPack next).updServices fun v => { v with peak := 0, quiet := 0 }
  else if s.passed s.services.packAt 5000 then s.packFails
  else s

/-- Every string current is at or below 0.05 C (R443). -/
def State.lowCurrents (s : State) : Bool :=
  match s.capAh with
  | none => false
  | some c => s.stringList.all fun k => (s.stringAmps k).any fun i => absR i ≤ c / 20

/-- The opening's wait ends: OC1 goes off (R443). -/
def State.openingStep (s : State) : State :=
  if !s.services.oc1Off && (s.lowCurrents || s.passed s.services.packAt 2000) then
    (s.commandOff 0 0).updServices fun v => { v with oc1Off := true }
  else s

/-- A channel the state wants on has been turned off by a fence or another supervisor action (log 18). -/
def State.lostChannel (s : State) : Bool :=
  (List.range 3).any fun i => packWants s.services.pack s.services.oc1Off i && (s.chan i).fenced

/-- The pack at a closure (Table 14-3); strings step first, so that the last one ready lets NEG follow. -/
def State.packStep (s : State) : State :=
  if s.services.pack = .opened then
    if s.closeOk && s.services.failedAt.all fun t => s.passed t 60000 then
      s.setPack (if s.otherStrings.isEmpty then .neg else .strings)
    else s
  else if s.services.pack = .opening then s.openingStep
  else if s.lostChannel then s.openPack 1
  else if s.ceases then s.openSequenced
  else
    let p := s.services.pack
    let s := s.otherStrings.foldl State.stringStep s
    match p with
    | .strings =>
      if s.otherStrings.all fun k => (s.str k).cmd = .closed || (s.str k).cmd = .open && ((s.str k).failed || !s.eligible k) then
        s.setPack .neg
      else s
    | .neg => s.coilStep 1 .precharge
    | .precharge => s.packPrecharge
    | .pos => s.coilStep 0 .preOff
    | .preOff => s.setPack .closed
    | _ => s

/-- A failed core on the Dealer: the supervisor holds CLOSED or OPEN and turns off the outputs of any other state (R449). -/
def State.coreLost (s : State) : State :=
  if !s.isDealer || s.services.pack = .opened then s
  else if s.services.pack = .closed then
    s.updServices fun v => { v with strings := v.strings.map fun x => if x.cmd = .closed then x else { x with cmd := .open } }
  else s.openPack 1

/-- At T0 the Dealer's outputs take the requests of the sequence (R11, R439); a turn-on waits for the permission. -/
def State.outputCommand (s : State) : State :=
  let ok := s.closeOk
  (List.range 3).foldl (fun t i =>
    if chanRole t.cfg i ≠ .coil then t
    else if packWants t.services.pack t.services.oc1Off i then (if ok then t.commandOn i else t)
    else if (t.chan i).command then t.commandOff i 0 else t) s

/-- At the beacon after OC1 went off, OC2 goes off and every string is commanded OPEN (R443). -/
def State.endOpening (s : State) : State :=
  if s.services.pack = .opening && s.services.oc1Off then (s.setPack .opened).stringsOpen else s

/-! ### Degraded mode (R515 to R517) -/

/-- Positions out of service in a string. -/
def State.outIn (s : State) (k : Nat) : Nat := (s.outList.filter fun i => s.stringAt i = k).length

/-- The degraded timer follows the conditions; its stopped value is kept for 1 h (R515). -/
def State.degradedTimer (s : State) : State :=
  let on := s.degradable
  s.updSafety fun f =>
    { f with running := on, clearAt := if on then none else if f.degraded = 0 then none else some (f.clearAt.getD s.now) }

/-- Degraded mode at a closure: a second position of a string out of service, or a strapped time of 0, trips (R516,
R517). -/
def State.degradedClosure (s : State) : State :=
  let s := s.degradedTimer
  let two := s.stringList.any fun k => 2 ≤ s.outIn k
  let zero := s.safety.running && s.cfg.degradedMin = 0
  if (two || zero) && (!s.keeper.lockout || s.services.pack ≠ .opened) then
    (s.updSafety fun f => { f with expired := f.expired || zero }).trip (some 5)
  else s

/-! ### Status pins (R469 to R473) -/

/-- FAULT_N at a closure (R469). -/
def State.faultNow (s : State) : Bool :=
  (s.admittedList.any fun i => allBlocks.any fun b => 2 ≤ wordClass (s.statusAt i b)) ||
    s.handPositions.any fun i => (s.pos i).state = .dummy || (s.pos i).state = .foreign

/-- C-class sticky bits of a status word. -/
def cBits (b : Block) (w : Word) : Nat :=
  let m := (w.setWidth 16) &&& maskC b
  ((List.range 16).filter fun i => m.getLsbD i).length

/-- C-class sticky bits set over the Dealer and every admitted device (R470). -/
def State.cCount (s : State) : Nat := ((s.admittedList.map fun i => (allBlocks.map fun b => cBits b (s.statusAt i b)).sum)).sum

/-- Pack state of charge in 0.01 % and its bound: the mean of the strings, equal in capacity, and the largest bound (R430).
None while any string is invalid. -/
def State.packSoc (s : State) : Option Rat :=
  let vs := s.stringList.map s.str
  if vs.any (·.socInvalid) || s.cfg.capacity.isNone then none else some ((vs.map (·.soc)).foldl (· + ·) 0 / vs.length)

/-- Largest bound of the strings. -/
def State.packBound (s : State) : Rat := (s.stringList.map s.str).foldl (fun b v => if b < v.bound then v.bound else b) 0

/-- SOC_PWM duty in steps of 1/12000: 10 % + 0.8 × SoC, 5 % while invalid or without services (R473). -/
def State.socDuty (s : State) : Nat :=
  if !s.core then 600
  else match s.packSoc with
    | none => 600
    | some q => (roundQ (1200 + q * 96 / 100)).toNat

/-- The pins at a closure (R469, R470, R472, R473). -/
def State.closurePins (s : State) : State :=
  let ok := s.closeOk
  let fault := s.faultNow
  let warn := 4 ≤ s.cCount
  let duty := s.socDuty
  let s := s.updPins fun p => { p with faultN := fault, warnN := warn, ready := p.ready && ok, socPwm := duty }
  s.updServices fun v => { v with readyNext := ok }

end Sys2Proof.Machine
end

