-- ==== Sys2Proof/Machine/Outputs.lean ====
section
/-!
DEFINITION. Load outputs (chapter 13): the gate of a channel, its comparators, pump dips, VSW, the string command of a
String Head (R440, R518 to R520), the lamps (R387) and the heating rule (R446).
-/
namespace Sys2Proof.Machine

/-! ### Own temperatures -/

/-- Own admitted temperature codes with their source (Table 7-5, R176). -/
def State.ownTemps (s : State) : List (Int × Nat) :=
  ((List.range 16).filterMap fun k =>
      let t := s.probes.slots.getD k Slot.empty
      if t.assigned && (t.state = .valid || t.state = .stale && t.hasValue) then some (codeOf t.code, k) else none) ++
    (List.range s.cfg.ntcCount).filterMap fun k =>
      let c := s.meas.ntc.getD k 0x20000
      if c = 0x20000 ∨ s.meas.ntcOut.getD k false then none else some (codeOf c, 16 + k)

/-- Highest own admitted temperature. -/
def State.tMax (s : State) : Option Int := (s.ownTemps.map (·.1)).max?

/-- Lowest own admitted temperature. -/
def State.tMin (s : State) : Option Int := (s.ownTemps.map (·.1)).min?

/-! ### The string outputs of a String Head -/

/-- A String Head turns neither output on under R519 or R520. -/
def State.headRefuses (s : State) : Bool :=
  s.safety.refuse || s.ring.lock || s.keeper.demand || s.cfg.interlock && !s.interlockClosed

/-- The supervisor of this device permits a coil channel to turn on (R11, R438, R520). -/
def State.coilPermit (s : State) : Bool := if s.isDealer then s.closeOk else !s.headRefuses

/-- Outputs a string command wants: OC1 contactor, OC2 precharge (Table 14-4). -/
def StringCmd.wants (c : StringCmd) (i : Nat) : Bool :=
  match c with
  | .open => false
  | .precharge => i = 1
  | .close => i = 0 || i = 1
  | .closed => i = 0

/-- The supervisor of a String Head carries out the string command of an accepted beacon (R440, R519, R520). -/
def State.stringCommand (s : State) : State :=
  if !s.isHead then s
  else
    let c := s.ring.cmds.getD (s.cfg.string - 2) .open
    let s := if c = .open then s.updSafety fun f => { f with refuse := false } else s
    (List.range 2).foldl (fun t i =>
      if chanRole t.cfg i ≠ .coil then t
      else if c.wants i then (if t.headRefuses then t else t.commandOn i)
      else if (t.chan i).command then t.commandOff i 0 else t) s

/-! ### A channel -/

/-- Whether the gate of a channel may turn on now: a coil needs its supervisor's permission too. -/
def State.gateAllowed (s : State) (i : Nat) : Bool := s.mayTurnOn i && (chanRole s.cfg i ≠ .coil || s.coilPermit)

/-- GATE_TURN_ON (R392, R394): 1 ms after the pump's start the gate turns on; while no output may turn on, it waits. -/
def execGateTurnOn (ch : Fin 6) (s : State) : Host.Outcome State Fault Refusal :=
  let i := ch.val
  .next <| if (s.chan i).stage = .pumpWait && (s.chan i).command && s.gateAllowed i then s.gateOn i 0 else s

/-- PULL_IN_END (R395): a coil channel goes to its economised hold. -/
def execPullInEnd (ch : Fin 6) (s : State) : Host.Outcome State Fault Refusal :=
  let i := ch.val
  .next <|
    if (s.chan i).stage = .opening && chanRole s.cfg i = .coil then s.updChan i fun c => { c with stage := .steady } else s

/-- INRUSH_WINDOW_END (R398): a heater or lamp channel leaves its inrush window. -/
def execInrushWindowEnd (ch : Fin 6) (s : State) : Host.Outcome State Fault Refusal :=
  let i := ch.val
  .next <|
    if (s.chan i).stage = .opening && chanRole s.cfg i ≠ .coil then s.updChan i fun c => { c with stage := .steady } else s

/-- OUTPUT_HARD_SHORT (R398): off within 3 µs and fenced; never blanked, so a channel that has just dropped with its pump
is fenced too (Table 13-7). -/
def execOutputHardShort (ch : Fin 6) (s : State) : Host.Outcome State Fault Refusal :=
  let i := ch.val
  .next <|
    if (s.chan i).fenced || !s.running || !((s.chan i).isOn || (match (s.chan i).stage with | .dipped _ => true | _ => false)) then s
    else s.fenceChan i 0

/-- An over-current (R399): a coil is fenced; a heater or lamp retries once, and a second within 60 s fences it. -/
def State.overcurrent (s : State) (i : Nat) : State :=
  if chanRole s.cfg i = .coil then s.fenceChan i 2
  else if (s.chan i).overAt.any fun t => !s.passed t 60000 then s.fenceChan i 2
  else ((s.ruleOff i 2 .retryWait).updChan i fun c => { c with overAt := some s.now }).raise .out 1

/-- INRUSH_OVERCURRENT (R398, R399): above the inrush threshold for 200 µs within the window. -/
def execInrushOvercurrent (ch : Fin 6) (s : State) : Host.Outcome State Fault Refusal :=
  let i := ch.val
  .next <| if (s.chan i).stage = .opening && chanRole s.cfg i ≠ .coil then s.overcurrent i else s

/-- OVERCURRENT (R398, R399): above 2 × In for 200 µs of on-time outside the inrush window. -/
def execOvercurrent (ch : Fin 6) (s : State) : Host.Outcome State Fault Refusal :=
  let i := ch.val
  .next <|
    if (s.chan i).stage = .steady || (s.chan i).stage = .opening && chanRole s.cfg i = .coil then s.overcurrent i else s

/-- OVERCURRENT_RETRY (R397, R399): 1 s later with a fresh window; in the lowest state the retry waits for its end. -/
def execOvercurrentRetry (ch : Fin 6) (s : State) : Host.Outcome State Fault Refusal :=
  let i := ch.val
  .next <|
    if (s.chan i).stage = .retryWait && (s.chan i).command then
      if s.gateAllowed i then s.gateOn i 2 else s.updChan i fun c => { c with stage := .held }
    else s

/-- OPEN_LOAD (R400): a coil is turned off and fenced; a heater or lamp stays on. -/
def execOpenLoad (ch : Fin 6) (s : State) : Host.Outcome State Fault Refusal :=
  let i := ch.val
  .next <|
    if (s.chan i).stage ≠ .steady then s
    else if chanRole s.cfg i = .coil then s.fenceChan i 4
    else s.raise .out 3

/-- OFF_STATE_CURRENT (R401): current on a channel commanded off; not fenced. -/
def execOffStateCurrent (ch : Fin 6) (s : State) : Host.Outcome State Fault Refusal :=
  let i := ch.val
  .next <|
    if (s.chan i).command || (s.chan i).isOn || !s.running || chanRole s.cfg i = .none then s
    else (s.updChan i fun c => { c with offCurrent := true }).raise .out 5

/-! ### Pumps, VSW -/

/-- A channel dropped by its pump (R404): a C-class dip where it is not fenced. -/
def State.dipChan (s : State) (i : Nat) : State :=
  if (s.chan i).isOn then
    (s.ruleOff i 3 (.dipped ((s.chan i).stage = .opening && chanRole s.cfg i ≠ .coil))).raise .out 6
  else s

/-- PUMP_DIP (R392, R404, R405): both channels of the pair go off; the third dip of one pump within 1 s fences both. -/
def execPumpDip (pump : Fin 3) (s : State) : Host.Outcome State Fault Refusal :=
  let k := pump.val
  let p := s.outputs.pumps.getD k Pump.reset
  .next <|
    if !p.running then s
    else
      let near := (p.dips.filter fun t => !s.passed t 1000) ++ [s.now]
      let s := s.updOutputs fun o => { o with pumps := o.pumps.modify k fun q => { q with under := true, dips := near } }
      if 3 ≤ near.length then
        let s := (s.ruleOff (2 * k) 3 .off).ruleOff (2 * k + 1) 3 .off
        let s := (s.updChan (2 * k) fun c => { c with fenced := true, command := false }).updChan (2 * k + 1) fun c =>
          { c with fenced := true, command := false }
        s.raiseAlso .out 8 [10 + 2 * k, 11 + 2 * k]
      else (s.dipChan (2 * k)).dipChan (2 * k + 1)

/-- Inrush window in µs: 200 ms of a heater, 20 ms of a lamp (Table 13-2). -/
def windowUs (r : ChanRole) : Nat := if r = .heater then 200000 else 20000

/-- PUMP_RESTART (R403, R404): the restart instant, the pump having released. A heater or lamp in its window needs half
of it; in the lowest state it waits; a coil restarts whatever the lowest state. -/
def execPumpRestart (ch : Fin 6) (inWindow : Nat) (s : State) : Host.Outcome State Fault Refusal :=
  let i := ch.val
  let r := chanRole s.cfg i
  .next <|
    match (s.chan i).stage with
    | .dipped inrush =>
      let s := s.updOutputs fun o => { o with pumps := o.pumps.modify (i / 2) fun q => { q with under := false } }
      if !(s.chan i).command then s.updChan i fun c => { c with stage := .off }
      else if r = .coil then s.gateOn i 3
      else if s.supply.lowest then s.updChan i fun c => { c with stage := .held }
      else if inrush && inWindow < windowUs r && windowUs r < 2 * inWindow then s.fenceChan i 7
      else s.gateOn i 3
    | _ => s

/-- PUMP_RELEASE_TIMEOUT (R404): a pump not released 10 ms after a dip fences its channel. -/
def execPumpReleaseTimeout (ch : Fin 6) (s : State) : Host.Outcome State Fault Refusal :=
  let i := ch.val
  .next <|
    match (s.chan i).stage with
    | .dipped _ => s.fenceChan i 7
    | _ => s

/-- Every channel off by a rule, coils with their command withdrawn, heaters and lamps waiting (R380, R406). -/
def State.allChannelsOff (s : State) (rule : Nat) : State :=
  (List.range 6).foldl (fun t i =>
    if (t.chan i).stage = .off then t
    else if chanRole t.cfg i = .coil then t.commandOff i rule
    else t.ruleOff i rule .held) s

/-- VSW_LOW (R406, R444): every channel off, pumps stopped; on the Dealer an unsequenced opening. -/
def execVswLow (s : State) : Host.Outcome State Fault Refusal :=
  .next <|
    if !s.outputs.vswOk then s
    else
      let s := s.updOutputs fun o => { o with vswOk := false }
      if !s.running then s
      else
        let s := (s.allChannelsOff 4).settle.raise .out 9
        if s.isDealer then s.openPack 4 else s

/-- Heater and lamp channels that wait and are still commanded on start again with fresh windows, their pump 1 ms ahead
(R404, R406, R407). -/
def State.restartHeld (s : State) : State :=
  (List.range 6).foldl (fun t i =>
    if (t.chan i).stage = .held && (t.chan i).command && t.mayTurnOn i then t.updChan i fun c => { c with stage := .pumpWait }
    else t) s.settle

/-- VSW_RECOVERED (R406): 10 ms above 9.0 V. -/
def execVswRecovered (s : State) : Host.Outcome State Fault Refusal :=
  .next <| if s.outputs.vswOk then s else (s.updOutputs fun o => { o with vswOk := true }).restartHeld

/-- At the boundary at which the lowest state ends, what waited for it turns on (R397, R399, R404). -/
def State.restartAfterLowest (s : State) : State :=
  (List.range 6).foldl (fun t i =>
    if (t.chan i).command && ((t.chan i).stage = .held || (t.chan i).stage = .pumpWait) && t.gateAllowed i &&
        !(t.outputs.pumps.getD (i / 2) Pump.reset).under then t.gateOn i 0
    else t) s

/-! ### Lamps and heater -/

/-- Commands a channel on or withdraws its command. -/
def State.drive (s : State) (i : Nat) (on : Bool) : State :=
  if on then s.commandOn i else if (s.chan i).command then s.commandOff i 0 else s

/-- Some block status word of this device carries U or F class. -/
def State.deviceFault (s : State) : Bool := allBlocks.any fun b => 2 ≤ wordClass (statusOf s.faults b)

/-- Lamp commands (R387). -/
def State.lamps (s : State) : State :=
  let one := if s.isDealer then (s.chan 0).isOn && (s.chan 1).isOn else s.deviceFault
  let two := if s.isDealer then s.pins.faultN || s.pins.lockN
    else s.ring.dealing && !s.ring.bitSet || s.strapFault || s.straps.mismatch
  let s := if chanRole s.cfg 4 = .lamp then s.drive 4 one else s
  if chanRole s.cfg 5 = .lamp then s.drive 5 two else s

/-- The heating rule at a deal boundary (R446, R450). -/
def State.heating (s : State) : State :=
  if chanRole s.cfg 3 ≠ .heater then s
  else
    let on := heaterBelow (s.cfg.profile.getD 0) * 1024
    let want := match s.tMin, s.tMax with
      | some lo, some hi =>
        if on + 5 * 1024 ≤ lo ∨ 35 * 1024 ≤ hi then false else if lo < on ∧ hi < 30 * 1024 then true else s.outputs.heater
      | _, _ => s.outputs.heater
    let want := want && s.core && (!s.isDealer || s.supply.vaux)
    (s.updOutputs fun o => { o with heater := want }).drive 3 want

end Sys2Proof.Machine
end

