-- ==== Sys2Proof/Machine/FanDrive.lean ====
section
/-!
DEFINITION. The fan of a Dealer or String Head (chapter 13, sections 7 and 8): duty and its ramp, purges, tachometer.
-/
namespace Sys2Proof.Machine

/-- The device has a fan controller in operation: Dealer or String Head, core at work (Table 1-2, section 7). -/
def State.fanRuns (s : State) : Bool := s.running && !s.isHand && s.core && !s.bist.fenced.contains 22

/-- Sets the target of the ramp. A target already reached needs no ramp. -/
def fanTarget (d : Nat) (f : Fan) : Fan := { f with target := d }

/-- Duty of the thermal rule in steps of 1/480 (R447): 0 below 27 °C, 30 % to 100 % from 30 °C to 45 °C, its last state
between. -/
def thermalDuty (warm : Bool) (t : Int) : Nat :=
  if t < 27 * 1024 then 0
  else if t < 30 * 1024 then (if warm then 144 else 0)
  else if 45 * 1024 ≤ t then 480
  else (roundQ (144 + 336 * ((t : Rat) / 1024 - 30) / 15)).toNat

/-- The thermal rule's value in force; without an admitted temperature the target stands. -/
def State.thermalTarget (s : State) : Nat :=
  if s.outputs.heater then 0
  else match s.tMax with
    | none => s.fan.target
    | some t => thermalDuty s.fan.warm t

/-- C in amperes for this device's own rules: the Dealer's STR_CAP, which another device reads in the Dealer's entry of its
active seal (log 19). -/
def State.ownCap (s : State) : Option Rat :=
  if s.isDealer then s.capAh
  else (s.sealEntry 0).bind fun e =>
    let k := printLevel e.fingerprint 12
    if k = 31 then none else some ((capacities.getD k 0 : Rat) / 10)

/-- Own string current in A. -/
def State.ownAmps (s : State) : Option Rat :=
  if s.cfg.shunt = 0 || s.meas.curInvalid then none else some (ampsOf s.cfg.shunt (codeOf s.meas.current))

/-- Own string current above a fraction of C given in hundredths. -/
def State.ownAbove (s : State) (percent : Nat) : Bool :=
  match s.ownAmps, s.ownCap with
  | some i, some c => c * percent / 100 < absR i
  | _, _ => false

/-- A purge continues from step 4 (R412): the duty ramps to 0. A duty already 0 goes on to the change of direction, and a
fan that still blows forward has none to make. -/
def purgeBack (thermal : Nat) (f : Fan) : Fan :=
  if f.duty ≠ 0 then { f with purge := some .rampBack, target := 0 }
  else if f.reverse then { f with purge := some .forward, target := 0 }
  else { f with purge := none, target := thermal }

/-- Fan duty at a deal boundary (R447); during a purge the sequence rules, and a string current above 0.2 C aborts it
(R412). In the lowest state the fan holds (R105). -/
def State.fanBoundary (s : State) : State :=
  if !s.fanRuns || s.fan.frozen then s
  else
    let t := s.thermalTarget
    let abort := s.ownAbove 20
    s.updFan fun f =>
      let f := { f with warm := match s.tMax with
        | none => f.warm
        | some x => if x < 27 * 1024 then false else if 30 * 1024 ≤ x then true else f.warm }
      match f.purge with
      | none => { f with target := t }
      | some .rampBack => f
      | some .forward => f
      | some _ => if abort then purgeBack t f else f

/-- Entry into the lowest state: the fan holds its present duty and direction (R105, R412). A ramp under way has an unknown
instant, so the duty held is a free value between its ends. -/
def State.freezeFan (s : State) : State :=
  let ws := s.drawWord
  let lo := if s.fan.duty < s.fan.target then s.fan.duty else s.fan.target
  let span := (if s.fan.duty < s.fan.target then s.fan.target - s.fan.duty else s.fan.duty - s.fan.target) + 1
  let d := lo + ws.1.toNat % span
  if s.fan.duty = s.fan.target then s.updFan fun f => { f with frozen := true }
  else ws.2.updFan fun f => { f with frozen := true, duty := d, target := d }

/-- The lowest state ends: a frozen purge continues from step 4 and counts as done (R412). -/
def State.thawFan (s : State) : State :=
  let t := s.thermalTarget
  s.updFan fun f => match f.purge with
    | none => { f with frozen := false }
    | some _ => purgeBack t { f with frozen := false }

/-- A failed core on a device with a fan: forward at 100 % (R450). A reversed fan stops first. -/
def State.fanCoreLost (s : State) : State :=
  s.updFan fun f =>
    if s.isHand then f
    else if f.reverse then { f with purge := some .rampBack, target := 0, frozen := false }
    else { f with purge := none, target := 480, frozen := false }

/-- FAN_RAMP_END (R408, R412): the duty has reached its target; a purge takes its next step. -/
def execFanRampEnd (s : State) : Host.Outcome State Fault Refusal :=
  let t := if s.core then s.thermalTarget else 480
  .next <|
    if s.isHand || !s.running || s.fan.frozen || s.dev.fatal then s
    else s.updFan fun f =>
      let f := { f with duty := f.target, zeroAt := if f.target = 0 ∧ f.duty ≠ 0 then s.now else f.zeroAt }
      match f.purge with
      | some .rampDown => { f with purge := some .reverse }
      | some .rampUp => { f with purge := some .hold }
      | some .rampBack => if f.reverse then { f with purge := some .forward } else { f with purge := none, target := t }
      | _ => f

/-- R410 lets FAN_DIR change: duty 0, 1.5 s at 0 without an edge, or 5 s at 0 with the tachometer at fault. -/
def State.dirMayChange (s : State) : Bool :=
  s.fan.duty = 0 && s.fan.target = 0 && !s.fan.frozen &&
    if s.fan.tachFault then s.passed s.fan.zeroAt 5000
    else s.fan.stage = .standstill && s.passed s.fan.zeroAt 1500 && s.passed s.fan.edgeAt 1500

/-- FAN_DIR_CHANGE (R410, R412): the direction changes, and the purge goes on. -/
def execFanDirChange (s : State) : Host.Outcome State Fault Refusal :=
  let t := if s.core then s.thermalTarget else 480
  .next <|
    if s.isHand || !s.running || s.dev.fatal || !s.dirMayChange then s
    else s.updFan fun f => match f.purge with
      | some .reverse => { f with reverse := true, purge := some .rampUp, target := 480 }
      | some .forward => { f with reverse := false, purge := none, target := t }
      | _ => f

/-- PURGE_DUE (R411): a due purge stays pending; pending ones do not accumulate. -/
def execPurgeDue (s : State) : Host.Outcome State Fault Refusal :=
  .next <| if s.running && !s.isHand && s.cfg.purgeH ≠ 0 then s.updFan fun f => { f with due := true } else s

/-- PURGE_START (R411, R412): a pending purge starts, unless the lowest state defers it. -/
def execPurgeStart (s : State) : Host.Outcome State Fault Refusal :=
  .next <|
    if s.fanRuns && s.fan.due && s.fan.purge.isNone && !s.supply.lowest then
      s.updFan fun f =>
        { f with due := false, target := 0, purge := some (if f.duty = 0 then .reverse else .rampDown) }
    else s

/-- PURGE_HOLD_END (R412): the 30 s at 100 % end, and the duty ramps to 0. -/
def execPurgeHoldEnd (s : State) : Host.Outcome State Fault Refusal :=
  .next <| s.updFan fun f => if f.purge = some .hold ∧ !f.frozen then { f with purge := some .rampBack, target := 0 } else f

/-! ### Tachometer -/

/-- Place of the levels in the forward order 00, 01, 11, 10, written TACH_B TACH_A, since TACH_A leads in forward rotation
(R409, R413, log 20). -/
def quadrature (a b : Bool) : Nat := if b then (if a then 2 else 3) else (if a then 1 else 0)

/-- An edge in a direction at a time (R413, R414, R416). -/
def tachEdge (fwd : Bool) (t now : Nat) (f : Fan) : Fan :=
  let f := { f with edgeAt := now }
  match f.stage with
  | .standstill => { f with stage := .first, forward := fwd, times := [t] }
  | .first =>
    if fwd = f.forward then { f with stage := .running, times := t :: f.times.take 1 }
    else { f with stage := .settling, forward := fwd, times := [t] }
  | .running =>
    if fwd = f.forward then { f with times := t :: f.times.take 8 } else { f with stage := .settling, forward := fwd, times := [t] }
  | .settling =>
    if fwd = f.forward then { f with stage := .running, times := t :: f.times.take 1 }
    else { f with stage := .settling, forward := fwd, times := [t] }

/-- TACH_EDGE (R413, R416, R417): a change of one input is an edge, a change of both an invalid transition; the sixteenth of
these within 1 s is a tachometer fault. -/
def execTachEdge (a b : Bool) (t : Nat) (s : State) : Host.Outcome State Fault Refusal :=
  let old := quadrature s.fan.tachA s.fan.tachB
  let new := quadrature a b
  .next <|
    if s.isHand || !s.running then s.updFan fun f => { f with tachA := a, tachB := b }
    else
      let s := s.updFan fun f => { f with tachA := a, tachB := b }
      if new = (old + 1) % 4 then s.updFan (tachEdge true t s.now)
      else if old = (new + 1) % 4 then s.updFan (tachEdge false t s.now)
      else if new = old then s
      else
        let near := (s.fan.invalid.filter fun x => t < x + 1000000) ++ [t]
        let s := s.updFan fun f => { f with invalid := near }
        if 16 ≤ near.length && !s.fan.tachFault then (s.updFan fun f => { f with tachFault := true }).raise .fan 0 else s

/-- TACH_FAULT_CLEAR (R417): 10 s without an invalid transition. -/
def execTachFaultClear (s : State) : Host.Outcome State Fault Refusal :=
  .next <| s.updFan fun f => { f with tachFault := false, invalid := [] }

/-- STANDSTILL (R414): 1.5 s without an edge. -/
def execStandstill (s : State) : Host.Outcome State Fault Refusal :=
  .next <| s.updFan fun f => { f with stage := .standstill, times := [] }

/-- FAN_STALL (R417): 30 % or more for 5 s with no edge; the report stands until reset. -/
def execFanStall (s : State) : Host.Outcome State Fault Refusal :=
  .next <|
    if s.isHand || !s.running || s.fan.stall || s.fan.duty < 144 then s
    else (s.updFan fun f => { f with stall := true }).raise .fan 1

/-- Speed of the last edges in rpm (R413): 60 × (m − 1) / (8 × (t_m − t_1)), rounded, saturating. -/
def speedOf (times : List Nat) : Int :=
  match times, times.getLast? with
  | t :: _, some u => if t ≤ u then 32767 else clampI 0 32767 (roundNearest (60000000 * ((times.length : Rat) - 1) / (8 * ((t : Rat) - u))))
  | _, _ => 0

/-- Bound on the magnitude between edges: 60 / (8 × te) (R415). -/
def speedBound (ticks : Nat) : Int := if ticks = 0 then 32767 else clampI 0 32767 (roundNearest (60 * 32768 / (8 * (ticks : Rat))))

/-- Signed speed and validity at meld assembly (R413 to R417). -/
def State.fanSpeed (s : State) : Int × Nat :=
  let f := s.fan
  if f.stall then (0, 3)
  else
    let base : Int × Nat := match f.stage with
      | .standstill => (0, 0)
      | .first => (0, 2)
      | .settling => (0, 1)
      | .running =>
        let v := speedOf f.times
        let b := speedBound (s.now - f.edgeAt)
        let m := if b < v then b else v
        (if f.forward then m else -m, 0)
    (base.1, if f.tachFault then 3 else base.2)

/-- The FAN word of Table 9-12. -/
def State.fanWord (s : State) : Word := word (s.fanSpeed.2 * 2 ^ 16 + (s.fanSpeed.1 % 65536).toNat)

end Sys2Proof.Machine
end

