-- ==== Sys2Proof/Machine/Logs.lean ====
section
/-!
DEFINITION. The event log in flash, the shock log, and the records the Raivo core writes at fixed times
(18_management_and_service.md, sections 2 to 4).
-/
namespace Sys2Proof.Machine

/-! ### Records in flash -/

/-- A payload filled with zero bytes to 8. -/
def pad8 (bs : List Byte) : List Byte := (bs ++ List.replicate 8 0).take 8

/-- The 16 bytes of a record (Table 18-2). -/
def recordBytes (seq : BitVec 16) (r : LogRecord) : List Byte :=
  let body := bytesBE 2 seq.toNat ++ bytesBE 4 r.seconds.toNat ++ [r.rtype] ++ pad8 r.payload
  body ++ [crc8 body]

/-- A slot's bytes hold a present record (R532). -/
def recordPresent (bs : List Byte) : Bool := bs.getD 6 0xFF != 0xFF && bs.getD 15 0 == crc8 (bs.take 15)

/-- SEQ of a record. -/
def seqOf (bs : List Byte) : BitVec 16 := BitVec.ofNat 16 (ofBytesBE (bs.take 2))

/-- The log region ends here. -/
def logEnd : Nat := logBase + 48 * 4096

/-- Addresses of the log slots whose TYPE is programmed, ascending. -/
def typedSlots (m : List Host.Cell) : List Nat :=
  m.filterMap fun c => if logBase ≤ c.1 ∧ c.1 < logEnd ∧ c.1 % 16 = 6 then some (c.1 - 6) else none

/-- Whether both flash words of a slot read without an uncorrectable error (R532). -/
def State.slotReads (s : State) (a : Nat) : Bool := !(s.nv.badWords.contains (a / 8)) && !(s.nv.badWords.contains (a / 8 + 1))

/-- Present records with their addresses, ascending. -/
def State.presentRecords (s : State) : List (Nat × List Byte) :=
  ((typedSlots s.flash).map fun a => (a, Memory.bytes s.flash a 16)).filter fun r => recordPresent r.2 && s.slotReads r.1

/-- Whether SEQ `a` is the later of two (R533). -/
def seqLater (a b : BitVec 16) : Bool := 1 ≤ (a - b).toNat && (a - b).toNat ≤ 32767

/-- The latest present record. -/
def latestRecord : List (Nat × List Byte) → Option (Nat × List Byte)
  | [] => none
  | r :: rs =>
    match latestRecord rs with
    | none => some r
    | some x => if seqLater (seqOf r.2) (seqOf x.2) then some r else some x

/-- Present records, oldest first: from the sector after the write sector on, cyclically (R535). -/
def State.records (s : State) : List (List Byte) :=
  let rs := s.presentRecords
  let top := logSlot s.keeper.sector 0 + 4096
  ((rs.filter fun r => top ≤ r.1) ++ rs.filter fun r => r.1 < top).map (·.2)

/-- A slot is erased. -/
def slotErased (m : List Host.Cell) (a : Nat) : Bool := (Memory.bytes m a 16).all (· == 0xFF)

/-- The write slot. -/
def State.writeSlot (s : State) : Nat := logSlot s.keeper.sector s.keeper.index

/-- The write position after the slot just used; a full sector passes to the next one (R535). -/
def nextSlot (k : Keeper) : Keeper :=
  if k.index + 1 < 256 then { k with index := k.index + 1 } else { k with index := 0, sector := (k.sector + 1) % 48 }

/-- Moves the write position on; the erase of the sector after a newly entered one becomes due (R535). -/
def State.advanceSlot (s : State) : State :=
  (s.updLogs fun l => { l with eraseDue := l.eraseDue || !(decide (s.keeper.index + 1 < 256)) }).updKeeper nextSlot

/-- Programs a record into the write slot, bytes 8 to 15 before bytes 0 to 7 (R534); SEQ advances (R533). -/
def State.putRecord (s : State) (r : LogRecord) : State :=
  let a := s.writeSlot
  let bs := recordBytes s.keeper.seq r
  let s := { s with flash := Memory.program (Memory.program s.flash (a + 8) (bs.drop 8)) a (bs.take 8) }
  (s.updKeeper fun k => { k with seq := k.seq + 1 }).advanceSlot

/-- Free bytes (log 5). -/
def freeBytes (from_ n : Nat) : List Byte := (List.range n).map fun i => (Config.freeWord (from_ + i)).setWidth 8

/-- A slot whose first word failed its verification: that word holds what nobody states, the record is lost (R537). -/
def State.spoilSlot (s : State) : State :=
  let s' := { s with flash := Memory.program s.flash (s.writeSlot + 8) (freeBytes s.dev.freeCtr 8) }
  (s'.updDev fun d => { d with freeCtr := d.freeCtr + 8 }).advanceSlot

/-- Takes the head of the queue and, as there is room again, adds the LOSS record of the records dropped (R537). -/
def State.popRecord (s : State) : State :=
  let s := s.updLogs fun l => { l with queue := l.queue.drop 1 }
  if s.logs.lost = 0 then s
  else (s.updLogs fun l => { l with lost := 0 }).pushLog 0x15 (bytesBE 2 (sat 0xFFFF s.logs.lost))

/-- The core can write flash: started and not fenced, in RUN; a core that the fatal state halts first writes what it
holds (Table 16-8). -/
def State.flashCore (s : State) : Bool := s.running && s.dev.coreStarted && !s.dev.coreFenced

/-- LOG_WRITE (R534, R537): the oldest waiting record goes to the write slot. Only an erased slot is written. -/
def execLogWrite (verified : Bool) (s : State) : Host.Outcome State Fault Refusal :=
  .next <|
    match s.logs.queue with
    | [] => s
    | r :: _ =>
      if s.flashCore && slotErased s.flash s.writeSlot then
        if verified then s.popRecord.putRecord r else s.popRecord.spoilSlot.raise .raivo 5
      else s

/-- Address of the sector after the write sector, the spare. -/
def State.spare (s : State) : Nat := logSlot (s.keeper.sector + 1) 0

/-- Erases the spare sector (R535). -/
def State.eraseSpare (s : State) : State :=
  let s' := { s with flash := Memory.erase s.flash s.spare 4096 }
  (s'.updLogs fun l => { l with eraseDue := false }).updNv fun n =>
    { n with badWords := n.badWords.filter fun w => w < s.spare / 8 || s.spare / 8 + 512 ≤ w }

/-- SECTOR_ERASE (R535): the sector after the one just entered is erased. A failed erase raises RAIVO bit 5, leaves
contents that nobody states, and stays due. -/
def execSectorErase (verified : Bool) (s : State) : Host.Outcome State Fault Refusal :=
  .next <|
    if !(s.flashCore && s.logs.eraseDue) then s
    else if verified then s.eraseSpare
    else
      let s' := { s with flash := Memory.program s.flash s.spare (freeBytes s.dev.freeCtr 4096) }
      (s'.updDev fun d => { d with freeCtr := d.freeCtr + 4096 }).raise .raivo 5

/-- Writes every waiting record at once, with the erases that fall due, as STORAGE entry does (R112, R545). -/
def State.flushLog : Nat → State → State
  | 0, s => s
  | n + 1, s =>
    match s.logs.queue with
    | [] => s
    | r :: _ =>
      let s := s.popRecord.putRecord r
      State.flushLog n (if s.logs.eraseDue then s.eraseSpare else s)

/-- Skips torn slots at the write position, counting them (R536). -/
def State.skipTorn : Nat → State → State
  | 0, s => s
  | n + 1, s =>
    let bs := Memory.bytes s.flash s.writeSlot 16
    if bs.all (· == 0xFF) || recordPresent bs && s.slotReads s.writeSlot then s
    else State.skipTorn n ((s.updLogs fun l => { l with torn := l.torn + 1 }).updKeeper nextSlot)

/-- The write position at boot (R536): the keeper's pointers, or a scan where they were lost; torn slots are skipped and
a spare that is not erased is erased before the first write. -/
def State.bootLog (s : State) : State :=
  let s := s.updKeeper fun k =>
    if k.pointersLost then
      match latestRecord s.presentRecords with
      | none => { k with sector := 0, index := 0, seq := 0, pointersLost := false }
      | some r =>
        nextSlot { k with sector := (r.1 - logBase) / 4096, index := (r.1 - logBase) % 4096 / 16, seq := seqOf r.2 + 1,
                          pointersLost := false }
    else k
  (s.skipTorn 256).eraseSpare

/-! ### Records at fixed times -/

/-- The sources with a non-zero count, as block, bit and count (R480). -/
def State.countEntries (s : State) : List (List Byte) :=
  allBlocks.flatMap fun b =>
    (List.range 16).filterMap fun i =>
      let n := (faultOf s.faults b).counts.getD i 0
      if n = 0 then none else some ([BitVec.ofNat 8 (summaryBit b), BitVec.ofNat 8 i] ++ bytesBE 2 n)

/-- Two entries a record; a missing second one is 0xFF, 0xFF (Table 18-3). -/
def pairEntries : List (List Byte) → List (List Byte)
  | [] => []
  | [a] => [a ++ [0xFF, 0xFF]]
  | a :: b :: rest => (a ++ b) :: pairEntries rest

/-- COUNTS records. -/
def State.logCounts (s : State) : State := (pairEntries s.countEntries).foldl (fun t p => t.log 0x06 p) s

/-- ENERGY record (R94): the counter written is what it resumes from after a loss of KPR. -/
def State.logEnergy (s : State) : State :=
  if !s.core then s
  else
    let joules := sat 0xFFFF (roundQ ((s.balance.jobEnergy : Rat) / 1000)).toNat
    let s := s.log 0x09 (bytesBE 4 s.keeper.energy.toNat ++ bytesBE 2 (sat 0xFFFF s.balance.jobsLogged) ++ bytesBE 2 joules)
    (s.updNv fun n => { n with energy := s.keeper.energy }).updBalance fun b => { b with jobsLogged := 0, jobEnergy := 0 }

/-- The demand flag and the powered time go to flash (R509). -/
def State.saveDemand (s : State) : State :=
  s.updNv fun n => { n with demand := s.keeper.demand, powered := s.keeper.powered }

/-- ENERGY_RECORD (R94, R509): at least hourly. -/
def execEnergyRecord (s : State) : Host.Outcome State Fault Refusal :=
  .next <| if s.running && s.core then s.logEnergy.saveDemand else s

/-- COUNTS_RECORD (R480): hourly. -/
def execCountsRecord (s : State) : Host.Outcome State Fault Refusal := .next <| if s.running then s.logCounts else s

/-- A PACK TOTALS record of one string and direction (Table 18-3): whole Ah and units of 0.01 kWh. -/
def State.logTotal (s : State) (k : Nat) (discharge : Bool) : State :=
  let v := s.str k
  let q := if discharge then v.disQ else v.chgQ
  let e := if discharge then v.disE else v.chgE
  s.log 0x0A ([BitVec.ofNat 8 (k + if discharge then 128 else 0)] ++ bytesBE 3 (q / 3600).floor.toNat ++
    bytesBE 4 (e / 36000).floor.toNat)

/-- PACK TOTALS records of the Dealer (R448, R538). -/
def State.logTotals (s : State) : State :=
  if s.isDealer then s.stringList.foldl (fun t k => (t.logTotal k false).logTotal k true) s else s

/-- PACK_TOTALS: every 24 h of RUN. -/
def execPackTotals (s : State) : Host.Outcome State Fault Refusal := .next <| if s.running then s.logTotals else s

/-- Writes the older of the two service state records (R420). -/
def State.saveServices (s : State) : State :=
  if s.isDealer && s.core then
    let n := s.services.recordNo + 1
    let r : ServiceRecord :=
      { strings := s.services.strings, sohC := s.services.sohC, jobTotal := s.services.jobTotal, time := s.now, number := n }
    (s.updServices fun v => { v with recordNo := n }).updNv fun x =>
      if n % 2 = 1 then { x with recordA := some r } else { x with recordB := some r }
  else s

/-- SERVICE_STATE_RECORD (R420): every 60 s of RUN. -/
def execServiceStateRecord (s : State) : Host.Outcome State Fault Refusal := .next <| if s.running then s.saveServices else s

/-! ### Shock log -/

/-- SHOCK_EVENT_OPEN (R540): the accelerometer runs in RUN and SLEEP. -/
def execShockEventOpen (s : State) : Host.Outcome State Fault Refusal :=
  .next <| s.updLogs fun l => { l with shockOpen := l.shockOpen || (s.running && !s.bist.fenced.contains 10) }

/-- The axis of the largest magnitude, the first of equals. -/
def peakAxis (ps : List Nat) : Nat := ps.findIdx (· == ps.foldl max 0)

/-- The class of an event (R541). -/
def shockClass (ps : List Nat) (saturated : Bool) : Nat := if saturated then 3 else if ps.any (10000 ≤ ·) then 2 else 1

/-- The duration bin of R542: below 6 ms, 18 ms, 30 ms, and 30 ms or more. -/
def durationBin (d : Nat) : Nat := if d < 12 then 0 else if d < 36 then 1 else if d < 60 then 2 else 3

/-- Enters an event into the summary (R542). -/
def summarise (ps : List Nat) (d : Nat) (l : Logs) : Logs :=
  { l with
    peaks := l.peaks.zipWith max ps
    events3 := l.events3.zipWith (fun n p => if 3000 ≤ p then n + 1 else n) ps
    events10 := l.events10.zipWith (fun n p => if 10000 ≤ p then n + 1 else n) ps
    byTime := l.byTime.modify (durationBin d) (· + 1) }

/-- SHOCK_EVENT_CLOSE (R540, R541): at most 16 records in any hour; further events enter the summary only. -/
def execShockEventClose (peakX peakY peakZ : Int) (duration : Nat) (saturated : Bool) (s : State) :
    Host.Outcome State Fault Refusal :=
  .next <|
    if !(s.running && s.core && s.logs.shockOpen) then s
    else
      let ps := [peakX.natAbs, peakY.natAbs, peakZ.natAbs]
      let recent := s.logs.shocks.filter fun t => !s.passed t 3600000
      let s := s.updLogs fun l => { summarise ps duration l with shockOpen := false, shocks := recent }
      if recent.length < 16 then
        (s.log 0x11 ([BitVec.ofNat 8 (shockClass ps saturated + 16 * peakAxis ps)] ++ bytesBE 2 (signed16 peakX) ++
          bytesBE 2 (signed16 peakY) ++ bytesBE 2 (signed16 peakZ) ++ [BitVec.ofNat 8 (sat 255 duration)])).updLogs
          fun l => { l with shocks := l.shocks ++ [s.now] }
      else s

/-- The four SHOCK SUMMARY records of the period since the last summary (R542), from the rms values of X, Y and Z. -/
def State.logSummary (s : State) (rms : List Nat) : State :=
  let l := s.logs
  let s := (List.range 3).foldl (fun t i =>
    t.log 0x12 ([BitVec.ofNat 8 i] ++ bytesBE 2 (sat 0xFFFF (rms.getD i 0)) ++ bytesBE 2 (sat 0xFFFF (l.peaks.getD i 0)) ++
      [BitVec.ofNat 8 (sat 255 (l.events3.getD i 0)), BitVec.ofNat 8 (sat 255 (l.events10.getD i 0))])) s
  let d (i : Nat) : List Byte := bytesBE 2 (sat 0xFFFF (l.byTime.getD i 0))
  let s := s.log 0x12 ([3] ++ d 0 ++ d 1 ++ d 2 ++ [BitVec.ofNat 8 (sat 255 (l.byTime.getD 3 0))])
  if s.core then
    s.updLogs fun l => { l with peaks := List.replicate 3 0, events3 := List.replicate 3 0,
                                events10 := List.replicate 3 0, byTime := List.replicate 4 0 }
  else s

/-- SHOCK_SUMMARY (R542): every 24 h of RUN. -/
def execShockSummary (rmsX rmsY rmsZ : Nat) (s : State) : Host.Outcome State Fault Refusal :=
  .next <| if s.running then s.logSummary [rmsX, rmsY, rmsZ] else s

/-! ### Trace flush (R545) -/

/-- A trace entry as a log record: the microseconds, then the data. -/
def traceRecord (e : TraceEntry) : LogRecord :=
  { rtype := e.ttype, seconds := e.seconds, payload := bytesBE 3 e.micros ++ e.data }

/-- Copies the newest unflushed entries, up to 256, oldest first, into the log, each with a new SEQ and CHECK. -/
def State.flushTrace (s : State) : State :=
  let n := if s.logs.unflushed < 256 then s.logs.unflushed else 256
  let es := s.logs.trace.drop (s.logs.trace.length - n)
  let s := s.updLogs fun l => { l with unflushed := 0 }
  es.foldl (fun u e => (u.updLogs fun l => { l with queue := [traceRecord e] }).flushLog 2) s

end Sys2Proof.Machine
end

