-- ==== Sys2Proof/Machine/Bist.lean ====
section
/-!
DEFINITION. Self-test (chapter 19): the memory test at boot, the rolling slices, and the off-line field self-test.
-/
namespace Sys2Proof.Machine

/-! ### Slices -/

/-- Segments per slice (Table 19-1). -/
def sliceSegments (k : Nat) : Nat :=
  [40, 40, 40, 48, 48, 64, 48, 32, 32, 24, 160, 160].getD (k - 1)
    ([96, 96, 24, 24, 64, 32, 32, 32, 32, 24, 480, 96].getD (k - 13) 0)

/-- Whether a slice has a block powered for the role and straps (R571, Table 1-5). -/
def slicePowered (c : InForce) (k : Nat) : Bool :=
  match k with
  | 2 => 7 ≤ c.cells
  | 3 => 13 ≤ c.cells
  | 5 => 10 ≤ c.cells
  | 7 => c.shunt != 0
  | 8 => c.ntcCount != 0
  | 9 => c.probeWire
  | 13 => c.genN ≠ .none
  | 14 => c.genS ≠ .none
  | 15 => c.passive
  | 16 => c.passive && 10 ≤ c.cells
  | 17 => c.active
  | 18 => c.active
  | 19 => chanRole c 0 ≠ .none || chanRole c 1 ≠ .none
  | 20 => chanRole c 2 ≠ .none || chanRole c 3 ≠ .none
  | 21 => chanRole c 4 ≠ .none || chanRole c 5 ≠ .none
  | 22 => c.role ≠ .hand
  | 24 => c.canMode.isSome || c.rsRate.isSome
  | _ => true

/-- Whether the block of a slice is fenced, by the slice or for another cause (R580). -/
def State.sliceFenced (s : State) (k : Nat) : Bool :=
  s.bist.fenced.contains k ||
    match k with
    | 13 => s.portN.fenced
    | 14 => s.portS.fenced
    | 15 => s.balance.fenceA
    | 16 => s.balance.fenceB
    | 17 => s.balance.acvFenced
    | 18 => s.balance.acvFenced
    | 19 => (s.chan 0).fenced && (s.chan 1).fenced
    | 20 => (s.chan 2).fenced && (s.chan 3).fenced
    | 21 => (s.chan 4).fenced && (s.chan 5).fenced
    | 23 => s.dev.coreFenced
    | _ => false

/-- A slice takes its turn. -/
def State.sliceRuns (s : State) (k : Nat) : Bool := slicePowered s.cfg k && !s.sliceFenced k

/-- Whether a mismatch of the slice is of class F (Table 19-1). -/
def State.sliceFatal (s : State) (k : Nat) : Bool :=
  match k with
  | 19 => !s.isHand
  | 20 => s.isDealer
  | _ => [1, 2, 3, 4, 5, 6, 8, 9, 11, 12, 13, 14].contains k

/-- The first slice from `k` on that runs; none left in this rotation answers 0. -/
def State.sliceFrom (s : State) (k : Nat) : Nat := ((List.range 24).map (· + 1)).find? (fun j => k ≤ j && s.sliceRuns j) |>.getD 0

/-- R565: the PLL reports lock, SAFE lies within ±1 % and V3D inside its window. -/
def State.r565 (s : State) : Bool := s.clocks.locked && s.clocks.safeOk && s.clocks.v3dOk

/-- The deal a segment starting now belongs to: that of the open aperture, else the current one (R570). -/
def State.bistDeal (s : State) : Word := if s.meas.aperture then s.meas.deal else s.dealNo

/-- The position a device's test deals follow (R180). -/
def State.testPosition (s : State) : Nat := (s.position.getD 0).toNat

/-- Deal `d` carries the device's open sense-wire test or its repeat (R180, R182, R183). -/
def State.wireTestDeal (s : State) (d : Word) : Bool :=
  d.toNat % 16 = s.testPosition % 16 || s.meas.testRepeat || s.meas.testDeal

/-- Rolling slices run in FIELD only (R587), in every deal the device samples, never in the fatal state (R580). -/
def State.rolling (s : State) : Bool := s.deals && s.nv.lifeCycle = .field && !s.dev.fatal && !s.dev.offTest

/-- Starts or continues the rotation with the slice whose turn it is (R571, R581). -/
def State.takeTurn (s : State) : State :=
  s.updBist fun b =>
    let k := s.sliceFrom b.slice
    let j := if k = 0 then s.sliceFrom 1 else k
    { b with slice := j, done := if j = b.slice then b.done else 0, again := b.again && j = b.slice,
             started := if k = 0 then some s.now else some (b.started.getD s.now),
             overdue := b.overdue && k ≠ 0 }

/-- A bank's switches (slices 15 and 16) open for the segment. -/
def openBank (lo hi : Nat) (b : Balance) : Balance :=
  { b with closed := b.closed.mapIdx fun i c => c && !(lo ≤ i && i < hi) }

/-- What a starting segment does to its block (Table 19-1). -/
def State.segmentEffect (s : State) : State :=
  s.updBalance fun b =>
    match s.bist.slice with
    | 15 => openBank 0 9 b
    | 16 => openBank 9 18 b
    | 17 => { gatesOff b with soft := 0 }
    | _ => b

/-- What the block takes back when its segment ends: the switches of running jobs close again (chapter 19, section 3.1). -/
def State.segmentRestore (s : State) : State :=
  let back (lo hi : Nat) (b : Balance) : Balance :=
    { b with closed := b.closed.mapIdx fun i c =>
        c || (lo ≤ i && i < hi && b.jobs.any (fun j => j.cell = i && j.unit ≠ .active) && !(b.tripped.getD i false) &&
          !(b.fenced.getD i false) && !s.meas.pause) }
  s.updBalance fun b =>
    match s.bist.slice with
    | 15 => back 0 9 b
    | 16 => back 9 18 b
    | _ => b

/-- R575: a device holding a TRUMP in a port's queue or retransmit buffer starts no port segment. -/
def State.trumpHeld (s : State) : Bool :=
  [s.portN, s.portS].any fun q => !q.trumpQ.isEmpty || q.unacked.any fun u => u.frame.ftype = .trump

/-- The window of the slice is open: window A opens with the aperture, T follows it (R570). -/
def State.windowOpen (s : State) : Bool :=
  if s.bist.slice ≤ 5 then s.meas.aperture else if s.bist.slice = 6 then !s.meas.aperture else true

/-- BIST_SEGMENT (R569 to R578): the window of the slice whose turn it is opens. A deal takes at most one segment, a rest
deal and a deal of R572 none; R565, the lowest state and R575 suppress it. -/
def execBistSegment (s : State) : Host.Outcome State Fault Refusal :=
  .next <|
    if !s.rolling || s.bist.running then s
    else
      let s := s.takeTurn
      let d := s.bistDeal
      if s.bist.lastDeal = some d then s
      else if s.bist.restDeal = some d then s.updBist fun b => { b with restDeal := none, lastDeal := some d }
      else if 4 ≤ s.bist.slice && s.bist.slice ≤ 6 && s.wireTestDeal d then s
      else if !s.r565 || s.supply.lowest || (s.bist.slice = 13 || s.bist.slice = 14) && s.trumpHeld || !s.windowOpen then s
      else
        (s.updBist fun b =>
          { b with running := true, lastDeal := some d, taken := if b.slice ≤ 5 then b.slice else b.taken,
                   restDeal := if b.slice ≤ 5 then some (d + 1) else b.restDeal }).segmentEffect

/-- R579: a segment abandoned raises BIST bit 1; its slice restarts from its first segment. -/
def State.abandonSegment (s : State) : State :=
  if s.bist.running then
    ((s.segmentRestore).updBist fun b => { b with running := false, done := 0 }).raise .bist 1
  else s

/-- The pair of channels of slices 19 to 21. -/
def slicePair (k : Nat) : List Nat := [2 * (k - 19), 2 * (k - 19) + 1]

/-- A Raivo core that stops for good: on the Dealer the supervisor holds the pack state as R449 gives; the heater goes
off and the fan follows R450. -/
def State.coreGone (s : State) : State :=
  let s := s.updDev fun d => { d with coreFenced := true }
  let s := if s.isDealer then s.coreLost else s
  ((s.commandOff 3 1).updOutputs fun o => { o with heater := false }).fanCoreLost

/-- Fences the block of a slice (R580). -/
def State.fenceSlice (s : State) (k : Nat) : State :=
  let s := s.updBist fun b => { b with fenced := b.fenced ++ [k] }
  match k with
  | 15 => (s.updBalance fun b => { b with fenceA := true }).endJobs fun j => j.unit = .pbA
  | 16 => (s.updBalance fun b => { b with fenceB := true }).endJobs fun j => j.unit = .pbB
  | 17 => (s.updBalance fun b => { gatesOff b with acvFenced := true }).endJobs fun j => j.unit = .active
  | 18 => (s.updBalance fun b => { gatesOff b with acvFenced := true }).endJobs fun j => j.unit = .active
  | 19 => (slicePair 19).foldl (fun t i => t.fenceChan i (10 + i)) s
  | 20 => (slicePair 20).foldl (fun t i => t.fenceChan i (10 + i)) s
  | 21 => (slicePair 21).foldl (fun t i => t.fenceChan i (10 + i)) s
  | 22 => s.updFan fun f => { f with duty := 0, target := 0, purge := none }
  | 23 => s.coreGone
  | 24 => s.updVehicle fun v => { v with canOut := v.canOut.halt, rsOut := v.rsOut.halt }
  | _ => s

/-- A slice ended with every MISR matching: the next one takes its turn; the last ends the rotation (R571, R581). -/
def State.sliceDone (s : State) : State :=
  s.updBist fun b =>
    let k := s.sliceFrom (b.slice + 1)
    if b.slice + 1 ≤ 24 ∧ k ≠ 0 then { b with slice := k, done := 0, again := false }
    else { b with slice := 1, done := 0, again := false, started := none, overdue := false }

/-- BIST_SEGMENT_END (R580): the segment is done. At the end of a slice the MISRs are compared: a first mismatch is an
abandonment and the slice is repeated; a second one fences the block or enters the fatal state. -/
def execBistSegmentEnd (misrMatches : Bool) (s : State) : Host.Outcome State Fault Refusal :=
  .next <|
    if !s.bist.running then s
    else
      let k := s.bist.slice
      let s := s.segmentRestore.updBist fun b => { b with running := false, done := b.done + 1 }
      if s.bist.done < sliceSegments k then s
      else if misrMatches then s.sliceDone
      else if !s.bist.again then (s.updBist fun b => { b with done := 0, again := true }).raise .bist 1
      else if s.sliceFatal k then (s.raise .bist 7).bistFalls
      else (((s.raise .bist 4).bistFalls).fenceSlice k).sliceDone

/-- ROTATION_OVERDUE (R581): 600 s after the rotation started it has not completed; reported once a rotation. -/
def execRotationOverdue (s : State) : Host.Outcome State Fault Refusal :=
  .next <|
    if s.running && s.bist.started.isSome && !s.bist.overdue && !s.dev.fatal then
      ((s.updBist fun b => { b with overdue := true }).raise .bist 5).bistFalls
    else s

/-! ### Memory test at boot -/

/-- Spare rows of a bank left by the repair fuses (R567). -/
def State.spares (s : State) (bank : Nat) : Nat := 2 - s.nv.repairs.getD bank 0

/-- One bank's result (R567, Table 16-7). -/
def State.bankResult (s : State) (bank rows : Nat) : State :=
  if rows = 0 then s
  else if rows ≤ s.spares bank then s.raise .bist 0
  else
    (s.updDev fun d => if bank = 7 then { d with traceOff := true } else { d with coreBarred := true }).raise .bist 3

/-- A port whose buffer has a failing word holds its link down until reset (R568). -/
def State.bufferResult (s : State) (p : Port) (fails : Bool) : State :=
  if fails then (s.updPort p fun q => { q with heldDown := true, up := false }).raise .bist 3 else s

/-- MEMORY_BIST (R566 to R568): the boot test, once the straps are latched and before the core starts. -/
def execMemoryBist (failRows : List Nat) (portNFails portSFails : Bool) (s : State) : Host.Outcome State Fault Refusal :=
  .next <|
    if s.dev.phase = .boot && s.dev.strapped then
      ((((List.range 8).foldl (fun t b => t.bankResult b (failRows.getD b 0)) s).bufferResult .n portNFails).bufferResult .s
        portSFails).bistFalls
    else s

/-! ### Off-line field self-test -/

/-- BIST_REQ_PRESS (R582): a rising edge seen in RUN or SLEEP. -/
def execBistReqPress (s : State) : Host.Outcome State Fault Refusal :=
  .next <| s.updBist fun b => { b with pressed := b.pressed || (s.running && !s.dev.offTest) }

/-- No beacon has been accepted for 3 deal periods, or none since boot (R583). -/
def State.ringQuiet (s : State) : Bool := !s.ring.dealing || s.passed s.ring.beaconAt (3 * s.period)

/-- The role condition of R583. -/
def State.testAllowed (s : State) : Bool :=
  match s.cfg.role with
  | .dealer => s.services.pack = .opened && s.services.strings.all (fun v => v.cmd = .open) && !(List.range 3).any (fun i => (s.chan i).isOn)
  | .stringHead => !(List.range 2).any (fun i => (s.chan i).isOn) && s.ringQuiet
  | .hand => s.ringQuiet

/-- TEST and RETURN (R588, R589). -/
def State.fullTests (s : State) : Bool := s.nv.lifeCycle = .test || s.nv.lifeCycle = .returned

/-- A test under way ends in the reset of R584, without a result (R586). -/
def State.abandonTest (s : State) : State :=
  (s.updKeeper fun k => { k with testAbandoned := true }).resetDomains causeRstn false

/-- An accepted test begins (Table 19-2): BIST_OK low, loads and balancing off, nothing relayed, no beacons, ROOT on the
internal oscillator, to which the PLL then reports lock. -/
def State.beginTest (s : State) (full : Bool) : State :=
  let s := s.abandonSegment
  let s := (List.range 6).foldl (fun t i => t.commandOff i 1) s
  let s := (s.endJobs fun _ => true).updBalance fun b => { gatesOff b with closed := List.replicate 18 false, stage := .unselected }
  let s := s.updDev fun d => { d with offTest := true }
  let s := s.updBist fun b => { b with full := full }
  let s := s.updPins fun p => { p with bistOk := false, ready := false }
  let s := s.updDealer fun d => { d with stopped := true }
  let s := s.updClocks fun c => { c with clkin := false, locked := true, holding := false }
  if s.r565 then s else s.abandonTest

/-- BIST_REQ_RELEASE (R582, R583, R588): a request of 10 ms to 2 s. In TEST and RETURN with TMODE high the full test runs
without a role condition. -/
def execBistReqRelease (highMs : Nat) (tmode : Bool) (s : State) : Host.Outcome State Fault Refusal :=
  .next <|
    let was := s.bist.pressed
    let s := s.updBist fun b => { b with pressed := false }
    if !(was && s.running && !s.dev.offTest && !s.dev.fatal && 10 ≤ highMs && highMs ≤ 2000) then s
    else if s.fullTests && tmode then s.beginTest true
    else if s.nv.lifeCycle = .field && s.testAllowed then s.beginTest false
    else s.raise .bist 2

/-- The result word of R589. -/
def resultWord (pass : Bool) (slice : Nat) : BitVec 32 :=
  BitVec.ofNat 32 ((if pass then 2 ^ 31 else 0) + slice % 128 * 2 ^ 24)

/-- Spare rows in use per bank after the test. -/
def State.sparesUsed (s : State) (failRows : List Nat) : List Nat :=
  (List.range 8).map fun b => s.nv.repairs.getD b 0 + sat (s.spares b) (failRows.getD b 0)

/-- OFFLINE_TEST_END (R584, R585, R588, R589): the result is held in KPR and written to the result block; the full test
blows repair fuses; the device resets through the RESET_N path. -/
def execOfflineTestEnd (firstSlice : Nat) (signatures : List (BitVec 32)) (failRows : List Nat) (s : State) :
    Host.Outcome State Fault Refusal :=
  .next <|
    if !s.dev.offTest then s
    else if !s.r565 then s.abandonTest
    else
      let bad := (List.range 8).find? fun b => s.spares b < failRows.getD b 0
      let used := s.sparesUsed failRows
      let res : TestResult := if firstSlice ≠ 0 then .fail firstSlice else match bad with
        | some b => .fail b
        | none => .pass
      let block := resultWord (decide (res = .pass)) firstSlice :: signatures ++ used.map (BitVec.ofNat 32)
      let s := s.updNv fun n => { n with resultBlock := block, repairs := if s.bist.full then used else n.repairs }
      (s.updKeeper fun k => { k with testResult := some res }).resetDomains causeRstn false

/-- Bit `i` of the result block, MSB first (R589). -/
def blockBit (ws : List (BitVec 32)) (i : Nat) : Bool := (ws.getD (i / 32) 0).getMsbD (i % 32)

/-- TCK_RISING_EDGE (R589): in TEST and RETURN with TMODE high, after a test, the next bit of the result block leaves on
TDO; past its end TDO shows what nobody states. In FIELD the test port is disconnected (R49). -/
def execTckRisingEdge (tmode : Bool) (s : State) : Host.Outcome State Fault Refusal :=
  .next <|
    if !(s.fullTests && tmode && s.pins.driven && !s.nv.resultBlock.isEmpty) then s
    else
      let i := s.service.shifted
      if i < 32 * s.nv.resultBlock.length then
        (s.updService fun v => { v with shifted := i + 1 }).updPins fun p => { p with tdo := some (blockBit s.nv.resultBlock i) }
      else s.drawWord.2.updPins fun p => { p with tdo := some (s.drawWord.1.getLsbD 0) }

/-- BIST_SUPPLY_MONITOR (R565): V3D outside its operating window, as the monitor judges it. A running test is abandoned
(R579, R586). -/
def execBistSupplyMonitor (v3dMv : Nat) (s : State) : Host.Outcome State Fault Refusal :=
  .next <|
    let ok := 3230 ≤ v3dMv && v3dMv ≤ 3370
    let s := s.updClocks fun c => { c with v3dOk := ok }
    if ok then s else if s.dev.offTest then s.abandonTest else s.abandonSegment

end Sys2Proof.Machine
end

