-- ==== Sys2Proof/Machine/Faults.lean ====
section
/-!
DEFINITION. Detections of the supervisor, the clocks and the memories (chapters 01 and 16): check-in, watchdog, lockstep,
clock monitors, ECC and the end of reactions.
-/
namespace Sys2Proof.Machine

/-- The switched domains are out of reset and supplied. -/
def State.awake (s : State) : Bool := s.dev.phase = .run || s.dev.phase = .boot

/-! ### Raivo core and supervisor -/

/-- CHECK_IN (R484). -/
def execCheckIn (s : State) : Host.Outcome State Fault Refusal :=
  .next <| s.updDev fun d => { d with checkedIn := d.checkedIn || (s.running && s.core) }

/-- The core is fenced by a U-class event, which no core is left to log. -/
def State.fenceCore (s : State) (b : Block) (i : Nat) : State := (s.coreGone).raise b i

/-- CHECK_IN_DEADLINE (R484, R449, R450): a second deal in a row without a check-in fences the core. -/
def execCheckInDeadline (s : State) : Host.Outcome State Fault Refusal :=
  .next <|
    if s.running && s.core && !s.dev.checkedIn && 1 ≤ s.dev.checkMiss then s.fenceCore .raivo 8 else s

/-- IDLE_WATCHDOG_SERVICE (R482): while the device runs no deal, the halves serve the watchdog every 100 ms. -/
def execIdleWatchdogService (s : State) : Host.Outcome State Fault Refusal :=
  .next <| s.updDev fun d => if s.awake && !s.deals then { d with lastService := s.now } else d

/-- WATCHDOG_EXPIRY (R482): every switched domain is reset. The watchdog is stopped in STORAGE, LIFELINE and the fatal
state. -/
def execWatchdogExpiry (s : State) : Host.Outcome State Fault Refusal :=
  .next <| if s.awake && s.dev.watchdog then s.resetDomains causeWdog false else s

/-- LOCKSTEP_MISMATCH (R483): suspended during a segment of SV-A or SV-B (R573). -/
def execLockstepMismatch (s : State) : Host.Outcome State Fault Refusal :=
  .next <| if s.awake && !s.testing [11, 12] then s.raise .superv 12 else s

/-! ### Clocks -/

/-- Nominal SAFE cycles in 10 ms: 24 MHz (Table 1-4). -/
def safeNominal : Int := 240000

/-- CLOCK_MONITOR (R483, R565): beyond ±2 % of nominal is an F-class fault; beyond ±1 % no self-test runs. -/
def execClockMonitor (cycles : Nat) (s : State) : Host.Outcome State Fault Refusal :=
  .next <|
    if !s.awake then s
    else
      let off := ((cycles : Int) - safeNominal).natAbs
      let s := s.updClocks fun c => { c with safeOk := off ≤ 2400 }
      let s := if off ≤ 2400 then s else if s.dev.offTest then s.abandonTest else s.abandonSegment
      s.raiseIf (4800 < off) .clock 3

/-- CLKIN_FAIL (R602, CLOCK bit 0): ROOT on the internal oscillator; the CAN streamer stops. -/
def execClkinFail (s : State) : Host.Outcome State Fault Refusal :=
  .next <|
    if s.awake && s.clocks.clkin then
      ((s.updClocks fun c => { c with clkin := false, clkinFailed := true }).updVehicle fun v =>
        { v with canOut := v.canOut.halt }).raise .clock 0
    else s

/-- PLL_LOCK (R19): the PLL of a Hand or String Head locks to its primary side. -/
def execPllLock (s : State) : Host.Outcome State Fault Refusal :=
  .next <| s.updClocks fun c => if s.awake then { c with locked := true, holding := false } else c

/-- PLL_LOCK_LOST (R19, CLOCK bit 1): the device runs on the internal oscillator with its melds UNSYNC; a running
self-test is abandoned (R579, R586). -/
def execPllLockLost (s : State) : Host.Outcome State Fault Refusal :=
  .next <|
    if !(s.awake && s.clocks.locked) then s
    else
      let s := (s.updClocks fun c => { c with locked := false, holding := false }).updRing fun r => { r with unsync := true }
      let s := s.raise .clock 1
      if s.dev.offTest then s.abandonTest else s.abandonSegment

/-- PLL_HOLD_END (R20): the PLL re-locks to the new side; the hold did not end the lock state. -/
def execPllHoldEnd (s : State) : Host.Outcome State Fault Refusal :=
  .next <| s.updClocks fun c => { c with holding := false }

/-- KCLK_CALIBRATION (R21): a result more than ±2 % from the value in force is not applied and raises CLOCK bit 2. -/
def execKclkCalibration (ppm : Int) (s : State) : Host.Outcome State Fault Refusal :=
  .next <|
    if !s.awake then s
    else if 20000 < (ppm - s.keeper.calib).natAbs then s.raise .clock 2
    else s.updKeeper fun k => { k with calib := ppm }

/-! ### Memories -/

/-- SRAM_ECC_ERROR (R25, Table 16-6): one wrong bit is corrected; two disable the trace in its ring, which lies in MB7,
and fence the core elsewhere. -/
def execSramEccError (bank : Fin 8) (double traceRing : Bool) (s : State) : Host.Outcome State Fault Refusal :=
  .next <|
    if !s.awake then s
    else if !double then s.raise .mem 0
    else if traceRing && bank = 7 then (s.updDev fun d => { d with traceOff := true }).raise .mem 3
    else s.fenceCore .mem 4

/-- The item an uncorrectable word belongs to is treated as absent (Table 16-6). -/
def loseItem (i : FlashData) (n : NonVolatile) : NonVolatile :=
  match i with
  | .log a => { n with badWords := if n.badWords.contains (a / 8) then n.badWords else a / 8 :: n.badWords }
  | .activeSeal => { n with active := none }
  | .pendingSeal => { n with pending := none }
  | .census => { n with census := none }
  | .serviceA => { n with recordA := none }
  | .serviceB => { n with recordB := none }

/-- FLASH_ECC_ERROR (R485, Table 16-6). -/
def execFlashEccError (kind : FlashError) (s : State) : Host.Outcome State Fault Refusal :=
  .next <|
    if !s.awake then s
    else
      match kind with
      | .corrected => s.raise .mem 1
      | .uncorrectableCode => s.fenceCore .mem 5
      | .uncorrectableData i => (s.updNv (loseItem i)).raise .mem 6
      | .bothTrimCopies => s.raise .mem 7

/-! ### Reactions -/

/-- REACTION_TIMEOUT (R486): with no deal running a reaction ends 100 ms after it started, or after the last deal
boundary it ran. -/
def execReactionTimeout (b : Block) (s : State) : Host.Outcome State Fault Refusal :=
  .next <| if s.awake && !s.deals then s.endReaction b else s

/-- Reactions that a deal boundary ends: those started 1 ms or more before it (R486). -/
def State.endReactions (s : State) : State :=
  allBlocks.foldl (fun t b =>
    match (faultOf t.faults b).reaction with
    | some r => if t.passed r.started 1 then t.endReaction b else t
    | none => t) s

/-- Every reaction ends, as on entry to STORAGE (R486). -/
def State.endAllReactions (s : State) : State := allBlocks.foldl (fun t b => t.endReaction b) s

end Sys2Proof.Machine
end

