-- ==== Sys2Proof/Machine/Images.lean ====
section
/-!
DEFINITION. Firmware images in their two slots: format, check, and the choice of the slot that runs
(18_management_and_service.md, section 6).
-/
namespace Sys2Proof.Machine

/-- The outcome of an image check (Table 18-9). -/
inductive ImageCheck where
  | ok | signature | rollback | token
  deriving DecidableEq, Repr

/-- The 128 header bytes of a slot (R553). -/
def State.header (s : State) (b : Bool) : List Byte := Memory.bytes s.flash (slotBase b) 128

/-- Bytes lo … lo + n − 1 of a header as a number. -/
def headerField (h : List Byte) (lo n : Nat) : Nat := ofBytesBE ((h.drop lo).take n)

/-- Body length of a well-formed image: magic, format, kind, and a total of a multiple of 64 bytes within 384 KB (R553). -/
def bodyLength (h : List Byte) : Option Nat :=
  let n := headerField h 12 4
  if headerField h 0 4 = 0x525A3138 ∧ headerField h 4 2 = 1 ∧ headerField h 9 1 ≤ 1 ∧ n % 64 = 0 ∧ n + 192 ≤ 393216 then some n
  else none

/-- The slot is A and still holds the image the part shipped with (log 12). -/
def State.shippedIn (s : State) (b : Bool) : Bool := !b && s.nv.shipped

/-- Kind 1 is a RETURN token (R553). -/
def State.isToken (s : State) (b : Bool) : Bool := !s.shippedIn b && headerField (s.header b) 9 1 = 1

/-- Version and rollback number of a slot's image. -/
def State.imageVersion (s : State) (b : Bool) : Nat :=
  if s.shippedIn b then Config.shippedVersion.toNat else headerField (s.header b) 6 2
def State.imageRollback (s : State) (b : Bool) : Nat :=
  if s.shippedIn b then Config.shippedRollback.toNat else headerField (s.header b) 8 1

/-- The image check (R554, R562, Table 18-9). -/
def State.checkImage (s : State) (b : Bool) : ImageCheck :=
  if s.shippedIn b then .ok
  else
    let h := s.header b
    match bodyLength h with
    | none => .signature
    | some n =>
      let key := (h.drop 16).take 64
      let body := Memory.bytes s.flash (slotBase b + 128) n
      let sig := Memory.bytes s.flash (slotBase b + 128 + n) 64
      if Config.sha256 key ≠ Config.keyHash || !Config.ecdsaValid key (h ++ body) sig then .signature
      else if s.imageRollback b < s.nv.fuses then .rollback
      else if s.isToken b && (headerField h 80 8 ≠ Config.factoryNumber.toNat || s.nv.lifeCycle ≠ .field) then .token
      else .ok

/-- The 32 bytes of the SHA-256 of the image in a slot (R557). -/
def State.imageDigest (s : State) (b : Bool) : List Byte :=
  bytesBE 32 (Config.sha256 (Memory.bytes s.flash (slotBase b) (((bodyLength (s.header b)).getD 0) + 192))).toNat

/-- Changes a slot's state. -/
def setSlot (b : Bool) (x : SlotState) (n : NonVolatile) : NonVolatile := if b then { n with slotB := x } else { n with slotA := x }

/-- State of a slot. -/
def slotOf (n : NonVolatile) (b : Bool) : SlotState := if b then n.slotB else n.slotA

/-- IMAGE record (Table 18-3). -/
def State.logImage (s : State) (event : Nat) (b : Bool) : State :=
  s.log 0x14 ([BitVec.ofNat 8 event, if b then 1 else 0] ++ bytesBE 2 (s.imageVersion b) ++
    [BitVec.ofNat 8 (s.imageRollback b), BitVec.ofNat 8 s.nv.fuses])

/-- A slot that runs: its image verifies and is firmware. -/
def State.slotBoots (s : State) (b : Bool) : Bool := decide (s.checkImage b = .ok) && !s.isToken b

/-- The slots in the order of the check (R559): armed, active, the other. A token is no firmware and is not tried. -/
def State.bootOrder (s : State) : List Bool :=
  let other := !s.nv.activeB
  match s.nv.armedB with
  | some b => (if b = s.nv.activeB then [b, other] else [b, s.nv.activeB]).filter fun x => !s.isToken x
  | none => [s.nv.activeB, other].filter fun x => !s.isToken x

/-- The slot that runs, if any verifies. -/
def State.bootSlot (s : State) : Option Bool := s.bootOrder.find? s.slotBoots

/-- A committed RETURN token blows the RETURN fuse; both seal copies and the census go (R562). -/
def State.returnToken (s : State) : Bool :=
  match s.nv.armedB with
  | some b => s.isToken b && s.checkImage b = .ok
  | none => false

/-- The non-volatile part after that. -/
def returned (n : NonVolatile) : NonVolatile :=
  { n with lifeCycle := .returned, active := none, pending := none, census := none, probeList := [], armedB := none }

/-- FUSE_BLOW (R560): a committed image has run for 1 h of continuous RUN without RAIVO bit 8. -/
def execFuseBlow (s : State) : Host.Outcome State Fault Refusal :=
  .next <|
    if s.running && s.core && s.nv.committed && !s.has .raivo 8 then
      let r := s.imageRollback s.nv.activeB
      let s := s.updNv fun n => { n with fuses := if n.fuses < r then sat 32 r else n.fuses, committed := false }
      s.logImage 9 s.nv.activeB
    else s

end Sys2Proof.Machine
end

