-- ==== Sys2Proof/Machine/Power.lean ====
section
/-!
DEFINITION. Supplies, power states, resets and the boot (04_supplies_and_start.md, 05_keeper_storage_lifeline.md
section 1): what wakes the part, what it latches and checks at a boot, and how it goes to STORAGE.
-/
namespace Sys2Proof.Machine

/-! ### Energy counter -/

/-- BUCK_ENERGY_SAMPLE (R93): mV × µA over 250 µs is the same number of 250 fJ; 4·10⁹ of them are 1 mJ. -/
def execBuckEnergySample (mv ua : Nat) (s : State) : Host.Outcome State Fault Refusal :=
  .next <| s.updKeeper fun k =>
    if s.supply.buck then
      let part := k.energyPart + mv * ua
      { k with energy := k.energy + BitVec.ofNat 32 (part / 4000000000), energyPart := part % 4000000000 }
    else k

/-! ### Keeper -/

/-- The straps the keeper holds (Table 5-1), which fix the role outside RUN. -/
def State.kept (s : State) : InForce := inForce s.keeper.straps

/-- The keeper on BKUP clears every item Table 5-1 does not keep there (R123). -/
def clearKeeper (k : Keeper) : Keeper :=
  { k with source := .bkup, energy := 0, energyPart := 0, energyLost := true, vauxAbsent := none, straps := List.replicate 13 none,
           lastPos := none, lastSide := none, entry := none, watches := 0, skipped := 0, watchAlarm := false, slotVerified := false,
           cause := 0, testResult := none, testAbandoned := false, demand := false, powered := 0 }

/-- The keeper has lost power and has it again (Table 5-1, third column). -/
def freshKeeper (flashLock : Bool) (src : KeeperSource) : Keeper := { Keeper.reset with lockout := flashLock, source := src }

/-- The source that qualifies (R121, R122); none is a loss of power. -/
def nextSource (cur : KeeperSource) (vmodMv lfsMv bkupMv : Nat) (dark : Bool) : Option KeeperSource :=
  if 3000 ≤ vmodMv then some .vmod
  else if cur = .bkup then
    if 2600 ≤ lfsMv then some .lfs else if 2000 ≤ bkupMv then some .bkup else if 1800 ≤ lfsMv then some .lfs else none
  else if (dark || lfsMv < 1800) && 2000 ≤ bkupMv then some .bkup
  else if 1800 ≤ lfsMv then some .lfs
  else none

/-- Unpowered outputs (Table 2-4, columns STORAGE and LIFELINE). -/
def undriven (p : Pins) : Pins :=
  { p with driven := false, faultN := false, warnN := false, lockN := false, ready := false, socPwm := 0, bistOk := false,
           testPulses := false, tdo := none }

/-- Every switched domain off; the keeper goes on. -/
def State.powerDown (s : State) (ph : Phase) : State :=
  let s := s.resetDomains 0 true
  let s := s.updDev fun d => { d with phase := ph, watchdog := false }
  (s.updSupply fun v => { v with buck := false, fromVaux := false }).updPins undriven

/-- KEEPER_SOURCE_SWITCH (R121 to R123). On BKUP, and without any source, the part is OFF; power that returns after a loss
finds KPR as Table 5-1 gives. -/
def execKeeperSourceSwitch (vmodMv lfsMv bkupMv : Nat) (darkFor30s : Bool) (s : State) : Host.Outcome State Fault Refusal :=
  .next <|
    match nextSource s.keeper.source vmodMv lfsMv bkupMv darkFor30s with
    | none =>
      let s := s.powerDown .off
      { s with keeper := freshKeeper s.nv.lockout .vmod }
    | some .bkup => if s.keeper.source = .bkup then s else (s.powerDown .off).updKeeper clearKeeper
    | some x =>
      s.updKeeper fun k => if k.source = .bkup then { k with source := x, cause := causePor } else { k with source := x }

/-! ### Boots -/

/-- A boot begins: the buck runs, from VAUX on a Dealer with VAUX valid (R96), the domains leave reset with the cause
recorded, and a Dealer with VAUX valid begins its wake carrier (R115). -/
def State.beginBoot (s : State) (cause : Word) : State :=
  let s := s.updSupply fun v => { v with buck := true, fromVaux := v.vaux && s.kept.role = .dealer }
  s.resetDomains cause false

/-- The relayed wake carrier of R114: on the other port when it is strapped Chain-A or Chain-B (R225). -/
def State.relayCarrier (s : State) (p : Port) (c : InForce) : State :=
  let g := match p.other with
    | .n => c.genN
    | .s => c.genS
  s.updPort p.other fun q => if g = .a || g = .b then { q with line := [.wakeCarrier] } else q

/-- Enters LIFELINE (R144): reports start 100 ms later; the port is chosen by R147. -/
def State.enterLifeline (s : State) : State :=
  let c := s.life.carrier
  let side := s.keeper.lastSide
  let s := s.powerDown .lifeline
  s.updLife fun l => { l with reports := 0, unacked := 0, unackedAll := 0, heldBack := false, awaiting := false, port := c.getD (side.getD .n) }

/-- A wake source other than a carrier fires in STORAGE (Table 4-3, R142). -/
def State.wake (s : State) (vmodOk : Bool) : State :=
  if vmodOk then s.beginBoot causeStwake else if s.life.good then s.enterLifeline else s

/-- A carrier or beacon on a port wakes a Hand or String Head (R114, R142): it is relayed, then the device boots, or enters
LIFELINE where VMOD is too low; without power-good it is only noted. -/
def State.carrierWake (s : State) (p : Port) (vmodOk : Bool) : State :=
  let c := s.kept
  if vmodOk then (s.beginBoot causeStwake).relayCarrier p c
  else if s.life.good then s.enterLifeline.relayCarrier p c
  else s

/-- Whether the carrier detector of a port runs (R125). -/
def detects (c : InForce) : Port → Bool
  | .n => c.genN.ring
  | .s => c.genS.ring

/-- WAKE_CARRIER_DETECT (R114, R125, R142, R147): only a Hand or String Head in STORAGE wakes; a device in LIFELINE notes
the port; during STORAGE entry it waits (R113). -/
def execWakeCarrierDetect (port : Port) (vmodOk : Bool) (s : State) : Host.Outcome State Fault Refusal :=
  .next <|
    let c := s.kept
    if !detects c port || c.role = .dealer then s
    else
      match s.dev.phase with
      | .run => s.updDev fun d => if d.entering then { d with wakePending := some (some port) } else d
      | .lifeline => s.updLife fun l => if l.carrier = some port then l else { l with carrier := some port, port := port }
      | .storage | .off =>
        ((s.updLife fun l => { l with carrier := some port }).updPort port fun q => { q with carrierSeen := true }).carrierWake
          port vmodOk
      | _ => s

/-- The key ratio of R547. -/
def keyReads (r : Rat) : Bool := 3615 ≤ r * 10000 && r * 10000 ≤ 3806

/-- The checks when the domains leave reset, once a boot: supervisor ROM (R483) and service key (R547). A Dealer whose ROM
fails sets its lock-out through the KPR latch (R498, R500), by the role the keeper holds. -/
def State.bootChecks (s : State) (r : BootReads) : State :=
  if s.dev.bootChecked then s
  else
    let s := (s.updDev fun d => { d with bootChecked := true }).updStraps fun t => { t with keyRead := keyReads r.keyRatio }
    if r.romOk then s
    else
      (s.raise .superv 13).updKeeper fun k => if (inForce k.straps).role = .dealer then { k with lockout := true } else k

/-- RESET_N_ASSERT (R117): the part stays in reset. In STORAGE, LIFELINE and OFF the pin is ignored (Table 2-4). -/
def execResetNAssert (s : State) : Host.Outcome State Fault Refusal :=
  .next <| if s.awake || s.dev.phase = .held then s.resetDomains causeRstn true else s

/-- RESET_N_RELEASE (R117): the boot begins; in STORAGE it is a wake source (Table 4-3). -/
def execResetNRelease (reads : BootReads) (vmodOk : Bool) (s : State) : Host.Outcome State Fault Refusal :=
  .next <|
    match s.dev.phase with
    | .held => (s.beginBoot 0).bootChecks reads
    | .storage => s.wake vmodOk
    | .run => s.updDev fun d => if d.entering then { d with wakePending := d.wakePending.or (some none) } else d
    | _ => s

/-- BROWN_OUT (R110): a power-on reset of every switched domain. -/
def execBrownOut (rail : Rail) (s : State) : Host.Outcome State Fault Refusal :=
  .next <|
    if s.awake then s.resetDomains (causeRail rail) false
    else if s.dev.phase = .held then s.resetDomains (causeRail rail) true
    else s

/-- RING_RESET (R119): once the reset beacon has been forwarded. -/
def execRingReset (s : State) : Host.Outcome State Fault Refusal :=
  .next <| if s.dev.resetPending then s.resetDomains causeRing false else s

/-- BUCK_START (R89): VMOD at the start threshold ends LIFELINE with a boot, and boots a part that was off. A part in
STORAGE stays there. -/
def execBuckStart (s : State) : Host.Outcome State Fault Refusal :=
  .next <|
    match s.dev.phase with
    | .lifeline => s.beginBoot causeLifexit
    | .off => s.beginBoot causePor
    | _ => s

/-- BUCK_STOP (R89, R144): VMOD at the stop threshold takes a part that runs from VMOD to LIFELINE when power-good is on,
else to OFF; a Dealer fed from VAUX goes on. -/
def execBuckStop (s : State) : Host.Outcome State Fault Refusal :=
  .next <|
    if !s.supply.buck || s.supply.fromVaux then s
    else if s.life.good then s.enterLifeline
    else s.powerDown .off

/-! ### Strap latching and the start of the core -/

/-- STRAP bit 2 for each strap invalid at latching (R75). -/
def State.raiseInvalid (s : State) : State :=
  (List.range 13).foldl (fun t i => if strapInvalid s.straps.latched i then t.raise .strap 2 else t) s

/-- STRAP_LATCH (R58, R61, R73, R75): two successive reads; levels that agree are latched and take force. A Dealer whose
role the keeper did not know begins its wake carrier now (R115), and its VAUX-absence timer where VAUX is invalid (R101). -/
def execStrapLatch (reads : BootReads) (first second : List Rat) (s : State) : Host.Outcome State Fault Refusal :=
  .next <|
    if !(s.dev.phase = .boot && !s.dev.strapped) then s
    else
      let s := s.bootChecks reads
      let known := s.kept.role = .dealer
      let ls : Levels := (List.range 13).map fun i => latchLevel (first.getD i 0) (second.getD i 0)
      let c := inForce ls
      let s := s.updStraps fun t => { t with latched := ls }
      let s := s.updKeeper fun k =>
        { k with straps := ls,
                 vauxAbsent := if c.role = .dealer && !s.supply.vaux then some (k.vauxAbsent.getD 0) else k.vauxAbsent }
      let s := s.updDev fun d => { d with strapped := true }
      let s := s.updRing fun r => { r with period := c.period }
      let s := s.updClocks fun x => { x with clkin := c.clkin, locked := c.role = .dealer }
      let s := s.updProbes fun p => { p with power := c.probeWire }
      let s := s.updSupply fun v => { v with fromVaux := v.vaux && c.role = .dealer }
      let s := if known || c.role ≠ .dealer then s
        else (s.updPort .n fun _ => bootPort c s.supply.vaux false c.genN).updPort .s fun _ => bootPort c s.supply.vaux false c.genS
      s.raiseInvalid

/-- The device's own entry in its active seal (R87). -/
def State.ownEntry (s : State) : Option SealEntry := s.nv.active.bind fun r => r.entries.find? (·.factory = Config.factoryNumber)

/-- STRAPS record byte of strap `i` (Table 18-3). -/
def State.strapByte (s : State) (i : Nat) : Byte :=
  let l := (level s.straps.latched i).getD 31
  let diff := s.ownEntry.any fun e => printLevel e.fingerprint i ≠ (fingerLevels s.straps.latched).getD i 31
  BitVec.ofNat 8 (l + (if diff then 64 else 0) + if strapInvalid s.straps.latched i then 128 else 0)

/-- Life-cycle codes (Table 18-3). -/
def LifeCycle.code : LifeCycle → Nat
  | .blank => 0
  | .test => 1
  | .field => 2
  | .returned => 3

/-- Seconds in STORAGE, where the keeper knows the entry. -/
def State.storageSeconds (s : State) : Option Nat := s.keeper.entry.map fun t => (s.now - t) / 32768

/-- The boot ends STORAGE. -/
def State.fromStorage (s : State) : Bool := s.keeper.cause &&& causeStwake ≠ 0

/-- The first records and trace entry of a boot (R538, R546); the cause word is cleared once logged. -/
def State.bootRecords (s : State) (backupLow : Bool) : State :=
  if !s.core then s
  else
    let k := s.keeper
    let dur := s.storageSeconds
    let b := s.nv.activeB
    let s := s.log 0x01 (bytesBE 3 k.cause.toNat ++
      [BitVec.ofNat 8 ((if b then 128 else 0) + (if backupLow then 64 else 0) + s.imageRollback b % 64)] ++
      bytesBE 2 (s.imageVersion b) ++
      [BitVec.ofNat 8 (s.nv.lifeCycle.code * 64 + sat 63 k.skipped), BitVec.ofNat 8 (sat 255 s.logs.torn)])
    let s := s.log 0x02 ((List.range 8).map s.strapByte)
    let s := s.log 0x03 (((List.range 5).map fun i => s.strapByte (i + 8)) ++ bytesBE 3 s.sealNumber.toNat)
    let s := if s.fromStorage then
        (s.log 0x10 (bytesBE 4 (dur.getD 0xFFFFFFFF) ++ bytesBE 2 (sat 0xFFFF k.watches) ++
          [BitVec.ofNat 8 (sat 255 k.skipped)])).trace 0x80 (bytesBE 4 (dur.getD 0xFFFFFFFF) ++ [5])
      else s.trace 0x81 (bytesBE 3 k.cause.toNat ++ [0, 0])
    s.updKeeper fun k => { k with cause := 0 }

/-- What KPR takes back from flash after it was cleared (R94, R509). -/
def State.restoreKeeper (s : State) : State :=
  if s.keeper.energyLost then
    s.updKeeper fun k =>
      { k with energy := s.nv.energy + k.energy, energyLost := false, demand := s.nv.demand, powered := s.nv.powered }
  else s

/-- The interlock of this device is in use (R71, R72). -/
def State.usesInterlock (s : State) : Bool := s.cfg.interlock

/-- Makes the demand test pending, in KPR and in flash (R508, R509). -/
def State.demandPending (s : State) : State := (s.updKeeper fun k => { k with demand := true }).saveDemand

/-- The lock-out copies at a boot (R500, Table 4-6): the set copy prevails; a boot that finds the lock-out set makes the
demand test pending (R508). -/
def State.lockoutCopies (s : State) : State :=
  let k := s.keeper.lockSeenK
  let f := s.keeper.lockSeenF
  let set := s.keeper.lockout || s.nv.lockout
  let s := (s.updKeeper fun x => { x with lockout := set }).updNv fun n => { n with lockout := set }
  let s := if k = f then s else (s.raise .keeper 4).logLockout 4 0 0
  let s := if set && s.usesInterlock then s.demandPending else s
  s.lockPin

/-- A string's restored values: its first deal bridges the gap (R426), and it starts OPEN. -/
def restoreString (v : StringSvc) : StringSvc :=
  { v with bridging := true, broken := false, lastAcc := none, restSince := none, firstTaken := false, lastMean := none, lastStates := [], cmd := .open, sent := .open,
           cmdAt := 0, failed := false, failedAt := 0, peak := 0, quiet := 0 }

/-- The newer of the two service records. -/
def State.newerRecord (s : State) : Option ServiceRecord :=
  match s.nv.recordA, s.nv.recordB with
  | some a, some b => if a.number < b.number then some b else some a
  | some a, none => some a
  | none, b => b

/-- The Dealer restores its services (R420, R426); a long STORAGE counts as rest (R428). -/
def State.restoreServices (s : State) : State :=
  if !s.isDealer then s
  else
    let rested := s.fromStorage && s.storageSeconds.any (1800 ≤ ·)
    s.updServices fun v =>
      match s.newerRecord with
      | none => { v with rested := rested }
      | some r =>
        { v with strings := r.strings.map restoreString, sohC := r.sohC, jobTotal := r.jobTotal, recordNo := r.number,
                 rested := rested }

/-- Checks once the core runs (Table 4-6): unpopulated inputs (R48), fingerprint (R87), backup cell (R130), storage watches
(R127, R129), KPR loss, and the results of an off-line test (R585, R586). -/
def State.startChecks (s : State) (unpopulated : List Int) (backupLow : Bool) : State :=
  let k := s.keeper
  let differs := s.ownEntry.any fun e => e.fingerprint ≠ fingerprint s.straps.latched
  let s := s.raiseIf (k.cause &&& causeKprloss ≠ 0) .keeper 0
  let s := s.raiseIf backupLow .keeper 1
  let s := s.raiseIf k.watchAlarm .keeper 2
  let s := s.raiseIf (k.skipped ≠ 0) .keeper 3
  let s := s.raiseIf (unpopulated.any fun d => 1000 < d.natAbs) .strap 4
  let s := (s.updStraps fun t => { t with mismatch := differs }).raiseIf differs .strap 3
  let s := (s.raiseIf k.testAbandoned .bist 1).updKeeper fun k => { k with testAbandoned := false }
  let failed := match k.testResult with
    | some (.fail _) => true
    | _ => false
  let s := s.raiseIf failed .bist 6
  (s.updPins fun p => { p with bistOk := !failed }).bistFalls

/-- The verifier's choice (R559): the first slot that verifies becomes active; another than the one first tried raises
RAIVO bit 6, none RAIVO bit 9. -/
def State.chooseSlot (s : State) : State :=
  let first := s.bootOrder.head?
  let was := s.nv.activeB
  let armed := s.nv.armedB
  match s.bootSlot with
  | none => (s.updKeeper fun k => { k with slotVerified := false }).raise .raivo 9
  | some b =>
    let s := s.updKeeper fun k => { k with slotVerified := true }
    let bad := s.bootOrder.takeWhile (· ≠ b)
    let s := s.updNv fun n =>
      { setSlot b .verified (bad.foldl (fun m x => if slotOf m x = .empty then m else setSlot x .failed m) n) with activeB := b, armedB := none, committed := if armed = some b then true else n.committed && b = was }
    let s := s.updDev fun d => { d with coreStarted := !d.coreBarred && !d.fatal }
    if first = some b then s else s.raise .raivo 6

/-- IMAGE records of the boot (Table 18-9): slot switched, fallback. -/
def State.imageRecords (s : State) (was : Bool) : State :=
  let s := if s.nv.activeB = was then s else s.logImage 7 s.nv.activeB
  if s.has .raivo 6 then s.logImage 8 s.nv.activeB else s

/-- Identity recorded for slot `k`: the probe that holds it, or the census entry it is reserved for (R195). -/
def State.slotIdent (s : State) (k : Nat) : ProbeId :=
  match (s.probes.slots.getD k Slot.empty).ident with
  | some i => i
  | none => (s.nv.census.getD []).getD k 0

/-- PROBE SLOT records of a boot whose discovery has ended, one per assigned slot (Table 18-3), and the list for storage
watches where the discovery changed it (07_probe_wire.md, section 6). -/
def State.probeRecords (s : State) : State :=
  if !(s.core && s.probes.found) then s
  else
    let held := (List.range 16).filterMap fun k => (s.probes.slots.getD k Slot.empty).ident.map fun i => (k, i)
    let s := (List.range 16).foldl (fun t k =>
      let x := s.probes.slots.getD k Slot.empty
      if x.assigned then t.log 0x04 (BitVec.ofNat 8 (k * 16 + x.state.code) :: bytesBE 7 (s.slotIdent k).toNat) else t) s
    s.updNv fun n => { n with probeList := held }

/-- FIRMWARE_START (R559 and Table 4-6 from the signature check on): the core starts from the slot that verifies, the log is
found, the checks and records of a boot are made, and the device is in RUN; SOC_PWM of a Dealer runs at 5 % until the first closure (R473). -/
def execFirmwareStart (unpopulated : List Int) (bkupMv : Nat) (s : State) : Host.Outcome State Fault Refusal :=
  .next <|
    if !(s.dev.phase = .boot && s.dev.strapped) then s
    else
      let low := bkupMv < 2500
      let token := s.returnToken
      let was := s.nv.activeB
      let s := if token then s.updNv returned else s
      let s := s.chooseSlot.bootLog
      let s := s.restoreKeeper
      let s := s.updRing fun r =>
        { r with causeWord := s.keeper.cause, count := ((s.nv.active.map fun x => x.entries.length).getD r.count) }
      let cause := s.keeper.cause
      let s := s.restoreServices
      let s := (s.bootRecords low).probeRecords
      let s := if token then s.log 0x08 [8, 0, 0, 0, 0, 0, 0, 0] else s
      let s := s.imageRecords was
      let kept := s.keeper.cause
      let s := (s.updKeeper fun k => { k with cause := cause }).startChecks unpopulated low
      let s := s.updKeeper fun k => { k with cause := kept, entry := none, watches := 0, skipped := 0, watchAlarm := false }
      let s := s.lockoutCopies
      let s := s.updDev fun d => { d with phase := .run, runTicks := 0, lastService := s.now }
      let s := s.updService fun v => { v with open_ := s.straps.keyRead }
      let s := s.updSupply fun v => { v with tref := s.cfg.ntcCount != 0 }
      s.updPins fun p =>
        { p with
          testPulses := s.usesInterlock && !s.dev.fatal, faultN := s.isDealer
          socPwm := if s.isDealer && !s.dev.fatal then 600 else p.socPwm }

/-! ### VAUX -/

/-- VAUX_VALID (R97): the Dealer's buck takes VAUX, the absence timer clears. It wakes a Dealer in STORAGE; a Dealer that
booted without it begins its wake carrier; an entry into STORAGE that has not opened the contactors does not begin. -/
def execVauxValid (s : State) : Host.Outcome State Fault Refusal :=
  .next <|
    let dealer := s.kept.role = .dealer
    let s := (s.updSupply fun v => { v with vaux := true, fromVaux := v.buck && dealer }).updKeeper fun k => { k with vauxAbsent := none }
    if !dealer then s
    else
      match s.dev.phase with
      | .storage => s.beginBoot causeStwake
      | .run =>
        let s := (s.updServices fun v => { v with toStorage := false }).updDev fun d =>
          if d.entering then { d with wakePending := some none } else d
        let d := s.dealer.discovery
        if s.dev.entering || d.active || d.done || s.dev.fatal then s
        else
          (s.updPort .n fun q => if s.cfg.genN.ring && !q.up then { q with line := [.wakeCarrier] } else q).updPort .s fun q =>
            if s.cfg.genS.ring && !q.up then { q with line := [.wakeCarrier] } else q
      | _ => s

/-- VAUX_INVALID (R96, R98): SUPPLY bit 0, the buck on VMOD, and the absence timer from 0. -/
def execVauxInvalid (s : State) : Host.Outcome State Fault Refusal :=
  .next <|
    if !s.supply.vaux then s
    else
      let s := s.updSupply fun v => { v with vaux := false, fromVaux := false }
      if s.kept.role ≠ .dealer then s
      else
        let s := s.updKeeper fun k => { k with vauxAbsent := some 0 }
        s.raiseIf s.awake .supply 0

/-- Entry into STORAGE runs from here to its end (R113). -/
def State.beginEntry (s : State) : State :=
  (s.updDev fun d => { d with entering := true }).updDealer fun d => { d with stopped := true }

/-- VAUX_ABSENCE_EXPIRY (R99, R112): the Dealer opens in sequence first; with the pack OPEN, or without a core to sequence
it, entry follows at once. -/
def execVauxAbsenceExpiry (s : State) : Host.Outcome State Fault Refusal :=
  .next <|
    if !(s.isDealer && s.running && !s.supply.vaux && !s.dev.entering) then s
    else if s.services.pack = .opened || s.dev.fatal then s.beginEntry
    else if s.core && s.deals then s.openSequenced.updServices fun v => { v with toStorage := true }
    else (s.openPack 1).beginEntry

/-- BEACON_SILENCE_TIMEOUT (Table 4-2): a Hand or String Head 60 s after its last beacon, or any device 60 s after a boot
with an invalid STR_LINK. -/
def execBeaconSilenceTimeout (s : State) : Host.Outcome State Fault Refusal :=
  .next <| if s.running && (!s.isDealer || !s.cfg.linkValid) then s.beginEntry else s

/-- Writes a list of records at once. -/
def State.logNow (s : State) (t : Byte) (ps : List (List Byte)) : State := ps.foldl (fun u p => (u.log t p).flushLog 2) s

/-- The records of STORAGE entry (R94, R420, R480, R509, R538, R542, R545). -/
def State.entryRecords (s : State) (rms : List Nat) : State :=
  let s := s.endAllReactions.flushLog 80
  let s := s.trace 0x8F (bytesBE 4 s.seconds.toNat ++ [0])
  let s := s.logNow 0x06 (pairEntries s.countEntries)
  let s := (s.logEnergy.saveDemand.logTotals.logSummary rms).saveServices.flushLog 80
  s.flushTrace

/-- STORAGE_ENTRY (R112, R113): trace, records and entry time, then power-down; a wake source that fired meanwhile takes
effect now. -/
def execStorageEntry (rmsX rmsY rmsZ : Nat) (s : State) : Host.Outcome State Fault Refusal :=
  .next <|
    if !(s.running && s.dev.entering) then s
    else
      let wake := s.dev.wakePending
      let s := if s.core then s.entryRecords [rmsX, rmsY, rmsZ] else s
      let s := s.updKeeper fun k => { k with entry := some s.now, watches := 0, skipped := 0, watchAlarm := false }
      let s := s.updLife fun l => { l with carrier := none }
      let s := s.powerDown .storage
      match wake with
      | none => s
      | some none => s.wake true
      | some (some p) => (s.updLife fun l => { l with carrier := some p }).carrierWake p true

/-! ### Alerts and the lowest state -/

/-- Index of an alert: ALERT_N first (Table 16-5). -/
def alertIndex : Option BuckAlert → Nat
  | none => 0
  | some .currentLimit => 1
  | some .v5Window => 2
  | some .vmodLow => 3

/-- ALERT trace entry. -/
def State.traceAlert (s : State) (enter : Bool) (bitNo : Nat) : State :=
  s.trace 0x8B [if enter then 1 else 0, BitVec.ofNat 8 bitNo, 0, 0, 0]

/-- The lowest state begins (R105, R141, R383): jobs end, the fan holds, feeds stop. -/
def State.enterLowest (s : State) (bitNo : Nat) : State :=
  if s.supply.lowest then s
  else
    let s := (s.updSupply fun v => { v with lowest := true, lowestAt := s.now }).traceAlert true bitNo
    let s := ((s.endJobs fun _ => true).freezeFan).updBalance fun b => { b with baseStart := none }
    let stop (q : PortState) : PortState :=
      { q with feed := { q.feed with active := false, listening := false, suspended := q.feed.active } }
    (((s.updPort .n stop).updPort .s stop).noteReasons 0)

/-- An alert becomes active (R104, R106). -/
def State.alert (s : State) (i : Nat) : State :=
  if s.supply.alerts.getD i false then s
  else ((s.updSupply fun v => { v with alerts := v.alerts.set i true }).raise .supply (i + 1)).enterLowest (i + 1)

/-- ALERT_N (R104): low for 10 µs. -/
def execAlertN (s : State) : Host.Outcome State Fault Refusal := .next <| if s.running then s.alert 0 else s

/-- INTERNAL_ALERT (R104): VMOD low counts only while the buck runs from VMOD. -/
def execInternalAlert (kind : BuckAlert) (s : State) : Host.Outcome State Fault Refusal :=
  .next <| if s.running && !(kind = .vmodLow && s.supply.fromVaux) then s.alert (alertIndex (some kind)) else s

/-- ALERT_TIMEOUT (R108): an alert held for 10 s; the lowest state lasts until reset. -/
def execAlertTimeout (s : State) : Host.Outcome State Fault Refusal :=
  .next <|
    if s.running && s.supply.alerts.any id then (s.updSupply fun v => { v with lowestHeld := true }).raise .supply 5 else s

/-- ALERT_INACTIVE (R107): the 100 ms count from the end of the last alert. -/
def execAlertInactive (kind : Option BuckAlert) (s : State) : Host.Outcome State Fault Refusal :=
  .next <| s.updSupply fun v =>
    if v.alerts.getD (alertIndex kind) false then { v with alerts := v.alerts.set (alertIndex kind) false, quietAt := s.now } else v

/-- Leaves the lowest state once every alert has been inactive for 100 ms (R107): held-back outputs restart, the purge and
the feeds go on. -/
def State.leaveLowest (s : State) : State :=
  if s.supply.lowest && !s.supply.lowestHeld && !(s.supply.alerts.any id) && s.passed s.supply.quietAt 100 then
    let s := (s.updSupply fun v => { v with lowest := false }).traceAlert false 0
    let resume (q : PortState) : PortState :=
      { q with feed := { q.feed with active := q.feed.active || q.feed.suspended, suspended := false } }
    (((s.updPort .n resume).updPort .s resume).thawFan).restartAfterLowest
  else s

end Sys2Proof.Machine
end

