-- ==== Sys2Proof/Machine/Measure.lean ====
section
/-!
DEFINITION. Measurement (chapter 06): the passive pause, the aperture and its checks, the current channel, the open
sense-wire test, the live strap reads, and the assembly of the two meld parts (chapter 09, section 4.3).
-/
namespace Sys2Proof.Machine

/-! ### The aperture -/

/-- The device samples: it runs deals, or is a Dealer whose first deal is to come. -/
def State.samples (s : State) : Bool :=
  s.running && !s.dev.offTest &&
    (s.deals || (s.isDealer && s.dealer.discovery.done && !s.dealer.stopped && !s.dev.fatal))

/-- PASSIVE_PAUSE (R154): every closed bleed switch opens, 100 µs before the aperture. -/
def execPassivePause (s : State) : Host.Outcome State Fault Refusal :=
  .next <| if s.samples then s.updMeas fun m => { m with pause := true } else s

/-- APERTURE_OPEN (R26, R161, R162): the aperture of the deal to come. -/
def execApertureOpen (s : State) : Host.Outcome State Fault Refusal :=
  .next <|
    if s.samples then
      let d := if s.ring.dealing then s.ring.deal + 1 else 0
      (s.updMeas fun m => { m with aperture := true, pause := true, deal := d }).updRing fun r => { r with phaseFix := 0 }
    else s

/-- The current channel reads: a shunt is strapped and CUR is not fenced (Table 1-5, R580). -/
def State.currentOn (s : State) : Bool := s.cfg.shunt ≠ 0 && !s.bist.fenced.contains 7

/-- A ratio inside both thresholds of R176. -/
def ratioOk (r : Rat) : Bool := 1 ≤ r * 100 && r * 100 ≤ 99

/-- The temperature code of an NTC ratio (R175): exact at one half, where R is R25; elsewhere the conversion of log 7. -/
def ntcCodeOf (t : Nat) (r : Rat) : Word := if r = 1 / 2 then word (25 * 1024) else Config.ntcCode t r

/-- One NTC conversion of the deal (R164, R176). -/
def takeNtc (t : Nat) (rs : List Rat) (m : Meas) (k : Nat) : Meas :=
  let r := rs.getD k 0
  if m.ntcOut.getD k false then { m with ntc := m.ntc.set k 0x20000 }
  else if ratioOk r then { m with ntc := m.ntc.set k (ntcCodeOf t r), ntcBad := m.ntcBad.set k 0 }
  else { m with ntc := m.ntc.set k 0x20000, ntcBad := m.ntcBad.modify k (· + 1) }

/-- SAMPLING_INSTANT (R28, R164, R171): the tick at S is taken for the meld and the NTC inputs convert. -/
def execSamplingInstant (ntc : List Rat) (s : State) : Host.Outcome State Fault Refusal :=
  .next <|
    if s.running && s.meas.aperture then
      s.updMeas fun m =>
        (List.range s.cfg.ntcCount).foldl (takeNtc s.cfg.ntcType ntc) { m with sampledAt := s.now, accAtS := m.acc }
    else s

/-- Beyond the range of the current code (R173). -/
def currentSaturates (x : Int) : Bool := 131071 < x || x < -131072

/-- ACCUMULATOR_TICK (R171, R173): the zero-corrected mean of 250 µs joins the 48-bit accumulator. -/
def execAccumulatorTick (mean : Int) (s : State) : Host.Outcome State Fault Refusal :=
  .next <|
    if s.running && s.currentOn then
      s.updMeas fun m =>
        { m with acc := m.acc + BitVec.ofInt 48 (clampI (-131072) 131071 mean - m.zero),
                 tickOver := m.tickOver || currentSaturates mean }
    else s

/-! ### Breaches -/

/-- A breach (R166, R202, R498, R518): the Dealer trips; another device sends a TRUMP, unless its bit is clear (R290), and a
String Head opens its string. The fatal state sends nothing of its own (Table 16-8). -/
def State.breach (s : State) (cause item : Nat) (reading limit : Int) (lock : Option Nat) : State :=
  if s.dev.fatal then s
  else if s.isDealer then s.trip lock
  else
    let s := if s.isHead then s.headOpens else s
    if s.ring.bitSet then
      s.sendTrumpWords (trumpWords cause item 0 (satCode reading) (summaryWord s.faults) (satCode limit))
    else s

/-- Checks codes against limits: the most adverse breach of the upper limit, else of the lower. -/
def State.checkCodes (s : State) (lim : Int × Int) (cs : List Int) (hi item : Nat) (lockHi lockLo : Option Nat) : State :=
  match breachHi lim cs with
  | some c => s.breach hi item c lim.2 lockHi
  | none =>
    match breachLo lim cs with
    | some c => s.breach (hi + 1) item c lim.1 lockLo
    | none => s

/-- The cell checks of one deal (R166, R167). -/
def State.checkCells (s : State) : State :=
  match s.cfg.profile with
  | none => s
  | some p =>
    (List.range s.cfg.cells).foldl (fun t k =>
      t.checkCodes (tripCodes p)
        (checkedCodes (s.cellState k).code (codeOf (s.meas.primary.getD k 0)) (codeOf (s.meas.diverse.getD k 0)))
        1 (k + 1) (some 1) (some 1)) s

/-- The NTC checks of one deal (R176, R422): only readings inside the thresholds of inputs free of the fault. -/
def State.checkNtc (s : State) : State :=
  match s.cfg.profile with
  | none => s
  | some p =>
    (List.range s.cfg.ntcCount).foldl (fun t k =>
      let c := s.meas.ntc.getD k 0x20000
      if c = 0x20000 ∨ s.meas.ntcOut.getD k false then t
      else t.checkCodes (tripTempCodes p) [codeOf c] 5 (k + 1) (some 2) none) s

/-! ### Cells -/

/-- The primary converter of a cell is under test in this deal (slices 1 to 3). -/
def primaryTaken (taken k : Nat) : Bool := 1 ≤ taken && taken ≤ 3 && k / 6 = taken - 1

/-- The diverse converter of a cell is under test in this deal (slices 4 and 5). -/
def diverseTaken (taken k : Nat) : Bool := taken = 4 && k < 9 || taken = 5 && 9 ≤ k

/-- The 18-bit code of a raw diverse value (R158). -/
def diverseCode (raw : Int) : Word := satCode (clampI (-8192) 8191 raw * 16)

/-- Primary and diverse disagree: |d| above 300 (R165). -/
def codesDisagree (p d : Word) : Bool := 300 < (codeOf p - codeOf d).natAbs

/-- The reversal of a cell with its primary code (R160). -/
def revNext (was : Bool) (c : Int) : Bool := if c < -200 then true else if -100 < c then false else was

/-- The state of Table 6-3 by rank. -/
def cellStateOf (opened mismatch disagree saturated divsub nocmp rev : Bool) : CellState :=
  if opened then .open
  else if mismatch then .mismatch
  else if disagree then .disagree
  else if saturated then .ovr
  else if divsub then .divsub
  else if nocmp then .nocmp
  else if rev then .rev
  else .ok

/-- DIV bits of a cell: 0 and 2 for cells 1 to 9, 1 and 3 for the others (Table 16-2). -/
def divBit (k base : Nat) : Nat := base + if k < 9 then 0 else 1

/-- The reading of one cell (R157 to R160, R165): codes, agreement and state. Where one converter is under test the one
code that exists stands for both (R254). -/
def State.takeCell (r : ApertureReadings) (s : State) (k : Nat) : State :=
  let t1 := primaryTaken s.bist.taken k
  let t2 := diverseTaken s.bist.taken k
  let raw := r.primary.getD k 0
  let p := if t1 then diverseCode (r.diverse.getD k 0) else satCode raw
  let d := if t2 then satCode raw else diverseCode (r.diverse.getD k 0)
  let bad := !t1 && !t2 && codesDisagree p d
  let second := bad && s.meas.disagree.getD k false && !(s.meas.mismatch.getD k false)
  let rev := if t1 then s.meas.rev.getD k false else revNext (s.meas.rev.getD k false) (codeOf p)
  let mis := s.meas.mismatch.getD k false || second
  let past := !t1 && currentSaturates raw
  let s := s.updMeas fun m =>
    { m with primary := m.primary.set k p
             diverse := m.diverse.set k d
             disagree := if t1 || t2 then m.disagree else m.disagree.set k bad
             mismatch := m.mismatch.set k mis
             rev := m.rev.set k rev
             cells := m.cells.set k (cellStateOf (m.opened.getD k false) mis bad past t1 t2 rev) }
  (s.raiseIf bad .div (divBit k 0)).raiseIf second .div (divBit k 2)

/-! ### Plausibility -/

/-- Consecutive deviations of REFP beyond ±0.5 % (R178); the second is of class F. -/
def refpNext (n : Nat) (ppm : Int) : Nat := if 5000 < ppm.natAbs then n + 1 else 0

/-- DV-B is powered (Table 6-4). -/
def State.dvB (s : State) : Bool := 10 ≤ s.cfg.cells

/-- The REFP check (R178); a converter under test holds its count. -/
def State.checkRefp (s : State) (r : ApertureReadings) : State :=
  let a := if s.bist.taken = 4 then s.meas.refpA else refpNext s.meas.refpA r.refpA
  let b := if s.bist.taken = 5 || !s.dvB then s.meas.refpB else refpNext s.meas.refpB r.refpB
  let hit := a = 2 && s.meas.refpA ≠ 2 || b = 2 && s.meas.refpB ≠ 2
  (s.updMeas fun m => { m with refpA := a, refpB := b }).raiseIf hit .meas 6

/-- The stack-sum check (R179): 32 × the VMOD/32 code against the sum of the primary codes, 1 % of the sum plus 0.2 V. A
deal with a converter under test holds the count. -/
def State.checkStack (s : State) : State :=
  if s.bist.taken ≠ 0 then s
  else
    let sum := ((List.range s.cfg.cells).map fun k => codeOf (s.meas.primary.getD k 0)).sum
    let bad : Bool := sum + 400000 < 100 * ((32 * codeOf s.meas.vmod - sum).natAbs : Int)
    let n := if bad then s.meas.stack + 1 else 0
    (s.updMeas fun m => { m with stack := n }).raiseIf (n = 2) .meas 3

/-- A die sensor can be read in this deal: its converter is powered and not under test (Table 6-4). -/
def State.dieReadable (s : State) (i : Nat) : Bool :=
  if i < 2 || !s.dvB then s.bist.taken ≠ 4 else s.bist.taken ≠ 5

/-- The die-sensor check (R177): 15 °C from the median of the admitted sensors on two deals in a row excludes; the die
temperature is the highest admitted reading. -/
def State.checkDie (s : State) (r : ApertureReadings) : State :=
  let now := (List.range 4).filter fun i => s.dieReadable i && !(s.meas.dieOut.getD i false)
  let val (i : Nat) : Int := codeOf (satCode (r.die.getD i 0))
  let mid := medianOf (now.map fun i => (val i : Rat))
  let s := now.foldl (fun t i =>
    let far : Bool := 15 * 1024 < absR ((val i : Rat) - mid)
    let n := if far then t.meas.dieBad.getD i 0 + 1 else 0
    let t := t.updMeas fun m => { m with dieBad := m.dieBad.set i n, dieOut := m.dieOut.set i (2 ≤ n) }
    t.raiseIf (2 ≤ n) .therm 1) s
  let left := (now.filter fun i => !(s.meas.dieOut.getD i false)).map val
  s.updMeas fun m => { m with die := (left.max?.map satCode).getD m.die }

/-- A tripped comparator of R380 has released: its sensor, read in this deal, is below 150 °C. -/
def State.releaseComparators (s : State) (r : ApertureReadings) : State :=
  s.updBalance fun b =>
    { b with comparators := b.comparators.mapIdx fun i c => c && !(s.dieReadable i && r.die.getD i 0 < 150 * 1024) }

/-- NTC faults found at the close (R176): excluded until reset. -/
def State.faultNtc (s : State) : State :=
  (List.range s.cfg.ntcCount).foldl (fun t k =>
    if 2 ≤ t.meas.ntcBad.getD k 0 && !(t.meas.ntcOut.getD k false) then
      (t.updMeas fun m => { m with ntcOut := m.ntcOut.set k true }).raise .meas 5
    else t) s

/-- Mean of the window. -/
def meanI (xs : List Int) : Rat := (xs.sum : Rat) / xs.length

/-- The deal's current code, overrange and offset sample (R169, R172, R173). -/
def State.takeCurrent (s : State) (x : Int) : State :=
  if !s.currentOn then s
  else
    let past := currentSaturates x || s.meas.tickOver
    let raw := clampI (-131072) 131071 x
    let quiet := s.meas.offSince.any fun t => s.passed t 2000
    let win := if quiet then (s.meas.offsets ++ [raw]).drop (s.meas.offsets.length - 15) else []
    let full := win.length = 16
    let far : Bool := full && 131 < absR (meanI win)
    let hit := far && !s.meas.curInvalid
    let s := s.updMeas fun m =>
      { m with current := satCode (raw - m.zero), overrange := past, tickOver := false, offsets := win
               zero := if full then roundQ (meanI win) else m.zero
               curInvalid := m.curInvalid || far }
    (s.raiseIf past .meas 1).raiseIf hit .meas 4

/-! ### Meld assembly -/

/-- Cell states and codes of the populated cells. -/
def State.partCells (s : State) : List Word × List Nat × List Word :=
  let ks := List.range s.cfg.cells
  let sts := ks.map fun k => (s.cellState k).code
  (ks.map fun k => s.meas.primary.getD k 0, sts,
    (ks.filter fun k => (s.cellState k).code = 5 || (s.cellState k).code = 6).map fun k => s.meas.diverse.getD k 0)

/-- The aperture lay on no locked clock (Table 9-10). -/
def State.unsynced (s : State) : Bool := s.ring.unsync || (!s.isDealer && !s.clocks.locked && !s.clocks.holding)

/-- The sampling instant was a predicted one that no beacon on the primary side has confirmed (chapter 01, section 7), or
R286 flagged it. -/
def State.predicted (s : State) : Bool :=
  s.ring.pred || !s.isDealer && !(s.ring.gotPrimary && s.ring.deal == s.meas.deal)

/-- Part A (Table 9-10, R254). -/
def State.partA (s : State) : List Word :=
  let curp := s.currentOn
  let w0 := word (flag 15 s.settling + flag 14 s.predicted + flag 13 s.unsynced + flag 12 curp + flag 11 (curp && s.meas.overrange) +
    flag 10 (curp && s.meas.curInvalid) + flag 9 s.strapFault + flag 8 s.straps.mismatch + flag 7 (s.ring.primary = .s) +
    flag 6 s.ring.firstMeld + s.cfg.cells)
  let c := s.partCells
  [w0, summaryWord s.faults] ++ statusWords s.faults ++ (if s.ring.firstMeld then [s.ring.causeWord] else []) ++
    c.1 ++ packStates c.2.1 ++ c.2.2 ++ (if curp then s.meas.current :: words16 3 s.meas.accAtS.toNat else [])

/-- JA and JB of a finished job (Table 9-12). -/
def FinishedJob.words (j : FinishedJob) : List Word :=
  [word ((j.cell + 1) * 2 ^ 13 + unitCode j.unit * 2 ^ 11 + j.seconds * 2 ^ 5), word j.energy]

/-- Throttle records due, by the rank of R376, each with whether it is final. -/
def State.throttleDue (s : State) : List (Nat × Nat × Bool) :=
  (throttleRank.flatMap fun r =>
    ((s.balance.finals.filter (·.1 = r)).map fun f => (f.1, f.2, true)) ++
      ((s.balance.episodes.filter (·.reason = r)).map fun e => (r, episodeUnits e.start (e.outAt.getD s.now), false))).take 2

/-- The management section (Table 9-12). -/
def State.management (s : State) : List Word :=
  let js := s.balance.finished.take 2
  let ts := s.throttleDue
  let fan := !s.isHand && !s.bist.fenced.contains 22
  let act := match s.activeJob with
    | some j => (if j.discharge then 2 else 1) * 2 ^ 16 + (j.cell + 1) * 2 ^ 11
    | none => 0
  [word (js.length * 2 ^ 16 + ts.length * 2 ^ 14 + flag 13 fan)] ++ words16 2 s.keeper.energy.toNat ++
    [word (((List.range 18).map fun k => flag k (s.balance.closed.getD k false)).sum), word act] ++
    js.flatMap FinishedJob.words ++ (ts.map fun t => word (t.1 * 2 ^ 14 + t.2.1)) ++ (if fan then [s.fanWord] else [])

/-- Assigned probe slots. -/
def State.assignedSlots (s : State) : List Slot := if s.cfg.probeWire then s.probes.slots.filter (·.assigned) else []

/-- The code a slot reports (R203, Table 7-5). -/
def Slot.published (x : Slot) : Word := if x.state = .lost || !x.hasValue then 0 else x.code

/-- Part B (Table 9-11, R255) with the die and VMOD words to publish; a failed core clears MGT (R13). -/
def State.partB (s : State) (die vmod : Word) : List Word :=
  let ps := s.assignedSlots
  [word (2 ^ 16 + ps.length * 2 ^ 11 + s.cfg.ntcCount * 2 ^ 7 + flag 6 s.core)] ++ ps.map Slot.published ++
    packProbes (ps.map fun p => p.state.code) ++ s.meas.ntc.take s.cfg.ntcCount ++ [die, vmod] ++
    if s.core then s.management else []

/-- What a sent meld uses up: jobs, final records, one-time flags, a SETTLING meld (R291, R373, R376). -/
def State.meldSent (s : State) : State :=
  let used := (s.throttleDue.filter (·.2.2)).map fun t => (t.1, t.2.1)
  let s := if s.core then
      s.updBalance fun b => { b with finished := b.finished.drop 2, finals := used.foldl (fun fs u => fs.erase u) b.finals }
    else s
  s.updRing fun r => { r with firstMeld := false, pred := false, unsync := false, settle := r.settle - 1 }

/-- A Hand sends melds: in service, its bit set, not in the fatal state (R253, R290, R306, Table 16-8). -/
def State.melds (s : State) : Bool :=
  !s.isDealer && s.deals && s.ring.admitted && s.ring.bitSet && !s.dev.fatal

/-- Assembles the meld of the deal and queues it on the primary side (R253, R263); the Dealer keeps its own. -/
def State.assemble (s : State) (die vmod : Word) : State :=
  let a := s.partA
  let b := s.partB die vmod
  if s.isDealer then (s.updPos 0 fun p => { p with partA := some a, partB := some b }).meldSent
  else if s.melds then
    let f (ws : List Word) : TxFrame := { s.ownFrame s.ring.primary .meld ws with deal := s.meas.deal }
    ((s.queue s.ring.primary (f a)).queue s.ring.primary (f b)).meldSent
  else s

/-! ### Legacy melds of a translator -/

/-- An L1 device of the tail: one that has answered, or that the seal counts (Table 3-13). `i` is the address less 1. -/
def State.l1Known (s : State) (i : Nat) : Bool :=
  (s.dealer.l1.getD i L1Device.none).present || i < ((s.nv.active.map (·.l1Count.toNat)).getD 0)

/-- The legacy meld of device `i`: what its last reply gave, or VALID clear (R256). -/
def State.legacyWords (s : State) (i : Nat) : List Word :=
  ((s.dealer.l1.getD i L1Device.none).next).getD [word (2 * 2 ^ 16 + (i + 1) * 2 ^ 12)]

/-- The results of deal n − 1 travel with the melds of deal n (R235, R253, R256). -/
def State.legacyMelds (s : State) : State :=
  if s.cfg.genN ≠ .l1 then s
  else
    (List.range 15).foldl (fun t i =>
      if !t.l1Known i then t
      else
        let ws := t.legacyWords i
        let t := t.updDealer fun d => { d with l1 := d.l1.modify i fun x => { x with meld := some ws, next := none } }
        if t.melds then t.queue t.ring.primary { t.ownFrame t.ring.primary .meld ws with deal := t.meas.deal } else t) s

/-- The die and VMOD words of a deal: a converter under test leaves a word that the manual does not state (log 5). -/
def State.publishedWord (s : State) (readable : Bool) (w : Word) : Word × State :=
  if readable then (w, s) else s.drawWord

/-- The readings of the aperture with every check of the supervisor (Table 6-5). -/
def State.takeReadings (s : State) (r : ApertureReadings) : State :=
  let s := s.updMeas fun m => { m with aperture := false, vmod := if s.bist.taken = 4 then m.vmod else satCode r.vmod32 }
  let s := (List.range s.cfg.cells).foldl (State.takeCell r) s
  let s := (s.takeCurrent r.current).faultNtc
  let s := s.checkCells.checkNtc
  let s := (s.checkStack.checkRefp r).checkDie r
  let s := s.releaseComparators r
  let s := s.endJobs fun j => (s.cellState j.cell).refused
  s.updDev fun d => { d with lastService := s.now }

/-- Starts the open sense-wire test of a test deal (R180, R181), or ends the passive pause (R154). -/
def State.afterAperture (s : State) : State :=
  if s.wireTestDeal s.meas.deal then
    (s.updMeas fun m => { m with testDeal := true, testRepeat := false }).updBalance gatesOff
  else s.updMeas fun m => { m with pause := false }

/-- APERTURE_CLOSE (R165 to R167, R172, R177 to R181, R254, R255, R482). -/
def execApertureClose (r : ApertureReadings) (s : State) : Host.Outcome State Fault Refusal :=
  .next <|
    if s.running && s.meas.aperture then
      let dieOk := (List.range 4).any fun i => s.dieReadable i && !(s.meas.dieOut.getD i false)
      let vmodOk := s.bist.taken ≠ 4
      let s := s.takeReadings r
      let (die, s) := s.publishedWord dieOk s.meas.die
      let (vmod, s) := s.publishedWord vmodOk s.meas.vmod
      let s := (s.assemble die vmod).legacyMelds.updBist fun b => { b with taken := 0 }
      s.afterAperture
    else s

/-! ### Open sense-wire test -/

/-- The cell tests positive: more than 200 mV below its pre-test reading (R182). -/
def testsPositive (pre inTest : List Int) (k : Nat) : Bool := 4000 < pre.getD k 0 - inTest.getD k 0

/-- A cell that did not test positive fails the recovery check of 15 mV (R183). -/
def recoveryFails (pre inTest recovery : List Int) (k : Nat) : Bool :=
  !testsPositive pre inTest k && 300 < (recovery.getD k 0 - pre.getD k 0).natAbs

/-- One cell of a test that yields results (R182). -/
def State.wireResult (pre inTest : List Int) (s : State) (k : Nat) : State :=
  let pos := testsPositive pre inTest k
  let pend := s.meas.openPend.getD k false
  if s.meas.opened.getD k false then s
  else if pos && pend then
    ((s.updMeas fun m =>
      { m with opened := m.opened.set k true, openPend := m.openPend.set k false, cells := m.cells.set k .open }).raise .meas 2).endJobs
        fun j => j.cell = k
  else if pos then s.updMeas fun m => { m with openPend := m.openPend.set k true, testRepeat := true }
  else if pend then (s.updMeas fun m => { m with openPend := m.openPend.set k false }).raise .meas 0
  else s

/-- OPEN_WIRE_TEST_END (R154, R181 to R183): the pauses end; a recovery outside 15 mV discards the results and repeats the
test, else each cell is judged. -/
def execOpenWireTestEnd (pre inTest recovery : List Int) (s : State) : Host.Outcome State Fault Refusal :=
  let ks := List.range s.cfg.cells
  .next <|
    if !(s.running && s.meas.testDeal) then s
    else
      let s := s.updMeas fun m => { m with testDeal := false, pause := false }
      if ks.any (recoveryFails pre inTest recovery) then (s.updMeas fun m => { m with testRepeat := true }).raise .meas 0
      else ks.foldl (State.wireResult pre inTest) s

/-! ### Live strap reads -/

/-- One pin of a live read (R76, R77). -/
def State.liveRead (rho : List Rat) (s : State) (i : Nat) : State :=
  if strapInvalid s.straps.latched i then s
  else if decodeLevel (rho.getD i 0) = s.straps.latched.getD i none then
    s.updStraps fun t => { t with misses := t.misses.set i 0 }
  else
    let n := s.straps.misses.getD i 0 + 1
    ((s.updStraps fun t => { t with misses := t.misses.set i n }).raise .strap 0).raiseIf (n = 3) .strap 1

/-- STRAP_LIVE_READ (R59, R76 to R78): latched levels stay. -/
def execStrapLiveRead (rho : List Rat) (s : State) : Host.Outcome State Fault Refusal :=
  .next <| if s.running && s.dev.strapped && !s.dev.offTest then (List.range 13).foldl (State.liveRead rho) s else s

end Sys2Proof.Machine
end

