-- ==== Sys2Proof/Machine/Lifeline.lean ====
section
/-!
DEFINITION. Harvester, feed carrier and LIFELINE reports (05_keeper_storage_lifeline.md, section 4): the side of the device
that feeds a neighbour and the side of the device that reports. The Dealer's side of a report is in Receive.lean.
-/
namespace Sys2Proof.Machine

/-! ### Harvester -/

/-- STEP_UP_START (R132): 1.2 V at the limiter's source with VMOD below 7 V. -/
def execStepUpStart (limiterMv vmodMv : Nat) (s : State) : Host.Outcome State Fault Refusal :=
  .next <| if vmodMv < 7000 && 1200 ≤ limiterMv then s.updLife fun l => { l with stepUp := true, full := false } else s

/-- STEP_UP_STOP (R132): below 1.0 V, or VMOD at 7 V. -/
def execStepUpStop (s : State) : Host.Outcome State Fault Refusal :=
  .next <| s.updLife fun l => { l with stepUp := false }

/-- FRACTIONAL_REGULATION_START (R132, R134): LFS at 2.0 V, from where the harvester controller regulates each source. -/
def execFractionalRegulationStart (s : State) : Host.Outcome State Fault Refusal :=
  .next <| s.updLife fun l => { l with regulated := true, full := false }

/-- OPEN_CIRCUIT_SAMPLE (R134): the source is then held at 70 % of the sample. -/
def execOpenCircuitSample (source : HarvestSource) (mv : Nat) (s : State) : Host.Outcome State Fault Refusal :=
  .next <| s.updLife fun l =>
    if !l.regulated then l
    else
      match source with
      | .stepUp => { l with pointUp := mv * 7 }
      | .rectifier .n => { l with pointN := mv * 7 }
      | .rectifier .s => { l with pointS := mv * 7 }

/-- HARVESTER_STOP (R135): LFS has reached its stop voltage. -/
def execHarvesterStop (s : State) : Host.Outcome State Fault Refusal :=
  .next <| s.updLife fun l => { l with full := true }

/-- A wake carrier on one port strapped Chain-A or Chain-B (R143, R225). -/
def State.carrierOut (s : State) (p : Port) (g : Gen) (arriving : Bool) : State :=
  if (g = .a || g = .b) && !arriving then s.updPort p fun q => { q with line := [.wakeCarrier] } else s

/-- POWER_GOOD_ON (R136, R143): a device in STORAGE that has noted a carrier, with VMOD too low to boot, relays a wake
carrier and enters LIFELINE. -/
def execPowerGoodOn (vmodOk carrierN carrierS : Bool) (s : State) : Host.Outcome State Fault Refusal :=
  .next <|
    let s := s.updLife fun l => { l with good := true }
    let noted := s.portN.carrierSeen || s.portS.carrierSeen
    if (s.dev.phase = .storage || s.dev.phase = .off) && !vmodOk && noted then
      let c := s.kept
      (s.enterLifeline.carrierOut .n c.genN carrierN).carrierOut .s c.genS carrierS
    else s

/-- POWER_GOOD_OFF (R136, Table 4-2): LIFELINE ends in OFF; a report not yet sent is abandoned. -/
def execPowerGoodOff (s : State) : Host.Outcome State Fault Refusal :=
  .next <|
    let s := s.updLife fun l => { l with good := false, full := false, heldBack := false }
    if s.dev.phase = .lifeline then s.powerDown .off else s

/-! ### Feeding a neighbour -/

/-- Starts a feed on a port: three markers (R232), then the tone. The lowest state holds it back (R141). -/
def State.startFeed (s : State) (p : Port) : State :=
  if s.supply.lowest then s.updPort p fun q => { q with feed := { Feed.off with suspended := true } }
  else
    s.updPort p fun q =>
      { q with feed := { Feed.off with active := true },
               line := [.control .marker, .control .marker, .control .marker, .feedCarrier] }

/-- A port on which a feed is allowed: Chain-A, link down, the device in RUN (R138, R231, R232). -/
def State.mayFeed (s : State) (p : Port) : Bool := s.running && s.gen p = .a && !(s.port p).up && !s.dev.offTest

/-- FEED_CARRIER_START (R138): no symbol for 1 s. -/
def execFeedCarrierStart (port : Port) (s : State) : Host.Outcome State Fault Refusal :=
  let f := (s.port port).feed
  .next <| if s.mayFeed port && !f.active && !f.suspended && !f.waiting then s.startFeed port else s

/-- FEED_LISTEN_WINDOW (R139): the cycle toggles between tone and listen window. -/
def execFeedListenWindow (port : Port) (s : State) : Host.Outcome State Fault Refusal :=
  .next <| s.updPort port fun q =>
    if q.feed.active then
      { q with feed := { q.feed with listening := !q.feed.listening }, line := if q.feed.listening then [.feedCarrier] else [] }
    else q

/-- FEED_TIMEOUT (R140): 60 s without a LIFELINE frame, or 30 s after one: the feed stops until its retry. -/
def execFeedTimeout (port : Port) (s : State) : Host.Outcome State Fault Refusal :=
  .next <| s.updPort port fun q =>
    if q.feed.active || q.feed.suspended then { q with feed := { Feed.off with waiting := true }, line := [] } else q

/-- FEED_RETRY (R140): once every 600 s. -/
def execFeedRetry (port : Port) (s : State) : Host.Outcome State Fault Refusal :=
  .next <| if s.mayFeed port && (s.port port).feed.waiting then s.startFeed port else s

/-! ### Reporting -/

/-- Position of the device in its active seal (Table 5-4). -/
def State.sealedPosition (s : State) : Option Nat :=
  s.nv.active.bind fun r => r.entries.findIdx? (·.factory = Config.factoryNumber)

/-- Populated cells, from the fingerprint in flash, else from the straps the keeper holds (R146). -/
def State.lifelineCells (s : State) : Nat :=
  match s.ownEntry with
  | some e => if printLevel e.fingerprint 1 ≤ 13 then printLevel e.fingerprint 1 + 5 else 18
  | none => s.kept.cells

/-- A voltage in mV as a cell code (R156, R260). -/
def mvCode (mv : Nat) : Word := satCode (20 * (mv : Int))

/-- Payload of a LIFELINE frame (R260), `count` frames having been sent with it. -/
def State.lifelineWords (s : State) (r : LifelineReadings) (count : Nat) : List Word :=
  let n := s.lifelineCells
  words16 4 Config.factoryNumber.toNat ++ [s.sealNumber, word (sat 0x3FFFF count)] ++ words16 2 s.seconds.toNat ++
    [mvCode r.lfsMv, mvCode r.vmodMv,
      word (flag 17 (s.life.stepUp && !s.life.full) + flag 16 r.carrierN + flag 15 r.carrierS + flag 14 s.keeper.lockout + n * 2 ^ 9)] ++
    ((List.range n).map fun k => diverseCode (r.diverse.getD k 0)) ++ [satCode r.die, statusOf s.faults .keeper]

/-- The generation the kept straps give a port. -/
def keptGen (c : InForce) : Port → Gen
  | .n => c.genN
  | .s => c.genS

/-- The last report has gone without acknowledgement; the third in a row changes the port (R146, R147). -/
def State.countUnacked (s : State) : State :=
  if !s.life.awaiting then s
  else
    let n := s.life.unacked + 1
    let swap := 3 ≤ n && (keptGen s.kept s.life.port.other).ring
    s.updLife fun l =>
      { l with awaiting := false, unacked := if 3 ≤ n then 0 else n, unackedAll := l.unackedAll + 1,
               port := if swap then l.port.other else l.port }

/-- Sends the report (R146, R147): once, on the port of R147. A device without a seal entry has no position to write, and
the manual states none for it (log 5). -/
def State.sendReport (s : State) (r : LifelineReadings) : State :=
  let s := s.countUnacked
  let p := s.life.port
  if !(keptGen s.kept p).ring then s
  else
    let n := s.life.reports + 1
    let (w, s) := match s.sealedPosition with
      | some i => (word i, s)
      | none => s.drawWord
    let f : TxFrame :=
      { ftype := .lifeline, src := w.setWidth 6, side := p, deal := 0, hop := 1, payload := s.lifelineWords r n, slot := none }
    (s.updPort p fun q => { q with line := [.frame f q.txSeq], txSeq := q.txSeq + 1 }).updLife fun l =>
      { l with reports := n, awaiting := true, heldBack := false }

/-- LIFELINE_REPORT (R145, R146): a Dealer sends none; below 3.6 V the report waits. -/
def execLifelineReport (r : LifelineReadings) (s : State) : Host.Outcome State Fault Refusal :=
  .next <|
    if s.dev.phase ≠ .lifeline || s.kept.role = .dealer then s
    else if r.lfsMv < 3600 then s.updLife fun l => { l with heldBack := true }
    else s.sendReport r

/-- LFS_REACHES_3V6 (R146): the report that waited leaves. -/
def execLfsReaches3v6 (r : LifelineReadings) (s : State) : Host.Outcome State Fault Refusal :=
  .next <| if s.dev.phase = .lifeline && s.life.heldBack then s.sendReport r else s

/-- LIFELINE_STALE (R151): 30 s without a frame of a position. -/
def execLifelineStale (position : BitVec 6) (s : State) : Host.Outcome State Fault Refusal :=
  .next <|
    if s.isDealer then
      s.updPos position.toNat fun p => { p with lifeline := p.lifeline.map fun d => { d with stale := true } }
    else s

end Sys2Proof.Machine
end

