-- ==== Sys2Proof/Machine/Probes.lean ====
section
/-!
DEFINITION. The probe wire (chapter 07): discovery and census, the frame of each deal, loss and return of probes, and the
storage watch (chapter 05, section 2), which reads probes as well.
-/
namespace Sys2Proof.Machine

/-! ### Identities and slot words -/

/-- CRC-8 of a probe identity (07_probe_wire.md, section 3.1). -/
def identCrc (x : ProbeId) : Byte := (bitsOf (x.extractLsb' 8 48)).foldl (crcBit 0x07) 0x00

/-- An identity that passes its CRC-8 and carries the product code 0xA3 (R192). -/
def identOk (x : ProbeId) : Bool := identCrc x == x.extractLsb' 0 8 && x.extractLsb' 48 8 == 0xA3

/-- Fields of a slot word (Table 7-4). -/
def slotTemp (w : BitVec 32) : Word := w.extractLsb' 10 18
def slotStatus (w : BitVec 32) : Nat := (w.extractLsb' 8 2).toNat

/-- CRC-8 of a slot word (Table 7-4). -/
def slotCrc (w : BitVec 32) : Byte := (bitsOf (w.extractLsb' 8 24)).foldl (crcBit 0x31) 0x00

/-- A good slot word of slot `k` (R201). -/
def slotGood (k : Nat) (first : Bool) (w : BitVec 32) : Bool :=
  slotCrc w == w.extractLsb' 0 8 && (w.extractLsb' 28 4).toNat == k && (slotStatus w == 0 || first && slotStatus w == 1)

/-! ### Discovery -/

/-- A slot of the state. -/
def State.slot (s : State) (k : Nat) : Slot := s.probes.slots.getD k Slot.empty

/-- Changes a slot. -/
def State.updSlot (s : State) (k : Nat) (f : Slot → Slot) : State :=
  s.updProbes fun p => { p with slots := p.slots.modify k f }

/-- The slot of a probe that has just been assigned to it. -/
def assignedSlot (id : ProbeId) (barred : Bool) : Slot :=
  { Slot.empty with ident := some id, assigned := true, state := if barred then .excluded else .stale, first := true, barred := barred }

/-- The slots a census reserves, all LOST until their probe is found (R195). -/
def reservedSlots (census : Option (List ProbeId)) : List Slot :=
  (List.range 16).map fun k => if k < (census.getD []).length then { Slot.empty with assigned := true } else Slot.empty

/-- The first slot from `lo` on that is neither held nor reserved (R197). -/
def State.freeSlot? (s : State) (lo : Nat) : Option Nat := (List.range 16).find? fun k => lo ≤ k && !(s.slot k).assigned

/-- Parks an identity with its event (R192, R197). -/
def State.park (s : State) (id : ProbeId) (bitNo : Nat) : State :=
  (s.updProbes fun p => { p with parked := p.parked ++ [id] }).raise .probe bitNo

/-- One pass: the winner's identity is parked or given its slot (R192, R195 to R197). -/
def State.probePass (s : State) (id : ProbeId) : State :=
  if !identOk id then s.park id 2
  else
    match s.nv.census with
    | some c =>
      let i := c.idxOf id
      if i < c.length then
        if (s.slot i).ident.isNone then s.updSlot i fun _ => assignedSlot id false else s.park id 6
      else
        match s.freeSlot? c.length with
        | some k => (s.updSlot k fun _ => assignedSlot id true).raise .probe 1
        | none => s.park id 6
    | none =>
      match s.freeSlot? 0 with
      | some k => s.updSlot k fun _ => assignedSlot id s.nv.active.isSome
      | none => s.park id 6

/-- Census entries that no pass found (R191, R195), and a sealed device without a readable census (R196). -/
def State.censusMissing (s : State) : State :=
  match s.nv.census with
  | some c => (List.range c.length).foldl (fun t k => if (s.slot k).ident.isNone then t.raise .probe 5 else t) s
  | none => s.raiseIf s.nv.active.isSome .probe 5

/-- PROBE_DISCOVERY (R191 to R197): CLEAR, then the passes; 32 passes without an empty start cell are a discovery
fault. -/
def execProbeDiscovery (passes : List ProbeId) (endedEmpty : Bool) (s : State) : Host.Outcome State Fault Refusal :=
  .next <|
    if !(s.awake && s.probes.power && !s.probes.found) then s
    else
      let s := s.updProbes fun p => { p with found := true, slots := reservedSlots s.nv.census, parked := [] }
      let s := (passes.take 32).foldl State.probePass s
      let s := s.raiseIf (!endedEmpty || 32 ≤ passes.length) .probe 7
      s.censusMissing.probeRecords

/-- Every slot LOST and PWVDD off until reset (R206); a discovery under way ends. -/
def State.wireFails (s : State) : State :=
  if !(s.awake && s.probes.power) then s
  else
    let was := s.probes.found
    let s := s.updProbes fun p =>
      let slots := if was then p.slots else reservedSlots s.nv.census
      { p with power := false, failed := true, found := true, frame := false,
               slots := slots.map fun x => if x.assigned then { x with state := .lost } else x }
    let s := s.raise .probe 8
    if was then s else s.probeRecords

/-- PROBE_BUS_FAULT (R190, R206). -/
def execProbeBusFault (s : State) : Host.Outcome State Fault Refusal := .next s.wireFails

/-- PWVDD_LIMIT (R188, R206): PWVDD in current limit for 10 ms. -/
def execPwvddLimit (s : State) : Host.Outcome State Fault Refusal := .next s.wireFails

/-! ### The frame of a deal -/

/-- FRAME_TICK (R198, R199): the tick at S opens the frame. -/
def execFrameTick (s : State) : Host.Outcome State Fault Refusal :=
  .next <|
    if s.samples && s.probes.power && s.probes.found then
      s.updProbes fun p => { p with frame := true, slots := p.slots.map fun x => { x with judged := none, fresh := none } }
    else s

/-- SLOT_WORD (R200, R201): the word of a slot that holds a probe is judged; a miss counts unless the slot is LOST. -/
def execSlotWord (slot : Fin 16) (w : Option (BitVec 32)) (s : State) : Host.Outcome State Fault Refusal :=
  let k := slot.val
  let x := s.slot k
  .next <|
    if !(s.probes.frame && x.ident.isSome) then s
    else
      let good := w.any (slotGood k x.first)
      let fresh := if good then w.bind fun v => if slotStatus v = 0 then some (slotTemp v) else none else none
      (s.updSlot k fun y => { y with judged := some good, fresh := fresh }).raiseIf (!good && x.state ≠ .lost) .probe 0

/-- The slot after a miss (R203, R204). -/
def missSlot (x : Slot) : Slot :=
  if x.state = .lost then x
  else
    let n := x.misses + 1
    { x with misses := n, first := false,
             state := if 3 ≤ n then .lost else if x.barred then .excluded else .stale }

/-- The slot after a good word (R201, R203, R205). -/
def goodSlot (x : Slot) : Slot :=
  let barred := x.barred || x.state = .lost
  { x with misses := 0, first := false, barred := barred, code := x.fresh.getD x.code, hasValue := x.hasValue || x.fresh.isSome,
           state := if barred then .excluded else if x.fresh.isSome then .valid else .stale }

/-- One slot at the end of its frame (R204, R205); a slot whose word never came is a miss too. -/
def State.endSlot (s : State) (k : Nat) : State :=
  let x := s.slot k
  if x.ident.isNone then s
  else
    match x.judged with
    | some true => (s.updSlot k goodSlot).raiseIf (x.state = .lost) .probe 3
    | j =>
      let s := s.raiseIf (j.isNone && x.state ≠ .lost) .probe 0
      (s.updSlot k missSlot).raiseIf (x.state ≠ .lost && 3 ≤ x.misses + 1) .probe 4

/-- A slot admitted to safety decisions (Table 7-5). -/
def Slot.admitted (x : Slot) : Bool := x.state = .valid || x.state = .stale && x.hasValue

/-- The limit check of the frame (R202, R422). -/
def State.checkProbes (s : State) : State :=
  match s.cfg.profile with
  | none => s
  | some p =>
    (List.range 16).foldl (fun t k =>
      if (s.slot k).admitted then t.checkCodes (tripTempCodes p) [codeOf (s.slot k).code] 3 k (some 2) none else t) s

/-- PROBE_FRAME_END (R202 to R205). -/
def execProbeFrameEnd (s : State) : Host.Outcome State Fault Refusal :=
  .next <|
    if s.probes.frame then
      ((List.range 16).foldl State.endSlot (s.updProbes fun p => { p with frame := false })).checkProbes
    else s

/-! ### The storage watch -/

/-- The first of a list with the largest measure. -/
def argMax (f : Nat → Int) : List Nat → Option Nat
  | [] => none
  | k :: ks =>
    match argMax f ks with
    | none => some k
    | some j => if f j ≤ f k then some k else some j

/-- Whole degrees of a temperature code. -/
def degrees (c : Int) : Int := roundQ ((c : Rat) / 1024)

/-- A signed byte. -/
def signed8 (x : Int) : Byte := BitVec.ofInt 8 (clampI (-128) 127 x)

/-- A signed 18-bit code as a 24-bit field (R458). -/
def code24 (w : Word) : List Byte := bytesBE 3 (w.signExtend 24).toNat

/-- Temperatures of a watch with their sources (Table 15-9): listed probes with a good word, NTC inputs in range. -/
def watchTemps (c : InForce) (listed : List (Nat × ProbeId)) (r : WatchReadings) : List (Int × Nat) :=
  ((if c.probeWire then listed else []).filterMap fun e =>
      (r.probes.getD e.1 none).bind fun w => if slotGood e.1 false w then some (codeOf (slotTemp w), e.1) else none) ++
    (List.range c.ntcCount).filterMap fun k =>
      let q := r.ntc.getD k 0
      if ratioOk q then some (codeOf (ntcCodeOf c.ntcType q), 16 + k) else none

/-- A listed probe missed in the second frame (R209). -/
def watchAbsent (c : InForce) (listed : List (Nat × ProbeId)) (r : WatchReadings) : Bool :=
  c.probeWire && listed.any fun e => !((r.probes.getD e.1 none).any (slotGood e.1 false))

/-- What a watch found: limit, disagreement, temperature, open NTC, absent probe (R129, Table 18-5). -/
def watchFindings (c : InForce) (listed : List (Nat × ProbeId)) (r : WatchReadings) : List Bool :=
  let ks := List.range c.cells
  let p (k : Nat) : Word := satCode (r.primary.getD k 0)
  let d (k : Nat) : Word := diverseCode (r.diverse.getD k 0)
  let far (k : Nat) : Bool := codesDisagree (p k) (d k)
  let beyond (k : Nat) : Bool := c.profile.any fun l =>
    !withinTrip (tripCodes l) (checkedCodes (if far k then 5 else 0) (codeOf (p k)) (codeOf (d k)))
  [ks.any beyond, ks.any far, c.profile.any fun l => (watchTemps c listed r).any fun t => !withinTrip (tripTempCodes l) [t.1],
    (List.range c.ntcCount).any fun k => 99 < r.ntc.getD k 0 * 100, watchAbsent c listed r]

/-- The three payloads of Table 18-5. A watch without a temperature gives 0 and the source 0xFF. -/
def watchPayloads (c : InForce) (listed : List (Nat × ProbeId)) (energy : BitVec 32) (r : WatchReadings) : List (List Byte) :=
  let ks := List.range c.cells
  let p (k : Nat) : Word := satCode (r.primary.getD k 0)
  let diff (k : Nat) : Int := codeOf (p k) - codeOf (diverseCode (r.diverse.getD k 0))
  let found := watchFindings c listed r
  let bits := ((List.range 5).map fun i => flag (i + 1) (found.getD i false)).sum + flag 0 (found.any id)
  let lo := (argMax (fun k => -(codeOf (p k))) ks).getD 0
  let hi := (argMax (fun k => codeOf (p k)) ks).getD 0
  let df := (argMax (fun k => ((diff k).natAbs : Int)) ks).getD 0
  let ts := watchTemps c listed r
  let at_ (o : Option Nat) : List Byte :=
    match o.bind fun i => ts[i]? with
    | some t => [signed8 (degrees t.1), BitVec.ofNat 8 t.2]
    | none => [0, 0xFF]
  let is_ := List.range ts.length
  [bytesBE 2 (sat 0xFFFF (r.vmodMv / 10)) ++ bytesBE 4 energy.toNat ++ [signed8 (degrees r.die), BitVec.ofNat 8 bits],
    code24 (p lo) ++ [BitVec.ofNat 8 (lo + 1)] ++ code24 (p hi) ++ [BitVec.ofNat 8 (hi + 1)],
    bytesBE 2 (signed16 (diff df)) ++ [BitVec.ofNat 8 (df + 1)] ++ at_ (argMax (fun i => -((ts.getD i (0, 0)).1)) is_) ++
      at_ (argMax (fun i => (ts.getD i (0, 0)).1) is_)]

/-- Writes one record at once, with the erase that falls due (R534, R535). -/
def State.writeRecord (s : State) (t : Byte) (payload : List Byte) : State :=
  let s := s.putRecord { rtype := t, seconds := s.seconds, payload := payload }
  if s.logs.eraseDue then s.eraseSpare else s

/-- Buck start threshold of this part in mV, between the limits of Table 4-1 (log 12). -/
def buckStartMv : Nat := if Config.buckStart < 8200 then 8200 else if 8800 < Config.buckStart then 8800 else Config.buckStart

/-- STORAGE_WATCH (R126 to R129, R208, R209): skipped and counted with VMOD below the buck start threshold or the
slot-verified flag clear; else three records and, on a finding, the watch alarm. -/
def execStorageWatch (r : WatchReadings) (s : State) : Host.Outcome State Fault Refusal :=
  let c := s.kept
  .next <|
    if s.dev.phase ≠ .storage || c.watch.isNone then s
    else if r.vmodMv < buckStartMv || !s.keeper.slotVerified then s.updKeeper fun k => { k with skipped := k.skipped + 1 }
    else
      let ps := watchPayloads c s.nv.probeList s.keeper.energy r
      let alarm := (watchFindings c s.nv.probeList r).any id
      let s := ((s.writeRecord 0x0D (ps.getD 0 [])).writeRecord 0x0E (ps.getD 1 [])).writeRecord 0x0F (ps.getD 2 [])
      (s.updKeeper fun k => { k with watches := k.watches + 1, watchAlarm := k.watchAlarm || alarm }).updNv fun n =>
        { n with energy := s.keeper.energy }

end Sys2Proof.Machine
end

