-- ==== Sys2Proof/Machine/L1.lean ====
section
/-!
DEFINITION. The L1 legacy tail of a translator (08_ring_physical_layers.md, section 7): CONVERT, READ, the reply and its
conversion, and the loss of a device.
-/
namespace Sys2Proof.Machine

/-- A port strapped L1 in RUN. -/
def State.translates (s : State) : Bool := s.running && s.cfg.genN = .l1 && !s.dev.offTest

/-- L1_CONVERT (R234, R235): the broadcast at S. -/
def execL1Convert (s : State) : Host.Outcome State Fault Refusal :=
  .next <| if s.translates then s.updPort .n fun q => { q with line := [.l1 0x01 0x00] } else s

/-- L1_READ (R234, R235). -/
def execL1Read (addr : BitVec 4) (s : State) : Host.Outcome State Fault Refusal :=
  .next <| if s.translates && addr ≠ 0 then s.updPort .n fun q => { q with line := [.l1 0x02 (addr.setWidth 8)] } else s

/-- A reply of Table 8-5 that passes its CRC. -/
def l1ReplyOk (bs : List Byte) : Bool :=
  bs.length = 37 && bs.getD 0 0 == 0x5A && (crc16 (bs.take 35)).toNat == ofBytesBE (bs.drop 35)

/-- Populated cells of a reply with their numbers, as codes of R156: the L1 code × 2 (R236). -/
def l1Cells (bs : List Byte) : List (Nat × Int) :=
  (List.range 12).filterMap fun i =>
    let v := ofBytesBE ((bs.drop (2 + 2 * i)).take 2)
    if v = 0xFFFF then none else some (i + 1, ((2 * v : Nat) : Int))

/-- Temperature 0 or 1 of a reply as a code of R174, to the nearest (R236). -/
def l1Temp (bs : List Byte) (i : Nat) : Int :=
  roundNearest (((BitVec.ofNat 16 (ofBytesBE ((bs.drop (26 + 2 * i)).take 2))).toInt : Rat) * 1024 / 10)

/-- The legacy meld of a reply (R236, R256). -/
def l1Words (addr : Nat) (bs : List Byte) : List Word :=
  let cs := l1Cells bs
  [word (2 * 2 ^ 16 + addr * 2 ^ 12 + cs.length * 2 ^ 8 + (bs.getD 30 0).toNat % 16 * 2 ^ 4 + 2 ^ 3)] ++
    cs.map (fun c => satCode c.2) ++ [satCode (l1Temp bs 0), satCode (l1Temp bs 1)]

/-- An L1 breach (R237, R498): L1 cells and temperatures are no cells of the translator itself, so a String Head's outputs
stay (R518). -/
def State.breachL1 (s : State) (cause item addr : Nat) (reading limit : Int) (lock : Option Nat) : State :=
  if s.dev.fatal then s
  else if s.isDealer then s.trip lock
  else if s.ring.bitSet then
    s.sendTrumpWords (trumpWords cause item addr (satCode reading) (summaryWord s.faults) (satCode limit))
  else s

/-- Limit check of one L1 reading; `lo` is the cause of a breach of the lower limit. -/
def State.checkL1 (s : State) (lim : Int × Int) (c : Int) (hi lo item addr : Nat) (lockHi lockLo : Option Nat) : State :=
  if lim.2 < c then s.breachL1 hi item addr c lim.2 lockHi
  else if c < lim.1 then s.breachL1 lo item addr c lim.1 lockLo
  else s

/-- The limit checks of a reply (R237). -/
def State.checkReply (s : State) (addr : Nat) (bs : List Byte) : State :=
  match s.cfg.profile with
  | none => s
  | some p =>
    let s := (l1Cells bs).foldl (fun t c => t.checkL1 (tripCodes p) c.2 7 8 c.1 addr (some 1) (some 1)) s
    (List.range 2).foldl (fun t i => t.checkL1 (tripTempCodes p) (l1Temp bs i) 9 9 (i + 1) addr (some 2) none) s

/-- L1_REPLY (R236, R237): a good reply is converted, kept for the melds of the next deal and checked. An address above 15
is one device too many (Table 8-4); an absent device stays absent (Table 17-4); a reply that fails its CRC is counted by
L1_REPLY_TIMEOUT. -/
def execL1Reply (bytes : List Byte) (s : State) : Host.Outcome State Fault Refusal :=
  let addr := (bytes.getD 1 0).toNat
  .next <|
    if !(s.translates && l1ReplyOk bytes) || addr = 0 then s
    else if 15 < addr then s.raise .portN 15
    else if (s.dealer.l1.getD (addr - 1) L1Device.none).absent then s
    else
      (s.updDealer fun d =>
        { d with l1 := d.l1.modify (addr - 1) fun x => { x with next := some (l1Words addr bytes), misses := 0, present := true } }).checkReply
          addr bytes

/-- L1_REPLY_TIMEOUT (R238): a missing or failed reply is counted; the second in a row makes the device absent. An address
at which no device is known is only probed. -/
def execL1ReplyTimeout (addr : BitVec 4) (s : State) : Host.Outcome State Fault Refusal :=
  let i := addr.toNat - 1
  .next <|
    if !(s.translates && addr ≠ 0 && s.l1Known i) then s
    else
      let n := (s.dealer.l1.getD i L1Device.none).misses + 1
      let gone := (s.dealer.l1.getD i L1Device.none).absent
      let s := s.updDealer fun d =>
        { d with l1 := d.l1.modify i fun x => { x with misses := n, next := none, absent := x.absent || 2 ≤ n } }
      (s.raise .portN 8).raiseIf (2 ≤ n && !gone) .portN 14

end Sys2Proof.Machine
end

