-- ==== Sys2Proof/Machine/Sealing.lean ====
section
/-!
DEFINITION. Sealing (03_straps_and_sealing.md, section 7) and the release of LOCK_CLR, which is a lock-out clear, a sealing
or neither (17_safety_function.md, section 4).
-/
namespace Sys2Proof.Machine

/-- SEAL record (Table 18-3). -/
def State.logSeal (s : State) (event cond : Nat) (number : Word) (count : Nat) : State :=
  s.log 0x08 ([BitVec.ofNat 8 event, BitVec.ofNat 8 cond] ++ bytesBE 3 number.toNat ++ [BitVec.ofNat 8 count, 0, 0])

/-- SEAL record about a seal record. -/
def State.logSealOf (s : State) (event : Nat) (r : SealRecord) : State := s.logSeal event 0 r.number r.entries.length

/-! ### The conditions -/

/-- Every contactor and precharge output of the ring is off: the Dealer's own, and every string commanded OPEN by the last
beacon (R83, R514). -/
def State.outputsOff (s : State) : Bool :=
  !s.coilsOn && s.services.strings.all fun v => v.cmd = .open && v.sent = .open

/-- Every position up to the last answers ROLLCALL (R83). A sweep that ended by timeout may have missed the last one. -/
def State.allAnswer (s : State) : Bool :=
  let n := s.dealer.discovery.found
  s.dealer.discovery.done && (!s.dealer.discovery.timedOut || n = s.ring.count) &&
    ((List.range n).filter (1 ≤ ·)).all fun i => (s.pos i).answer.isSome && (s.isIn i || (s.pos i).state ≠ .dummy)

/-- U- and F-class bits that R83 does not except: strap mismatch and foreign numbers are. -/
def barringBits (b : Block) : BitVec 16 :=
  (maskU b ||| maskF b) &&& (match b with
    | .strap => ~~~(0x0008 : BitVec 16)
    | .superv => ~~~(0x0100 : BitVec 16)
    | _ => 0xFFFF)

/-- A U- or F-class fault of the Dealer or an admitted device other than those. -/
def State.barringFault (s : State) : Bool :=
  s.admittedList.any fun i => allBlocks.any fun b => (s.statusAt i b).setWidth 16 &&& barringBits b ≠ 0

/-- The first condition of R83 that fails, by its place in the list. -/
def State.sealFails (s : State) : Option Nat :=
  if !s.outputsOff then some 1
  else if s.keeper.lockout then some 2
  else if !s.allAnswer then some 3
  else if s.anyStrapFault then some 4
  else if !s.ringConsistent then some 5
  else if s.barringFault then some 6
  else none

/-! ### The new record -/

/-- The seal number after this one; 0 means unsealed (Table 3-13). -/
def nextSealNumber (n : Word) : Word := if n + 1 = 0 then 1 else n + 1

/-- The entry of a position in a new seal (Table 3-13). -/
def State.newEntry (s : State) (i : Nat) : SealEntry :=
  if i = 0 then { factory := Config.factoryNumber, fingerprint := fingerprint s.straps.latched }
  else { factory := ((s.answerOf i).map (·.factory)).getD 0, fingerprint := s.printOf i }

/-- L1 devices of the tail: those from which a legacy meld has come. -/
def State.l1Count (s : State) : Nat := (s.dealer.l1.filter fun d => d.present || d.meld.isSome).length

/-- The seal record of the ring as it stands (Table 3-13, R259). -/
def State.newSeal (s : State) : SealRecord :=
  let r : SealRecord :=
    { number := nextSealNumber s.sealNumber, closed := s.cfg.closed, l1Count := BitVec.ofNat 4 s.l1Count,
      entries := (List.range s.dealer.discovery.found).map s.newEntry, check := 0 }
  { r with check := sealCheck r }

/-! ### Commit and census -/

/-- Ascending order of identities. -/
def insertId (x : ProbeId) : List ProbeId → List ProbeId
  | [] => [x]
  | y :: ys => if x.toNat ≤ y.toNat then x :: y :: ys else y :: insertId x ys

/-- Stores the census of slotted probes at a completed sealing (R194). -/
def State.writeCensus (s : State) : State :=
  if s.cfg.probeWire then
    let ids := (s.probes.slots.filterMap (·.ident)).foldl (fun acc x => insertId x acc) []
    (s.updNv fun n => { n with census := some ids }).logSeal 7 0 s.sealNumber ((s.nv.active.map (·.entries.length)).getD 0)
  else s

/-- The demand test becomes pending at runtime: only an opening after the next boot can satisfy it (R508). -/
def State.demandUntilBoot (s : State) : State := s.demandPending.updSafety fun f => { f with untilBoot := true }

/-- The Dealer commits its own copy (R84): logged, census stored, demand test armed (R86). -/
def State.commitSeal (s : State) (r : SealRecord) : State :=
  let s := s.updNv fun n => { n with active := some r, pending := none }
  let s := (s.logSealOf 3 r).writeCensus
  (s.updDealer fun d => { d with sealing := d.sealing.map fun x => { x with committed := true } }).demandUntilBoot

/-- Every position of the record but the Dealer's has confirmed. -/
def Sealing.complete (x : Sealing) : Bool :=
  ((List.range x.record.entries.length).filter (1 ≤ ·)).all fun i => x.confirmed.contains i

/-- Commits once every device has confirmed (R84). -/
def State.tryCommit (s : State) : State :=
  match s.dealer.sealing with
  | none => s
  | some x => if x.complete && !x.committed then s.commitSeal x.record else s

/-- A sealing starts on the release (R82, R83), or is abandoned and logged. -/
def State.startSealing (s : State) : State :=
  let r := s.newSeal
  match s.sealFails with
  | some c => s.logSeal 2 c r.number r.entries.length
  | none =>
    let s := s.logSealOf 1 r
    let s := (s.updNv fun n => { n with pending := some r }).logSealOf 4 r
    let s := s.updDealer fun d =>
      { d with sealing := some { record := r, chunk := 0, confirmed := [], committed := false, announced := false } }
    s.tryCommit

/-- Discards the pending copy (R85). -/
def State.discardPending (s : State) : State :=
  match s.nv.pending with
  | none => s
  | some r => (s.updNv fun n => { n with pending := none }).logSealOf 6 r

/-- SEALING_TIMEOUT (R85): 2 s after the release; the Dealer abandons a sealing that is not complete and every device
discards its pending copy. -/
def execSealingTimeout (s : State) : Host.Outcome State Fault Refusal :=
  .next <|
    if !s.running then s
    else if s.isDealer then
      match s.dealer.sealing with
      | none => s
      | some x =>
        if x.committed then s
        else
          ((s.logSeal 2 7 x.record.number x.record.entries.length).updDealer fun d => { d with sealing := none }).discardPending
    else (s.updRing fun r => { r with sealBuf := none }).discardPending

/-! ### A Hand in a sealing -/

/-- Takes the entries of a SEAL_CHUNK (Table 9-14): the first opens a record, each further one continues it; a chunk seen
before, as a second copy in a closed ring is, changes nothing. -/
def takeChunk (buf : Option SealRecord) (ws : List Word) : Option SealRecord :=
  let c := field (pw ws 0) 7 0
  let n := field (pw ws 2) 17 12
  let k := sat 7 (n - 7 * c)
  let es := readEntries k (ws.drop 4)
  let last := n ≤ 7 * (c + 1)
  let chk := if last then ofCheckWords (pw ws (4 + 8 * k)) (pw ws (5 + 8 * k)) else 0
  if c = 0 then
    if buf.any fun r => r.number = pw ws 1 && r.entries.take 7 = es then buf
    else some { number := pw ws 1, closed := bit (pw ws 2) 11, l1Count := BitVec.ofNat 4 (field (pw ws 2) 10 7), entries := es,
                check := chk }
  else
    match buf with
    | none => none
    | some r =>
      if r.number = pw ws 1 ∧ r.entries.length = 7 * c then some { r with entries := r.entries ++ es, check := chk } else some r

/-- What a device answers to a whole record (Table 9-14): 0 confirmed, 1 own entry differs, 2 record check failed. -/
def State.judgeSeal (s : State) (r : SealRecord) : Nat :=
  if r.check ≠ sealCheck r then 2
  else
    match s.position.bind fun p => r.entries[p.toNat]? with
    | some e => if e.factory = Config.factoryNumber ∧ e.fingerprint = fingerprint s.straps.latched then 0 else 1
    | none => 1

/-- A SEAL_CHUNK at a Hand (R84): once the record is whole it is written as pending and confirmed. -/
def State.handleSealChunk (s : State) (ws : List Word) : State :=
  if s.isDealer then s
  else
    let old := s.ring.sealBuf
    let new := takeChunk old ws
    let s := s.updRing fun r => { r with sealBuf := new }
    match new with
    | none => s
    | some r =>
      if new = old || r.entries.length ≠ field (pw ws 2) 17 12 then s
      else
        let res := s.judgeSeal r
        let s := if res = 2 then s else (s.updNv fun n => { n with pending := some r }).logSealOf 4 r
        if s.dev.fatal then s else s.send s.ring.primary .rollcall (confirmPayload r res)

/-- A SEAL_CONFIRM at the Dealer (R84). -/
def State.handleSealConfirm (s : State) (src : Nat) (ws : List Word) : State :=
  match s.dealer.sealing with
  | none => s
  | some x =>
    if s.isDealer && !x.committed && pw ws 1 = x.record.number && ofCheckWords (pw ws 2) (pw ws 3) = x.record.check && pw ws 4 = 0 &&
        !x.confirmed.contains src then
      (s.updDealer fun d => { d with sealing := some { x with confirmed := x.confirmed ++ [src] } }).tryCommit
    else s

/-- What a device's pending copy does at an accepted beacon (R84, section 9): promoted where the beacon announces its number
and check; at the first beacon of a boot that announces another, discarded. -/
def State.pendingAtBeacon (s : State) (first : Bool) (number : Word) (chk : BitVec 24) : State :=
  match s.nv.pending with
  | none => s
  | some r =>
    if r.number = number && r.check = chk then
      ((s.updNv fun n => { n with active := some r, pending := none }).logSealOf 5 r).writeCensus
    else if first then s.discardPending
    else s

/-! ### LOCK_CLR -/

/-- LOCK_CLR_PRESS (R513): a filtered falling edge in RUN. -/
def execLockClrPress (s : State) : Host.Outcome State Fault Refusal :=
  .next <| if s.running && s.isDealer then s.updSafety fun f => { f with pressed := true } else s

/-- Why a hold is no valid clear (R514, Table 18-4); 0 is a valid clear. -/
def State.clearVerdict (s : State) (holdMs : Nat) : Nat :=
  if holdMs < 500 then 1
  else if 3000 < holdMs then 2
  else if !s.outputsOff then 3
  else if !s.allWithin then 4
  else 0

/-- A valid clear (R514): both copies clear, the next beacon requests the ring reset, the demand test is pending. -/
def State.clearLockout (s : State) (holdMs : Nat) : State :=
  let s := s.logLockout 2 0 holdMs
  let s := (s.updKeeper fun k => { k with lockout := false }).updNv fun n => { n with lockout := false }
  let s := s.lockPin.updDealer fun d => { d with wantReset := true }
  s.demandUntilBoot

/-- LOCK_CLR trace entry (Table 18-6). -/
def State.traceClear (s : State) (holdMs verdict : Nat) : State :=
  s.trace 0x8C (bytesBE 2 (sat 0xFFFF holdMs) ++ [BitVec.ofNat 8 verdict, 0, 0])

/-- LOCK_CLR_RELEASE (R82, R83, R513, R514): judged as a clear, a sealing or neither. The fatal state holds the lock-out
(R492). -/
def execLockClrRelease (holdMs : Nat) (s : State) : Host.Outcome State Fault Refusal :=
  .next <|
    if !(s.running && s.isDealer && s.safety.pressed) then s
    else
      let s := s.updSafety fun f => { f with pressed := false }
      if s.dev.fatal then s
      else
        let v := s.clearVerdict holdMs
        let s := s.traceClear holdMs v
        if s.straps.keyRead && 10000 ≤ holdMs && holdMs ≤ 20000 then (if s.dealer.sealing.isSome then s else s.startSealing)
        else if v = 0 then s.clearLockout holdMs
        else s.logLockout 3 v holdMs

end Sys2Proof.Machine
end

