-- ==== Sys2Proof/Machine/SafetyFn.lean ====
section
/-!
DEFINITION. The safety function (chapter 17): the interlock with its test pulses, the demand test, and the ends of the
degraded timer.
-/
namespace Sys2Proof.Machine

/-- The interlock of this device runs: in use, in RUN (R502, R71, R72). -/
def State.interlockRuns (s : State) : Bool := s.running && s.usesInterlock && !s.dev.fatal

/-- Word 1 of an INTERLOCK TRUMP (R521): open, faulted, demand test pending. -/
def State.interlockWord (s : State) : Word :=
  word (flag 0 (s.safety.openA || s.safety.openB) + flag 1 (s.safety.crossShort || s.safety.srcFault) + flag 2 s.keeper.demand)

/-- Sends the INTERLOCK TRUMP of a String Head (R521); a Dummy sends none (R290). -/
def State.sendInterlock (s : State) : State :=
  let s := s.updSafety fun f => { f with ilkDeals := 0 }
  if s.isHead && s.ring.bitSet && !s.dev.fatal then
    s.sendTrumpWords (trumpWords 0x0C 0 0 s.interlockWord (summaryWord s.faults) 0)
  else s

/-- What follows a change of the interlock's state (R498, R518, R521): while it reads open or faulted the Dealer trips
without lock-out and a String Head opens its string. `before` is the word before the change. -/
def State.interlockChanged (s : State) (before : Word) : State :=
  let s := if s.interlockClosed then s else if s.isDealer then s.trip none else if s.isHead then s.headOpens else s
  if s.interlockWord = before then s else s.sendInterlock

/-- A channel reads open. -/
def State.loopOpen (s : State) : Loop → Bool
  | .a => s.safety.openA
  | .b => s.safety.openB

/-- Sets a channel. -/
def setLoop (ch : Loop) (x : Bool) (f : Safety) : Safety :=
  match ch with
  | .a => { f with openA := x }
  | .b => { f with openB := x }

/-- INTERLOCK_OPEN (R504, R507, R518): two consecutive outside samples of the channel read low. When both channels are open
an opening is measured. -/
def execInterlockOpen (ch : Loop) (s : State) : Host.Outcome State Fault Refusal :=
  .next <|
    if !s.interlockRuns || s.loopOpen ch then s
    else
      let before := s.interlockWord
      let s := s.updSafety fun f =>
        let f := setLoop ch true f
        { f with
          closedAt := none
          qualified := false
          bothSince := if f.openA && f.openB then some s.now else none
          afterPend := f.openA && f.openB && !f.untilBoot }
      s.interlockChanged before

/-- INTERLOCK_CLOSED (R504, R507): two consecutive outside samples read high. An opening of both channels of 100 ms or more
qualifies. -/
def execInterlockClosed (ch : Loop) (s : State) : Host.Outcome State Fault Refusal :=
  .next <|
    if !s.interlockRuns || !s.loopOpen ch then s
    else
      let before := s.interlockWord
      let hit := s.safety.afterPend && s.safety.bothSince.any fun t => s.passed t 100
      let s := s.updSafety fun f => { setLoop ch false f with bothSince := none, qualified := f.qualified || hit }
      let s := s.updSafety fun f => { f with closedAt := if s.interlockClosed then some s.now else none }
      s.interlockChanged before

/-- INTERLOCK_TRUMP (R521): every 16 deals while open, faulted or pending. -/
def execInterlockTrump (s : State) : Host.Outcome State Fault Refusal :=
  .next <| if s.running && s.isHead && s.usesInterlock && s.interlockWord ≠ 0 then s.sendInterlock else s

/-- DEMAND_OPENING_COMPLETE (R507, R508): the pending test clears and the powered time restarts. -/
def execDemandOpeningComplete (s : State) : Host.Outcome State Fault Refusal :=
  .next <|
    if s.interlockRuns && s.interlockClosed && s.safety.qualified then
      let s := s.updSafety fun f => { f with qualified := false }
      if s.keeper.demand then (s.updKeeper fun k => { k with demand := false, powered := 0 }).saveDemand else s
    else s

/-- DEMAND_INTERVAL_EXPIRY (R508): the test becomes pending; an opening already under way does not satisfy it. -/
def execDemandIntervalExpiry (s : State) : Host.Outcome State Fault Refusal :=
  .next <|
    if s.running && s.usesInterlock then
      s.demandPending.updSafety fun f => { f with afterPend := false, qualified := false }
    else s

/-! ### Test pulses -/

/-- The pulse sample of a channel is judged in this cycle: the channel reads closed and its own source has no fault pending
or raised (R505). -/
def State.judged (s : State) (ch : Loop) : Bool :=
  !s.loopOpen ch && !s.safety.srcFault && (match ch with | .a => s.safety.srcA = 0 | .b => s.safety.srcB = 0)

/-- A pulse sample is wrong: high in its own source's pulse, low in the other's (R505). -/
def sampleWrong (own high : Bool) : Bool := if own then high else !high

/-- The count of wrong cycles of a channel after both pulses; a cycle not judged holds it (R505). -/
def crossNext (n : Nat) (half : Option Bool) (judged wrong : Bool) : Nat :=
  match half with
  | none => n
  | some w => if judged then (if w || wrong then n + 1 else 0) else n

/-- The readback of a source (R506): judged with VSW at 15 V or more. -/
def State.judgeSource (s : State) (src : Loop) (insideMv outsideMv vswMv : Nat) : State :=
  if vswMv < 15000 then s
  else
    let bad := 1000 < insideMv || outsideMv < 10000
    let n := if bad then (match src with | .a => s.safety.srcA | .b => s.safety.srcB) + 1 else 0
    let s := s.updSafety fun f => match src with
      | .a => { f with srcA := n }
      | .b => { f with srcB := n }
    if n = 2 then (s.updSafety fun f => { f with srcFault := true }).raise .superv 11 else s

/-- The pulse samples (R505): the cycle runs from the TPA pulse to the TPB pulse. -/
def State.judgeSamples (s : State) (src : Loop) (sampleA sampleB : Bool) : State :=
  let ja := s.judged .a
  let jb := s.judged .b
  match src with
  | .a =>
    s.updSafety fun f =>
      { f with halfA := if ja then some (sampleWrong true sampleA) else none,
               halfB := if jb then some (sampleWrong false sampleB) else none }
  | .b =>
    let a := crossNext s.safety.crossA s.safety.halfA ja (sampleWrong false sampleA)
    let b := crossNext s.safety.crossB s.safety.halfB jb (sampleWrong true sampleB)
    let hit := a = 2 && s.safety.crossA ≠ 2 || b = 2 && s.safety.crossB ≠ 2
    let s := s.updSafety fun f =>
      { f with crossA := a, crossB := b, halfA := none, halfB := none, crossShort := f.crossShort || hit }
    s.raiseIf hit .superv 10

/-- TEST_PULSE (R502, R503, R505, R506). -/
def execTestPulse (src : Loop) (sampleA sampleB : Bool) (insideMv outsideMv vswMv : Nat) (s : State) :
    Host.Outcome State Fault Refusal :=
  .next <|
    if !s.interlockRuns then s
    else
      let before := s.interlockWord
      let s := (s.judgeSource src insideMv outsideMv vswMv).judgeSamples src sampleA sampleB
      if s.interlockWord = before then s else s.interlockChanged before

/-! ### The degraded timer -/

/-- DEGRADED_TIME_EXPIRY (R517): the timer reaches the strapped time. -/
def execDegradedTimeExpiry (s : State) : Host.Outcome State Fault Refusal :=
  .next <|
    if s.running && s.isDealer && s.safety.running && !s.safety.expired && !s.dev.fatal then
      (s.updSafety fun f => { f with expired := true }).trip (some 5)
    else s

/-- DEGRADED_TIMER_CLEAR (R515): no condition for 1 h. -/
def execDegradedTimerClear (s : State) : Host.Outcome State Fault Refusal :=
  .next <|
    if s.isDealer && !s.safety.running then
      s.updSafety fun f => { f with degraded := 0, clearAt := none, expired := false }
    else s

end Sys2Proof.Machine
end

