-- ==== Sys2Proof/Machine/Vehicle.lean ====
section
/-!
DEFINITION. The vehicle interfaces of the Dealer (15_vehicle_interfaces.md): the message catalogue of Tables 15-4 to 15-14,
publication on CAN and RS-485, and the error states of the CAN streamer.
-/
namespace Sys2Proof.Machine

/-! ### Encoding (R458) -/

/-- The 24-bit pattern that says that no value is available. -/
def noValue : List Byte := bytesBE 3 0x7FFFFF

/-- A signed 18-bit value, or none. -/
def codeField (w : Option Word) : List Byte := (w.map code24).getD noValue

/-- An unsigned 18-bit value, or none. -/
def wordField (w : Option Word) : List Byte := (w.map fun x => bytesBE 3 x.toNat).getD noValue

/-- A number confined to `n` unsigned bytes. -/
def unsignedField (n : Nat) (x : Int) : List Byte := bytesBE n (clampI 0 ((256 ^ n : Nat) - 1) x).toNat

/-- A signed number of 24 bits, or none. -/
def signedField (x : Option Int) : List Byte :=
  (x.map fun y => bytesBE 3 (BitVec.ofInt 24 (clampI (-8388608) 8388606 y)).toNat).getD noValue

/-- A count in one byte, saturating. -/
def countByte (n : Nat) : Byte := BitVec.ofNat 8 (sat 255 n)

/-- Flags as one byte. -/
def flagByte (n : Nat) : Byte := BitVec.ofNat 8 n

/-! ### What the catalogue looks at -/

/-- The ring has an L1 tail (R8): at the Dealer's Port N, or at a position strapped or answering so. -/
def State.hasTail (s : State) : Bool :=
  s.cfg.genN = .l1 || s.handPositions.any fun i => s.levelAt i 3 / 4 = 4 || (s.answerOf i).any fun a => a.l1 ≠ 0

/-- Operation outside the conditions of the single-fault guarantee (R526). -/
def State.outsideGuarantee (s : State) : Bool := 200 < s.period || s.ringHas .bist 5

/-- Position of the translator: the Dealer, or the last position, whose Port N carries the tail. -/
def State.translator (s : State) : Nat := if s.cfg.genN = .l1 then 0 else s.ring.count - 1

/-- Latest part A of the closed deal of an admitted position, SETTLING ones among them. -/
def State.shownA (s : State) (i : Nat) : Option MeldA := if s.admittedAt i then (s.pos i).nowA else none

/-- Part B of the closed deal. -/
def State.shownB (s : State) (i : Nat) : Option MeldB := if s.admittedAt i then (s.pos i).nowB else none

/-- Positions with admitted LIFELINE data (R149, R151). -/
def State.onLifeline (s : State) : Nat :=
  (s.handPositions.filter fun i => !s.admittedAt i && (s.pos i).lifeline.isSome).length

/-- State of charge of the pack in 0.01 %, published only while valid (Table 15-5). -/
def State.socField (s : State) : List Byte :=
  match s.packSoc with
  | none => [0xFF, 0xFF]
  | some q => unsignedField 2 (roundQ q)

/-- State of health of the pack in per cent: the least of the strings (R433). -/
def State.packSoh (s : State) : Byte :=
  if s.cfg.capacity.isNone then 0xFF
  else countByte ((roundQ ((s.stringList.map fun k => s.sohPercent (s.str k)).foldl (fun a b => if b < a then b else a) 110)).toNat)

/-- Sum of the string currents in A, none where one is missing. -/
def State.sumAmps (s : State) : Option Rat :=
  s.stringList.foldl (fun acc k => match acc, s.stringAmps k with
    | some a, some b => some (a + b)
    | _, _ => none) (some 0)

/-- Seconds of degraded time left. -/
def State.degradedLeft (s : State) : Int :=
  roundQ (((s.cfg.degradedMin * 60 * 32768 : Nat) : Rat) / 32768 - secondsOf s.safety.degraded)

/-- Pack services absent: the core has failed (R474). -/
def State.noServices (s : State) : Bool := !s.core

/-- PACK SUMMARY (Table 15-5). -/
def State.packSummary (s : State) : List Byte :=
  let off := s.noServices
  let closed := s.closedStrings
  dealBytes s.vehicle.closedDeal ++ [flagByte s.services.pack.code] ++
    [flagByte (flag 7 s.pins.ready + flag 6 s.keeper.lockout + flag 5 s.safety.running + flag 4 s.hasTail +
      flag 3 s.outsideGuarantee + flag 2 off + flag 1 s.nv.active.isNone + flag 0 (off || s.packSoc.isNone))] ++
    [flagByte ((closed.map fun k => 2 ^ (k - 1)).sum + (s.stringList.map fun k => 2 ^ (k + 3)).sum)] ++
    s.socField ++ unsignedField 2 (roundQ s.packBound) ++ [s.packSoh, countByte s.onLifeline] ++
    unsignedField 3 (roundQ s.packMv) ++ signedField (s.sumAmps.map fun i => roundQ (100 * i)) ++
    (if s.safety.running then unsignedField 2 s.degradedLeft else [0xFF, 0xFF]) ++
    [countByte s.admittedList.length, countByte s.ring.count] ++
    [flagByte (s.ring.period + flag 3 s.cfg.closed + flag 4 (s.ring.period ≠ s.cfg.period)), 0]

/-- LIMITS (Table 15-6); with a failed core the last limits, halved (R474). -/
def State.limitsMessage (s : State) : List Byte :=
  let off := s.noServices
  let v := s.services
  let closed := v.pack = .closed
  let f : Rat := if !closed then 0 else if off then 1 / 2 else 1
  unsignedField 3 (roundQ (100 * v.limDis * f)) ++ unsignedField 3 (roundQ (100 * v.limChg * f)) ++
    unsignedField 3 (roundQ (v.powDis * f / 10)) ++ unsignedField 3 (roundQ (v.powChg * f / 10)) ++
    [flagByte (flag 0 (s.safety.running || off) + flag 1 (!closed) + flag 2 off + flag 3 (closed && v.derated))] ++
    (if closed then [flagByte v.limStrD, flagByte v.limStrC] else [0, 0]) ++ [0]

/-- Summary word of an admitted position; the Dealer's own is the one it holds. -/
def State.summaryAt (s : State) (i : Nat) : Word :=
  if i = 0 then summaryWord s.faults else ((s.latestA i).map (·.summary)).getD 0

/-- Highest class of a position. -/
def State.classAt (s : State) (i : Nat) : Nat := (allBlocks.map fun b => wordClass (s.statusAt i b)).foldl max 0

/-- Positions in a state. -/
def State.countIn (s : State) (st : PosState) : Nat := (s.handPositions.filter fun i => (s.pos i).state = st).length

/-- Devices in strap-fault or strap-mismatch state. -/
def State.strapDevices (s : State) : Nat :=
  (if s.strapFault || s.straps.mismatch then 1 else 0) +
    (s.handPositions.filter fun i => s.admittedAt i && s.reports i (fun a => a.sfault || a.smism) fun a => a.sfault || a.smism).length

/-- FAULT STATUS (Table 15-7). -/
def State.faultStatus (s : State) : List Byte :=
  let ps := s.admittedList
  let top := (ps.map s.classAt).foldl max 0
  let bad := (ps.filter fun i => 2 ≤ s.classAt i).length
  let lost := (ps.map fun i => ((s.latestA i).map fun a => (a.states.filter fun st => st = 6 ∨ st = 7).length).getD 0).sum
  let probes := (ps.map fun i => ((s.latestB i).map fun b => (b.pstates.filter (· = 2)).length).getD 0).sum
  bytesBE 3 ((ps.map s.summaryAt).foldl (· ||| ·) 0).toNat ++ [flagByte (top * 64 + sat 63 bad), countByte s.cCount] ++
    [countByte (s.countIn .dummy), countByte (s.countIn .foreign), countByte s.strapDevices, countByte (s.countIn .late)] ++
    [countByte lost, countByte probes] ++
    [flagByte (flag 0 s.pins.faultN + flag 1 s.pins.warnN + flag 2 s.pins.lockN + flag 3 (!s.interlockClosed) + flag 4 s.keeper.demand)]

/-- Cells admitted to safety decisions with their position (Table 6-9): all but OPEN ones. -/
def State.safetyCells (s : State) : List (Nat × CellView) :=
  s.members.flatMap fun m => (m.a.view.filter fun c => c.state ≠ 7).map fun c => (m.pos, c)

/-- The first entry that no other exceeds. -/
def pickBy {α : Type} (key : α → Int) : List α → Option α
  | [] => none
  | x :: xs => some (xs.foldl (fun a b => if key a < key b then b else a) x)

/-- The higher and the lower of the codes a limit check looks at (R166). -/
def CellView.high (c : CellView) : Int := ((checkedCodes c.state c.code c.diverse).max?).getD c.code
def CellView.low (c : CellView) : Int := ((checkedCodes c.state c.code c.diverse).min?).getD c.code

/-- State of charge of an extreme cell of the string of a position (R430). -/
def State.cellSoc (s : State) (i : Nat) (high : Bool) : List Byte :=
  let v := s.str (s.stringAt i)
  if v.socInvalid then [0xFF, 0xFF] else unsignedField 2 (roundQ (if high then v.socHigh else v.socLow))

/-- CELL EXTREMES (Table 15-8). -/
def State.cellExtremes (s : State) : List Byte :=
  let cs := s.safetyCells
  let hi := pickBy (fun x => x.2.high) cs
  let lo := pickBy (fun x => -x.2.low) cs
  let total := (s.admittedList.map s.cellsAt).sum
  let place (x : Option (Nat × CellView)) : List Byte := (x.map fun y => [countByte y.1, countByte y.2.cell]).getD [0, 0]
  codeField (hi.map fun x => satCode x.2.high) ++ place hi ++ codeField (lo.map fun x => satCode x.2.low) ++ place lo ++
    codeField ((meanOf (cs.map fun x => x.2.code)).map fun m => satCode (roundQ m)) ++
    ((hi.map fun x => s.cellSoc x.1 true).getD [0xFF, 0xFF]) ++ ((lo.map fun x => s.cellSoc x.1 false).getD [0xFF, 0xFF]) ++
    [countByte (total - cs.length)]

/-- A temperature with its position and source, or no reading. -/
def tempField (x : Option (Nat × Int × Nat)) : List Byte :=
  match x with
  | some (p, c, src) => code24 (satCode c) ++ [countByte p, countByte src]
  | none => noValue ++ [0, 0xFF]

/-- TEMPERATURE EXTREMES (Table 15-9). -/
def State.tempExtremes (s : State) : List Byte :=
  let ts := s.members.flatMap fun m => m.b.temps.map fun t => (m.pos, t.1, t.2)
  let die := pickBy (fun x => x.2) (s.members.map fun m => (m.pos, codeOf m.b.die))
  tempField (pickBy (fun x => x.2.1) ts) ++ tempField (pickBy (fun x => -x.2.1) ts) ++
    (die.map fun d => [signed8 (degrees d.2), countByte d.1]).getD [0, 0]

/-- Rank of a throttle reason (R376). -/
def thrRank (w : Word) : Nat := throttleRank.findIdx (· == field w 17 14)

/-- Inserts a record behind those that rank as high or higher. -/
def insertThr (x : Nat × Word) : List (Nat × Word) → List (Nat × Word)
  | [] => [x]
  | y :: ys => if thrRank y.2 ≤ thrRank x.2 then y :: insertThr x ys else x :: y :: ys

/-- Device records of the closed deal by rank, then position. -/
def State.thrRecords (s : State) : List (Nat × Word) :=
  (s.admittedList.flatMap fun i => ((s.shownB i).map (·.thr)).getD [] |>.map fun w => (i, w)).foldl (fun acc x => insertThr x acc) []

/-- Duration of a ring-scope episode (R377). -/
def State.ringDuration (s : State) (start : Option Nat) (last : Nat) : List Byte :=
  unsignedField 2 ((start.map fun t => episodeUnits t s.now).getD last)

/-- THROTTLE (Table 15-10). -/
def State.throttleMessage (s : State) : List Byte :=
  let rs := s.thrRecords
  let show1 (x : Option (Nat × Word)) : List Byte := (x.map fun y => countByte y.1 :: bytesBE 3 y.2.toNat).getD [0, 0, 0, 0]
  [flagByte (s.ring.rthr % 16)] ++ s.ringDuration s.dealer.curEp s.dealer.curDur ++ s.ringDuration s.dealer.paceEp s.dealer.paceDur ++
    [countByte (s.admittedList.filter fun i => rs.any fun r => r.1 = i).length] ++ show1 rs[0]? ++ show1 rs[1]? ++
    bytesBE 2 (((List.range 9).map fun j => flag (j + 1) (rs.any fun r => field r.2 17 14 = j + 1)).sum)

/-- A 32-bit counter of whole units (R448). -/
def counter32 (q unit : Rat) : Nat := (q / unit).floor.toNat % 2 ^ 32

/-- ENERGY (Table 15-11). -/
def State.energyMessage (s : State) : List Byte :=
  let vs := s.stringList.map s.str
  let total (f : StringSvc → Rat) (unit : Rat) : List Byte := bytesBE 4 ((vs.map fun v => counter32 (f v) unit).sum % 2 ^ 32)
  let dis := (vs.map (·.disQ)).foldl (· + ·) 0
  total (·.chgQ) 360 ++ total (·.disQ) 360 ++ total (·.chgE) 36000 ++ total (·.disE) 36000 ++
    bytesBE 4 (s.services.jobTotal / 1000 % 2 ^ 32) ++
    (match s.capAh with
      | some c => unsignedField 3 (dis * 100 / (3600 * c * s.cfg.strings)).floor
      | none => noValue) ++ [countByte s.dealer.jobsLast]

/-! ### The rotating entries (R460) -/

/-- Entries of the rotation: position and L1 address, 0 for a native device. -/
def State.entries (s : State) : List (Nat × Nat) :=
  ((List.range s.ring.count).map fun i => (i, 0)) ++
    ((List.range 15).filter fun i => s.l1Known i || (s.dealer.l1.getD i L1Device.none).meld.isSome).map fun i => (s.translator, i + 1)

/-- Index of an entry in `Stream.visits`. -/
def visitIndex (e : Nat × Nat) : Nat := if e.2 = 0 then e.1 else 47 + e.2

/-- Cells in DISAGREE or MISMATCH. -/
def MeldA.named (a : MeldA) : List CellView := a.view.filter fun c => c.state = 5 || c.state = 6

/-- Cell fields of HAND CELLS: 18 of 3 bytes. -/
def cellFields (cs : List Word) : List Byte := (List.range 18).flatMap fun k => codeField (cs[k]?)

/-- Cells of a LIFELINE payload (R260). -/
def lifelineCodes (ws : List Word) : List Word := (ws.drop 11).take (field (pw ws 10) 13 9)

/-- Die temperature of a LIFELINE payload. -/
def lifelineDie (ws : List Word) : Word := pw ws (11 + field (pw ws 10) 13 9)

/-- LIFELINE data to publish for a position: not while it is admitted (R149). -/
def State.shownLifeline (s : State) (i : Nat) : Option LifelineData := if s.admittedAt i then none else (s.pos i).lifeline

/-- The last legacy meld of an L1 address, if VALID (R256). -/
def State.legacyMeld (s : State) (addr : Nat) : Option (List Word) :=
  ((s.dealer.l1.getD (addr - 1) L1Device.none).meld).filter fun ws => bit (pw ws 0) 3

/-- HAND CELLS (Table 15-12). -/
def State.handCells (s : State) (e : Nat × Nat) (visit : Nat) : List Byte :=
  let tail := [0, noValue.getD 0 0, noValue.getD 1 0, noValue.getD 2 0, 0, 0]
  let body : List Byte :=
    if e.2 ≠ 0 then
      match s.legacyMeld e.2 with
      | some ws => let n := field (pw ws 0) 11 8; [countByte n, 3] ++ cellFields ((ws.drop 1).take n) ++ tail
      | none => [0, 4] ++ cellFields [] ++ tail
    else
      match s.shownA e.1, s.shownLifeline e.1 with
      | some a, _ =>
        let c := (a.named)[visit % (max 1 a.named.length)]?
        [countByte a.ncell, 0] ++ cellFields a.cells ++
          (match c with
            | some x => [countByte x.cell] ++ code24 (satCode x.diverse) ++ [0, 0]
            | none => tail)
      | none, some d =>
        let cs := lifelineCodes d.payload
        [countByte cs.length, if d.stale then 2 else 1] ++ cellFields cs ++ tail
      | none, none => [countByte (if (s.printOf e.1).isEmpty && e.1 ≠ 0 then 0 else s.cellsAt e.1), 4] ++ cellFields [] ++ tail
  [countByte e.1, countByte e.2] ++ body

/-- A temperature with its source (Table 15-13). -/
def tempSource (x : Option (Int × Nat)) : List Byte :=
  match x with
  | some (c, src) => code24 (satCode c) ++ [countByte src]
  | none => noValue ++ [0xFF]

/-- Highest and lowest of some temperatures. -/
def tempPair (ts : List (Int × Nat)) : List Byte :=
  tempSource (pickBy (fun x => x.1) ts) ++ tempSource (pickBy (fun x => -x.1) ts)

/-- Cell states, two per byte. -/
def stateNibbles (sts : List Nat) : List Byte :=
  (List.range 9).map fun j => flagByte (sts.getD (2 * j) 0 * 16 + sts.getD (2 * j + 1) 0)

/-- Bytes 18 to 32 and 42 to 45 of HAND STATUS out of part B and the management section. -/
def mgtFields (b : Option MeldB) (cur : Option Word) : List Byte × List Byte :=
  let m := b.filter (·.mgt)
  let thr (i : Nat) : List Byte := (m.map fun x => bytesBE 3 (x.thr.getD i 0).toNat).getD noValue
  let fan : List Byte := match m.map (·.fan) with
    | some (some w) => bytesBE 2 (field w 15 0) ++ [countByte (field w 17 16)]
    | some none => [0x80, 0x00, 0]
    | none => [0, 0, 0]
  (codeField (b.map (·.vmod)) ++ codeField cur ++ thr 0 ++ thr 1 ++ fan,
    bytesBE 4 ((m.map fun x => x.energy.toNat).getD 0))

/-- HAND STATUS of a native position (Table 15-13). -/
def State.handStatus (s : State) (i : Nat) : List Byte :=
  let a := s.shownA i
  let b := s.shownB i
  let st := if i = 0 then 0 else (s.pos i).state.code
  let f (g : MeldA → Bool) : Bool := a.any g
  let flags := flag 7 (f (·.pside)) + flag 6 (f (·.sfault)) + flag 5 (f (·.smism)) + flag 4 (f (·.unsync)) + flag 3 (f (·.pred)) +
    flag 2 (b.any fun x => !x.mgt)
  let die := match b, s.shownLifeline i with
    | some x, _ => signed8 (degrees (codeOf x.die))
    | none, some d => signed8 (degrees (codeOf (lifelineDie d.payload)))
    | none, none => 0
  let cur := (a.filter (·.curp)).map (·.current)
  let m := mgtFields b cur
  [countByte i, 0, flagByte st, flagByte flags] ++ wordField (a.map (·.summary)) ++ tempPair ((b.map MeldB.temps).getD []) ++ [die] ++
    [countByte ((b.map (·.nprobe)).getD 0), countByte ((b.map fun x => (x.pstates.filter fun p => p = 2 ∨ p = 3).length).getD 0)] ++
    m.1 ++ stateNibbles ((a.map (·.states)).getD []) ++ m.2 ++ [0, 0]

/-- HAND STATUS of an L1 device: its two temperatures; the rest has no source. -/
def State.legacyStatus (s : State) (e : Nat × Nat) : List Byte :=
  let ts : List (Int × Nat) := match s.legacyMeld e.2 with
    | some ws => let n := field (pw ws 0) 11 8; [(codeOf (pw ws (1 + n)), 24), (codeOf (pw ws (2 + n)), 25)]
    | none => []
  let m := mgtFields none none
  [countByte e.1, countByte e.2, if (s.legacyMeld e.2).isSome then 5 else 6, 0] ++ noValue ++ tempPair ts ++ [0, 0, 0] ++ m.1 ++
    stateNibbles [] ++ m.2 ++ [0, 0]

/-- HEARTBEAT (Table 15-14, R461). -/
def State.heartbeat (s : State) (alive : Byte) : List Byte :=
  let body := dealBytes s.vehicle.closedDeal ++ [alive, flagByte s.services.pack.code] ++
    [flagByte (flag 7 s.pins.ready + flag 6 s.pins.faultN + flag 5 s.keeper.lockout + flag 4 s.noServices + flag 3 s.safety.running)]
  body ++ bytesBE 2 (crc16 body).toNat

/-! ### Framing and publication -/

/-- The smallest CAN FD data length at or above `n` (R457). -/
def fdLength (n : Nat) : Nat := ((List.range 9 ++ [12, 16, 20, 24, 32, 48, 64]).find? (n ≤ ·)).getD 64

/-- Bytes filled with zeros to `n`. -/
def padTo (n : Nat) (bs : List Byte) : List Byte := (bs ++ List.replicate n 0).take n

/-- CAN frames of a message (R456, R457). -/
def canFrames (mode base : Nat) (k : Nat) (bs : List Byte) : List VFrame :=
  if 3 ≤ mode then [{ number := k, page := 0, ident := base + 8 * k, bytes := padTo (fdLength bs.length) bs }]
  else (List.range ((bs.length + 7) / 8)).map fun g =>
    { number := k, page := g, ident := base + 8 * k + g, bytes := padTo 8 ((bs.drop (8 * g)).take 8) }

/-- The RS-485 frame of a message (R466). -/
def rsFrames (k : Nat) (bs : List Byte) : List VFrame :=
  let body := [flagByte k, flagByte bs.length] ++ bs
  [{ number := k, page := 0, ident := 0, bytes := [0xA5] ++ body ++ bytesBE 2 (crc16 body).toNat }]

/-- Minimum publication interval in ms (Table 15-15). -/
def canInterval (mode : Nat) : Nat := [50, 20, 10, 10, 10].getD mode 10
def rsInterval (rate : Nat) : Nat := [50, 20].getD rate 20

/-- The closed deal publishes: every k-th deal, k × P being at least the interval (R462). -/
def State.publishes (s : State) (interval : Nat) : Bool :=
  s.vehicle.pubDeal % ((interval + s.period - 1) / s.period) = 0

/-- Messages of a publication in the order of Table 15-4; the supervisor's four with a failed core (R474). -/
def State.catalogue (s : State) (x : Stream) : List (Nat × List Byte) :=
  let es := s.entries
  let e := es.getD (x.rotate % (max 1 es.length)) (0, 0)
  if s.noServices then [(0, s.packSummary), (1, s.limitsMessage), (2, s.faultStatus), (9, s.heartbeat x.alive)]
  else
    [(0, s.packSummary), (1, s.limitsMessage), (2, s.faultStatus), (3, s.cellExtremes), (4, s.tempExtremes), (5, s.throttleMessage)] ++
      (if x.energyDue then [(6, s.energyMessage)] else []) ++
      [(7, s.handCells e (x.visits.getD (visitIndex e) 0)), (8, if e.2 = 0 then s.handStatus e.1 else s.legacyStatus e),
        (9, s.heartbeat x.alive)]

/-- A streamer after its publication has been composed (R460, R461). -/
def State.composed (s : State) (frames : Nat → List Byte → List VFrame) (x : Stream) : Stream :=
  let es := s.entries
  let n := max 1 es.length
  let e := es.getD (x.rotate % n) (0, 0)
  let y := { x with staged := some ((s.catalogue x).flatMap fun m => frames m.1 m.2), alive := x.alive + 1 }
  if s.noServices then y
  else { y with energyDue := false, rotate := (x.rotate % n + 1) % n, visits := x.visits.modify (visitIndex e) (· + 1) }

/-- At the closure the publication of each selected streamer is composed; it begins at T0 + 0.9 P (R462, R463). -/
def State.stagePublication (s : State) : State :=
  let can := match s.cfg.canMode with
    | some m => if !s.vehicle.canOut.stopped && s.publishes (canInterval m) then s.composed (canFrames m s.cfg.canBase) s.vehicle.canOut else s.vehicle.canOut
    | none => s.vehicle.canOut
  let rs := match s.cfg.rsRate with
    | some r => if !s.vehicle.rsOut.stopped && s.publishes (rsInterval r) then s.composed rsFrames s.vehicle.rsOut else s.vehicle.rsOut
    | none => s.vehicle.rsOut
  s.updVehicle fun v => { v with canOut := can, rsOut := rs }

/-- Frames of the last publication that have not started. -/
def Stream.waiting (x : Stream) : List VFrame := if x.busy then x.queue.drop 1 else x.queue

/-- A publication begins: it replaces what has not started (R464). -/
def Stream.begin (x : Stream) (free : Bool) : Stream :=
  match x.staged with
  | none => x
  | some fs =>
    { x with
      queue := (if x.busy then x.queue.take 1 else []) ++ fs
      staged := none
      replaced := if x.busy then some (!x.waiting.isEmpty) else none
      busy := x.busy || (free && !fs.isEmpty) }

/-- Whether a publication is discarded when the next begins. -/
def Stream.discards (x : Stream) : Bool := x.staged.isSome && !x.waiting.isEmpty

/-- The CAN streamer may put a frame on the bus. -/
def Vehicle.canFree (v : Vehicle) : Bool := v.can ≠ .busOff && !v.canOut.stopped

/-- PUBLICATION_START (R463, R464). -/
def execPublicationStart (s : State) : Host.Outcome State Fault Refusal :=
  let v := s.vehicle
  .next <|
    if s.running then
      ((s.updVehicle fun v => { v with canOut := v.canOut.begin v.canFree, rsOut := v.rsOut.begin (!v.rsOut.stopped) }).raiseIf
        v.canOut.discards .raivo 3).raiseIf v.rsOut.discards .raivo 3
    else s

/-- The frame on the line ends and the next one starts (R457, R466). -/
def Stream.advance (x : Stream) (free : Bool) : Stream :=
  { x with queue := x.queue.drop 1, busy := free && !(x.queue.drop 1).isEmpty, replaced := none }

/-! ### CAN error states (R451, R455; ISO 11898-1, log 21) -/

/-- Error-passive at 128 of either counter; active again when both are below. -/
def errorState (tec rec : Nat) (c : CanState) : CanState :=
  if c = .busOff then .busOff else if 128 ≤ tec ∨ 128 ≤ rec then .passive else .active

/-- New counters with the error state they give. -/
def Vehicle.counters (tec rec : Nat) (v : Vehicle) : Vehicle :=
  { v with tecCount := tec, recCount := rec, can := errorState tec rec v.can }

/-- CAN_FRAME_COMPLETE (R457, R451): the transmit counter falls by 1, the next page or message follows. -/
def execCanFrameComplete (s : State) : Host.Outcome State Fault Refusal :=
  .next <|
    if s.vehicle.canOut.busy then
      s.updVehicle fun v => { v.counters (v.tecCount - 1) v.recCount with canOut := v.canOut.advance v.canFree }
    else s

/-- CAN_FRAME_RECEIVED (R6, R451): acknowledged, content unused; the receive counter falls by 1, and from above 127 to a
value from 119 to 127 that the standard leaves to the node (log 21). -/
def execCanFrameReceived (_ident : Nat) (_data : List Byte) (s : State) : Host.Outcome State Fault Refusal :=
  .next <|
    if s.running && s.cfg.canMode.isSome && s.vehicle.canFree then
      if 127 < s.vehicle.recCount then
        let (w, s) := s.drawWord
        s.updVehicle fun v => v.counters v.tecCount (119 + w.toNat % 9)
      else s.updVehicle fun v => v.counters v.tecCount (v.recCount - 1)
    else s

/-- A frame that failed is sent again, unless a newer publication has replaced it (R451, R464) or the streamer has
stopped. -/
def Stream.again (x : Stream) (free : Bool) : Stream :=
  if x.replaced.isSome || x.stopped then x.advance free else { x with busy := free }

/-- Bus-off (R455): counted within the hour; the streamer is silent until recovery. -/
def State.busOff (s : State) : State :=
  let hour := s.now :: s.vehicle.busOffs.filter fun t => !s.passed t 3600000
  let s := s.updVehicle fun v => { v with can := .busOff, busOffs := hour }
  (s.raise .raivo 2).raiseIf (16 ≤ hour.length) .raivo 7

/-- New counters after an error, with entry into error-passive (R455). -/
def State.canCounters (s : State) (tec rec : Nat) : State :=
  let entered := s.vehicle.can = .active && errorState tec rec .active = .passive
  (s.updVehicle fun v => v.counters tec rec).raiseIf entered .raivo 1

/-- CAN_ERROR (R451, R455): a transmit error adds 8 to the transmit counter, a receive error 1 or 8 to the receive
counter; above 255 the node is bus-off. -/
def execCanError (kind : CanErrorKind) (s : State) : Host.Outcome State Fault Refusal :=
  let v := s.vehicle
  .next <|
    if !(s.running && s.cfg.canMode.isSome) || v.can = .busOff || (v.canOut.stopped && !v.canOut.busy) then s
    else
      match kind with
      | .receive => s.canCounters v.tecCount (v.recCount + 1)
      | .receiveDominant => s.canCounters v.tecCount (v.recCount + 8)
      | .transmit =>
        if !v.canOut.busy then s
        else
          let s := s.canCounters (v.tecCount + 8) v.recCount
          let s := if 255 < v.tecCount + 8 then s.busOff else s
          (s.updVehicle fun v => { v with canOut := v.canOut.again v.canFree }).raiseIf (v.canOut.replaced = some false) .raivo 3

/-- BUS_OFF_RECOVERY (R455): error-active with both counters 0; what waits is sent. -/
def execBusOffRecovery (s : State) : Host.Outcome State Fault Refusal :=
  .next <|
    if s.vehicle.can = .busOff then
      s.updVehicle fun v =>
        { v with can := .active, tecCount := 0, recCount := 0,
                 canOut := { v.canOut with busy := !v.canOut.stopped && !v.canOut.queue.isEmpty } }
    else s

/-- RS485_FRAME_COMPLETE (R467, R468): RS_DE falls; each byte read back that differs from the byte sent is an event; the
next frame follows. -/
def execRs485FrameComplete (echo : List Byte) (s : State) : Host.Outcome State Fault Refusal :=
  let x := s.vehicle.rsOut
  .next <|
    if !x.busy then s
    else
      let sent := ((x.queue.head?).map (·.bytes)).getD []
      let wrong := ((echo.zip sent).filter fun p => p.1 != p.2).length
      let s := s.updVehicle fun v => { v with rsOut := v.rsOut.advance (!v.rsOut.stopped) }
      (List.range wrong).foldl (fun t _ => t.raise .raivo 4) s

end Sys2Proof.Machine
end

