-- ==== Sys2Proof/Machine/ServicePort.lean ====
section
/-!
DEFINITION. The service port, the loading of images and their distribution over the ring, and remote log reads
(18_management_and_service.md, sections 5 and 6).
-/
namespace Sys2Proof.Machine

/-! ### SERVICE frames (R261, Table 9-15) -/

/-- SERVICE frames a device may send per deal and port (R261). -/
def State.serviceLimit (s : State) : Nat := if s.isDealer then 8 else 2

/-- Sends a SERVICE frame out of a port; beyond the count of R261 it waits for the next deal. -/
def State.sendService (s : State) (p : Port) (ws : List Word) : State :=
  if (s.port p).serviceSent < s.serviceLimit then
    (s.send p .service ws).updPort p fun q => { q with serviceSent := q.serviceSent + 1 }
  else s.updService fun v => { v with held := v.held ++ [(p, ws)] }

/-- Sends what waited, as far as the new deal's count goes. -/
def State.releaseHeld (s : State) : State :=
  s.service.held.foldl (fun t x => t.sendService x.1 x.2) (s.updService fun v => { v with held := [] })

/-- The Dealer's port toward a position: the one that feeds the position's primary side. -/
def State.portToward (s : State) (i : Nat) : Port :=
  if ((s.pos i).lastA.map readMeldA).any fun a => !a.pside then .s else .n

/-! ### Requests and responses (R549, R550, Table 18-7) -/

/-- Sends a response, with its SERVICE trace entry. -/
def State.respond (s : State) (function tag : Byte) (status : Nat) (payload : List Byte) : State :=
  (s.trace 0x8E [function, BitVec.ofNat 8 status, 0, 0, 0]).updService fun v =>
    { v with response := some { function := function, tag := tag, status := BitVec.ofNat 8 status, payload := payload } }

/-- The port answers requests: open, in RUN, with a working core (R548, chapter 18 section 9). -/
def State.serves (s : State) : Bool := s.running && s.service.open_ && s.core

/-- Serves a request unless another runs (R550). -/
def State.serve (s : State) (function tag : Byte) (f : State → State) : State :=
  if !s.serves then s
  else if s.service.request.isSome then s.respond function tag 5 []
  else f s

/-- Ends the request under way with a response. -/
def State.answer (s : State) (status : Nat) (payload : List Byte) : State :=
  match s.service.request with
  | none => s
  | some r => (s.respond r.function r.tag status payload).updService fun v => { v with request := none }

/-! ### IDENT (Table 18-8) -/

/-- Code of a slot's state. -/
def slotCode (n : NonVolatile) (b : Bool) : Nat :=
  if n.armedB = some b then 4
  else match slotOf n b with
    | .empty => 0
    | .loading => 1
    | .verified => 2
    | .failed => 3

/-- A fingerprint as 9 bytes. -/
def fingerBytes (ws : List Word) : List Byte := bytesBE 9 (ofBits (ws.flatMap bitsOf))

/-- What IDENT says of a slot. -/
def State.slotIdentity (s : State) (b : Bool) : List Byte :=
  bytesBE 2 (s.imageVersion b) ++ bytesBE 1 (s.imageRollback b) ++ [BitVec.ofNat 8 (slotCode s.nv b)]

/-- Oldest and newest SEQ; of an empty log the manual states none (log 5). -/
def State.seqBounds (s : State) : List Byte × State :=
  match s.records.head?, s.records.getLast? with
  | some a, some b => (a.take 2 ++ b.take 2, s)
  | _, _ =>
    let (u, s) := s.drawWord
    let (v, s) := s.drawWord
    (bytesBE 2 u.toNat ++ bytesBE 2 v.toNat, s)

/-- Response payload of IDENT; the role is given as its STR_ROLE level. -/
def State.identity (s : State) (seqs : List Byte) : List Byte :=
  bytesBE 8 Config.factoryNumber.toNat ++ [BitVec.ofNat 8 s.nv.lifeCycle.code] ++
    [((level s.straps.latched 0).map fun k => BitVec.ofNat 8 k).getD 0xFF, (s.position.map fun q => q.setWidth 8).getD 0xFF] ++
    [if s.nv.activeB then 1 else 0] ++ s.slotIdentity false ++ s.slotIdentity true ++ [BitVec.ofNat 8 s.nv.fuses] ++
    bytesBE 3 s.sealNumber.toNat ++ fingerBytes (fingerprint s.straps.latched) ++ seqs ++ bytesBE 4 s.seconds.toNat ++
    bytesBE 4 s.keeper.energy.toNat ++ [if s.keeper.lockout then 1 else 0]

/-- IDENT (R551). -/
def execIdent (tag : Byte) (s : State) : Host.Outcome State Fault Refusal :=
  .next <| s.serve 0x01 tag fun t =>
    let (b, t) := t.seqBounds
    t.respond 0x01 tag 0 (t.identity b)

/-! ### LOG READ (R552) -/

/-- Up to `n` present records from the first at or after a SEQ, oldest first. -/
def State.recordsFrom (s : State) (first : BitVec 16) (n : Nat) : List (List Byte) :=
  (s.records.dropWhile fun r => !(seqOf r == first || seqLater (seqOf r) first)).take n

/-- SEQ of the first record returned; of none returned the manual states nothing (log 5). -/
def State.firstReturned (s : State) (rs : List (List Byte)) : Word × State :=
  match rs with
  | r :: _ => (word (seqOf r).toNat, s)
  | [] => let (w, s) := s.drawWord; (word (w.toNat % 65536), s)

/-- A remote read can be answered: the position exists, is not FOREIGN and not on lifeline. -/
def State.remoteAnswers (s : State) (i : Nat) : Bool := (s.pos i).state ≠ .foreign && (s.shownLifeline i).isNone

/-- LOG READ of the device itself: at most 64 records. -/
def State.readOwn (s : State) (tag : Byte) (first : BitVec 16) (n : Nat) : State :=
  let rs := s.recordsFrom first (sat 64 n)
  let (w, s) := s.firstReturned rs
  s.respond 0x02 tag 0 (bytesBE 2 w.toNat ++ [BitVec.ofNat 8 rs.length] ++ rs.flatten)

/-- LOG READ of a remote position: the Dealer only; the request runs until the records come (R552). -/
def State.readRemote (s : State) (tag : Byte) (i : Nat) (first : BitVec 16) (n : Nat) : State :=
  if !s.isDealer then s.respond 0x02 tag 2 []
  else if s.ring.count ≤ i ∨ n = 0 then s.respond 0x02 tag 3 []
  else
    let s := s.updService fun v => { v with request := some { function := 0x02, tag := tag, position := BitVec.ofNat 8 i } }
    if s.remoteAnswers i then s.sendService (s.portToward i) [callWord 3 i 0, word first.toNat, word (sat 7 n)] else s

/-- LOG_READ (R552). -/
def execLogRead (tag position : Byte) (firstSeq : BitVec 16) (count : Byte) (s : State) : Host.Outcome State Fault Refusal :=
  .next <| s.serve 0x02 tag fun t =>
    if position = 0xFF || t.position = some (position.setWidth 6) && position.toNat < 64 then t.readOwn tag firstSeq count.toNat
    else t.readRemote tag position.toNat firstSeq count.toNat

/-- A LOG_REQUEST at its target: the core answers with LOG_RECORDS; a device refused by the Dealer does not. -/
def State.handleLogRequest (s : State) (ws : List Word) : State :=
  if s.isDealer || !s.core || s.ring.refused then s
  else
    let rs := s.recordsFrom ((pw ws 1).setWidth 16) (sat 7 (pw ws 2).toNat)
    let (w, s) := s.firstReturned rs
    s.sendService s.ring.primary ([callWord 4 0 0, w, word rs.length] ++ rs.flatMap imageWords)

/-- LOG_RECORDS at the Dealer answer the LOG READ of that position. -/
def State.handleLogRecords (s : State) (src : Nat) (ws : List Word) : State :=
  if s.isDealer && s.serves && s.service.request.any fun r => r.function == 0x02 && r.position.toNat == src then
    let c := sat 7 (pw ws 2).toNat
    s.answer 0 (bytesBE 2 (pw ws 1).toNat ++ [BitVec.ofNat 8 c] ++ imageBytes ((ws.drop 3).take (8 * c)))
  else s

/-! ### Loading (R555) -/

/-- The largest number of blocks of 64 bytes in a slot of 384 KB. -/
def maxBlocks : Nat := 6144

/-- The inactive slot. -/
def State.inactive (s : State) : Bool := !s.nv.activeB

/-- A block is accepted: its number is the next expected, or 0 (R555). -/
def State.blockFits (s : State) (n total : Nat) : Bool :=
  n < total && total ≤ maxBlocks && (n = 0 || n = s.service.nextBlock)

/-- Writes a block: block 0 restarts the load and clears an armed commit; the first block of a 4 KB sector erases it. -/
def State.writeBlock (s : State) (n total : Nat) (bytes : List Byte) : State :=
  let b := s.inactive
  let a := slotBase b + 64 * n
  let s := if n = 0 then
      (s.updService fun v => { v with pendCommit := none, distribute := none, reported := [] }).updNv fun x => { x with armedB := none }
    else s
  let m := if n % 64 = 0 then Memory.erase s.flash a 4096 else s.flash
  let s := { s with flash := Memory.program m a (padTo 64 bytes) }
  let s := s.updNv fun x => { setSlot b .loading x with shipped := x.shipped && b }
  let s := s.updService fun v => { v with nextBlock := n + 1, total := total }
  if n = 0 then s.logImage 1 b else s

/-- Writes blocks in turn as far as they are accepted. -/
def State.writeBlocks (total : Nat) : Nat → List (List Byte) → State → State
  | _, [], s => s
  | n, x :: xs, s => if s.blockFits n total then State.writeBlocks total (n + 1) xs (s.writeBlock n total x) else s

/-- Every block of the image is written and its check runs. -/
def State.loaded (s : State) : Bool :=
  slotOf s.nv s.inactive = .loading && s.service.total ≠ 0 && s.service.nextBlock = s.service.total

/-- Response payload of IMAGE LOAD. -/
def State.loadAnswer (s : State) : List Byte :=
  bytesBE 2 s.service.nextBlock ++ [BitVec.ofNat 8 (slotCode s.nv s.inactive)]

/-- Arguments of IMAGE LOAD are in range. -/
def loadOk (scope : Byte) (first total : Nat) (blocks : List (List Byte)) : Bool :=
  scope.toNat ≤ 1 && 1 ≤ blocks.length && blocks.length ≤ 16 && (blocks.all fun x => x.length = 64) && total ≤ maxBlocks &&
    first + blocks.length ≤ total

/-- The life-cycle states that take images through the service port (Table 18-10). -/
def State.takesImages (s : State) : Bool := s.nv.lifeCycle = .field || s.nv.lifeCycle = .returned

/-- IMAGE_LOAD (R555): the response to the last block waits for the check (Table 18-9). -/
def execImageLoad (tag scope : Byte) (firstBlock totalBlocks : Nat) (blocks : List (List Byte)) (s : State) :
    Host.Outcome State Fault Refusal :=
  .next <| s.serve 0x03 tag fun t =>
    if !loadOk scope firstBlock totalBlocks blocks then t.respond 0x03 tag 3 t.loadAnswer
    else if !t.takesImages || (scope = 1 && !t.isDealer) then t.respond 0x03 tag 2 t.loadAnswer
    else if !t.blockFits firstBlock totalBlocks then t.respond 0x03 tag 3 t.loadAnswer
    else
      let t := (State.writeBlocks totalBlocks firstBlock blocks t).updService fun v => { v with ringScope := scope = 1 }
      if t.loaded then t.updService fun v => { v with request := some { function := 0x03, tag := tag, position := 0xFF } }
      else t.respond 0x03 tag 0 t.loadAnswer

/-- IMAGE_STATUS of this device (Table 9-15). -/
def State.sendImageStatus (s : State) (next status : Nat) : State :=
  s.sendService s.ring.primary [callWord 2 0 0, word next, word (status * 2 ^ 16)]

/-- Status field of IMAGE_STATUS after a check; a refused token has none stated (log 5). -/
def State.statusOfCheck (s : State) (c : ImageCheck) : Nat × State :=
  match c with
  | .ok => (1, s)
  | .signature => (2, s)
  | .rollback => (3, s)
  | .token => let (w, s) := s.drawWord; (w.toNat % 4, s)

/-- IMAGE record event of a check (Table 18-9). -/
def ImageCheck.event : ImageCheck → Nat
  | .ok => 2
  | .signature => 3
  | .rollback => 4
  | .token => 10

/-- IMAGE_VERIFIED (R554 to R556): the slot becomes verified or failed; the request that waited is answered; a Hand reports
at once; the Dealer begins to distribute a verified image of ring scope, never a token (R562). -/
def execImageVerified (s : State) : Host.Outcome State Fault Refusal :=
  .next <|
    if !(s.running && s.core && s.loaded) then s
    else
      let b := s.inactive
      let c := s.checkImage b
      let ok : Bool := c = .ok
      let s := (s.updNv (setSlot b (if ok then .verified else .failed))).logImage c.event b
      let s := if s.service.request.any fun r => r.function == 0x03 then s.answer (if ok then 0 else 7) s.loadAnswer else s
      if s.isDealer then
        if ok && s.service.ringScope && !s.isToken b then s.updService fun v => { v with distribute := some 0 } else s
      else
        let (x, s) := s.statusOfCheck c
        s.sendImageStatus s.service.nextBlock x

/-- An IMAGE_BLOCK at a Hand (R555, R557): a number equal to the total carries the commit digest. -/
def State.handleImageBlock (s : State) (ws : List Word) : State :=
  let n := (pw ws 1).toNat
  let total := (pw ws 2).toNat
  let b := s.inactive
  if s.isDealer || !s.core || !s.takesImages then s
  else if n = total then
    if slotOf s.nv b = .verified && (imageBytes ((ws.drop 3).take 16)) = s.imageDigest b then
      ((s.updNv fun x => { x with armedB := some b }).logImage 5 b).sendImageStatus (total + 1) 1
    else s
  else if s.blockFits n total then s.writeBlock n total (imageBytes ((ws.drop 3).take 32))
  else s

/-- IMAGE_STATUS_SEND (R556): a Hand that loads. -/
def execImageStatusSend (s : State) : Host.Outcome State Fault Refusal :=
  .next <|
    if s.running && !s.isDealer && s.core && slotOf s.nv s.inactive = .loading then s.sendImageStatus s.service.nextBlock 0 else s

/-! ### Distribution (R556) -/

/-- Sends a SERVICE frame out of every port that has a generation. -/
def State.sendAllPorts (s : State) (ws : List Word) : State :=
  let s := if s.cfg.genN.ring then s.sendService .n ws else s
  if s.cfg.genS.ring then s.sendService .s ws else s

/-- SERVICE frames still free in this deal on every port. -/
def State.serviceRoom (s : State) : Nat :=
  8 - max (if s.cfg.genN.ring then s.portN.serviceSent else 0) (if s.cfg.genS.ring then s.portS.serviceSent else 0)

/-- The blocks of a deal: up to 8, from the next one to send. -/
def State.distributeBlocks (s : State) : State :=
  match s.service.distribute with
  | none => s
  | some p =>
    if !s.core then s
    else
      let n := min s.serviceRoom (s.service.total - p)
      let s := (List.range n).foldl (fun t i =>
        t.sendAllPorts ([callWord 1 63 0, word (p + i), word s.service.total] ++
          imageWords (Memory.bytes s.flash (slotBase s.inactive + 64 * (p + i)) 64))) s
      s.updService fun v => { v with distribute := some (p + n) }

/-- Blocks of the image in a slot. -/
def State.imageBlocks (s : State) (b : Bool) : Nat := ((bodyLength (s.header b)).getD 0 + 192) / 64

/-- Lowest next block among the Hands that load. -/
def lowestNext (rs : List (Nat × Nat × Nat)) : Option Nat := ((rs.filter fun r => r.2.2 = 0).map fun r => r.2.1).min?

/-- Result counts of a commit: committed, pending, refused. -/
def commitCounts (a b c : Nat) : List Byte := [countByte a, countByte b, countByte c]

/-- Devices a ring commit concerns. -/
def State.ringSize (s : State) : Nat := s.ring.count

/-- IMAGE_STATUS at the Dealer (R556, R557): a Hand that has fallen behind takes the distribution back once its pass is
through; commit answers are counted. -/
def State.handleImageStatus (s : State) (src : Nat) (ws : List Word) : State :=
  if !s.isDealer || !s.core then s
  else
    let next := (pw ws 1).toNat
    let st := field (pw ws 2) 17 16
    let s := s.updService fun v => { v with reported := v.reported.filter (·.1 ≠ src) ++ [(src, next, st)] }
    let v := s.service
    if v.request.any (fun r => r.function == 0x04) && st = 1 && next = s.imageBlocks s.inactive + 1 then
      let s := s.updService fun v => { v with committed := v.committed.filter (· ≠ src) ++ [src] }
      if s.handPositions.all s.service.committed.contains then s.answer 0 (commitCounts s.ringSize 0 0) else s
    else if v.distribute.any (fun p => v.total ≤ p) && st = 0 && next < v.total then
      s.updService fun v => { v with distribute := some ((lowestNext v.reported).getD next) }
    else s

/-! ### Commit (R557, R558) -/

/-- A commit may be armed: the pack OPEN and every string command OPEN, as far as the device knows them. -/
def State.mayArm (s : State) : Bool :=
  if s.isDealer then s.services.pack = .opened && s.services.strings.all fun v => v.cmd = .open && v.sent = .open
  else (s.ring.cmds.all fun c => c = .open) && !s.coilsOn

/-- Sixteen words that fill the commit block behind the digest; the manual states none (log 5). -/
def State.fillWords (s : State) : List Word := (List.range 16).map fun i => word ((Config.freeWord (s.dev.freeCtr + i)).toNat % 65536)

/-- The commit block (R557). -/
def State.sendCommitBlock (s : State) : State :=
  let b := s.inactive
  let total := s.imageBlocks b
  (s.sendAllPorts ([callWord 1 63 0, word total, word total] ++ imageWords (s.imageDigest b) ++ s.fillWords)).updDev fun d =>
    { d with freeCtr := d.freeCtr + 16 }

/-- Arms the inactive slot (R557). -/
def State.arm (s : State) (ringScope : Bool) : State :=
  let b := s.inactive
  let s := ((s.updNv fun x => { x with armedB := some b }).updService fun v => { v with pendCommit := none, committed := [] }).logImage 5 b
  if ringScope then s.sendCommitBlock else s

/-- A pending commit is armed once both conditions hold (R558); without a verified slot it stays. -/
def State.armPending (s : State) : State :=
  match s.service.pendCommit with
  | none => s
  | some r => if s.mayArm && s.core && slotOf s.nv s.inactive = .verified then s.arm r else s

/-- IMAGE_COMMIT (R557, R558). A ring commit runs until every position has answered. -/
def execImageCommit (tag scope : Byte) (s : State) : Host.Outcome State Fault Refusal :=
  .next <| s.serve 0x04 tag fun t =>
    let ringScope : Bool := scope = 1
    let n := if ringScope then t.ringSize else 1
    if 1 < scope.toNat then t.respond 0x04 tag 3 (commitCounts 0 0 0)
    else if !t.takesImages || (ringScope && (!t.isDealer || t.isToken t.inactive)) then t.respond 0x04 tag 2 (commitCounts 0 0 n)
    else if slotOf t.nv t.inactive ≠ .verified then
      t.respond 0x04 tag (if slotOf t.nv t.inactive = .failed then 7 else 2) (commitCounts 0 0 n)
    else if !t.mayArm then
      ((t.updService fun v => { v with pendCommit := some ringScope }).logImage 6 t.inactive).respond 0x04 tag 4 (commitCounts 0 n 0)
    else
      let t := t.arm ringScope
      if ringScope && !t.handPositions.isEmpty then
        t.updService fun v => { v with request := some { function := 0x04, tag := tag, position := 0xFF } }
      else t.respond 0x04 tag 0 (commitCounts n 0 0)

/-! ### Ends of requests -/

/-- REQUEST_GAP_TIMEOUT (R550): the bytes received so far are discarded; no request has come about. -/
def execRequestGapTimeout (s : State) : Host.Outcome State Fault Refusal := .next s

/-- REMOTE_TIMEOUT (R550, Table 18-7): no answer within 16 deals. -/
def execRemoteTimeout (s : State) : Host.Outcome State Fault Refusal :=
  .next <|
    match s.service.request with
    | none => s
    | some r =>
      if !s.serves then s
      else if r.function = 0x02 then s.answer 6 []
      else if r.function = 0x04 then
        let n := 1 + s.service.committed.length
        s.answer 6 (commitCounts n 0 (s.ringSize - n))
      else s

/-- SERVICE_KEY_REMOVED (R547, R548, R558): the port closes until reset; the request is abandoned, a pending commit
lapses. -/
def execServiceKeyRemoved (keyRatio : Rat) (s : State) : Host.Outcome State Fault Refusal :=
  .next <|
    if s.running && s.service.open_ && !keyReads keyRatio then
      s.updService fun v => { v with open_ := false, request := none, pendCommit := none }
    else s

/-- A payload length that a function takes (Table 18-8). -/
def payloadOk (function : Byte) (n : Nat) : Bool :=
  if function = 0x01 then n = 0
  else if function = 0x02 then n = 4
  else if function = 0x03 then 69 ≤ n && n ≤ 1029 && (n - 5) % 64 = 0
  else n = 1

/-- INVALID_SERVICE_REQUEST (R549, R550): a failed CRC or an unknown function gets no response; a known function with a
wrong length gets status 3 (Table 18-7). -/
def execInvalidServiceRequest (bytes : List Byte) (s : State) : Host.Outcome State Fault Refusal :=
  let f := bytes.getD 0 0
  let n := bytes.length
  let crcOk : Bool := 6 ≤ n && (crc16 (bytes.take (n - 2))).toNat = ofBytesBE (bytes.drop (n - 2))
  let known := f = 0x01 || f = 0x02 || f = 0x03 || f = 0x04
  let len := ofBytesBE ((bytes.drop 2).take 2)
  .next <|
    if crcOk && known && !(len = n - 6 && payloadOk f len) then s.serve f (bytes.getD 1 0) fun t => t.respond f (bytes.getD 1 0) 3 []
    else s

end Sys2Proof.Machine
end

