-- ==== Sys2Proof/Machine/Deal.lean ====
section
/-!
DEFINITION. One deal: the beacon of the Dealer (chapters 01, 09, 10 and 12), the closure with the pack services
(chapters 10 and 14), and what every device does at its predicted boundary.
-/
namespace Sys2Proof.Machine

/-! ### The kitty (R354 to R358) -/

/-- A position takes part in the kitty: STR_BAL is not level 0 and its straps are in order (R354). -/
def State.takesShare (s : State) (i : Nat) : Bool :=
  s.levelAt i 5 ≠ 0 &&
    if i = 0 then !s.strapFault && !s.straps.mismatch
    else !s.reports i (fun a => a.sfault || a.smism) fun a => a.sfault || a.smism

/-- Present devices (R354). -/
def State.presentNow (s : State) : List Nat :=
  (List.range s.ring.count).filter fun i =>
    (i = 0 || (s.pos i).state = .inRing || (s.pos i).state = .late) && s.takesShare i

/-- A beacon starts a kitty period: the first, one that leaves 1 s or more after the last start, or one after a change of
the present devices (R355). -/
def State.startsKitty (s : State) (first : Bool) (t : Nat) : Bool :=
  first || s.dealer.kittyStart + 1000000000 ≤ t || s.presentNow ≠ s.dealer.present

/-- The kitty period starts on the Dealer: present devices fixed, jobs counted anew, ENERGY due (Tables 15-4, 15-11). -/
def State.kittyPeriod (s : State) (t : Nat) : State :=
  let ps := s.presentNow
  let s := s.updDealer fun d => { d with kittyStart := t, present := ps, jobsLast := d.jobsNow, jobsNow := 0 }
  s.updVehicle fun v => { v with canOut := { v.canOut with energyDue := true }, rsOut := { v.rsOut with energyDue := true } }

/-- Mean power in mW over a span (R372). -/
def meanPower (start now : BitVec 32) (ticks : Nat) : Rat := ((now - start).toNat : Rat) * 32768 / ticks

/-- A kitty period that this device passed without a job and outside the lowest state gives the baseline (R372). -/
def State.takeBaseline (s : State) : State :=
  let idle : Bool := s.balance.jobs.isEmpty && !s.supply.lowest
  s.updBalance fun b =>
    { b with
      baseline := match b.baseStart with
        | some (t, e) => if t < s.now then some (meanPower e s.keeper.energy (s.now - t)) else b.baseline
        | none => b.baseline
      baseStart := if idle then some (s.now, s.keeper.energy) else none }

/-- The share to write in the beacon (R356, R358). -/
def State.shareNow (s : State) : Nat :=
  if !s.core || s.dealer.current || s.dealer.target.isNone then 0 else s.cfg.kittyMw

/-- Ring-wide reason (R377): CURRENT, else PACE. -/
def State.ringReason (s : State) : Nat :=
  if !s.core then 0 else if s.dealer.current then 8 else if s.dealer.paceEp.isSome then 6 else 0

/-! ### The beacon -/

/-- The deal of a beacon begins on the Dealer: deal 0 first (R285), period changes (R296), the strapped period on a failed
core (R12), and the count of R462. -/
def State.dealerDeal (s : State) (first : Bool) (t : Nat) : State :=
  let old := s.ring.period
  let s := s.newDeal (if first then 0 else s.ring.deal + 1)
  let s := if first then s.updRing fun r => { r with period := s.cfg.period } else s
  let s := if s.core then s else
    (s.updRing fun r => { r with period := s.cfg.period, announced := none }).updDealer fun d => { d with announceLeft := 0 }
  let s := s.updRing fun r => { r with dealing := true, beaconAt := s.now, t0 := t, closed := s.cfg.closed, lock := s.keeper.lockout }
  let s := s.updDealer fun d =>
    { d with firstBeacon := false, open_ := true, t0 := t, lastMeld := t, trumps := d.trumps.filter fun x => (s.ring.deal - x.2.1).toNat ≤ 4 }
  s.updVehicle fun v => { v with pubDeal := if first || s.ring.period ≠ old then 0 else v.pubDeal + 1 }

/-- The PACE episode ends once the period has returned to the strapped one (R296, R377). -/
def State.endPace (s : State) : State :=
  if s.ring.period = s.cfg.period && !s.announcing && s.core then s.ringEpisode 6 false else s

/-- String commands leave with the beacon (R440). -/
def State.sendCommands (s : State) : State :=
  let now := s.now
  s.updServices fun v =>
    { v with strings := v.strings.map fun x => if x.sent = x.cmd then x else { x with sent := x.cmd, cmdAt := now } }

/-- A committed seal is announced once; the beacon after it requests the ring reset (R84, R86). -/
def State.announces (s : State) : Bool := s.dealer.sealing.any fun x => x.committed && !x.announced

/-- A ring reset is requested (R310). -/
def State.requestsReset (s : State) : Bool := s.dealer.wantReset || s.dealer.sealing.any (·.announced)

/-- The fields of the Dealer's beacon (Tables 9-8, 9-9). -/
def State.beacon (s : State) (kper : Bool) : Beacon :=
  let act := s.nv.active
  { rst := s.requestsReset
    sealc := s.announces
    pchg := s.dealer.announceLeft ≠ 0
    closed := s.cfg.closed
    nosvc := !s.core
    lock := s.keeper.lockout
    kper := kper
    isSealed := s.sealNumber ≠ 0
    legacy := s.hasTail
    rthr := s.ringReason
    period := s.ring.period
    annPeriod := if s.dealer.announceLeft = 0 then 0 else (s.ring.announced.map (·.1)).getD 0
    annDeal := if s.dealer.announceLeft = 0 then 0 else (s.ring.announced.map (·.2)).getD 0
    sealNo := s.sealNumber
    sealChk := (act.map (·.check)).getD 0
    count := s.ring.count
    cmds := [2, 3, 4].map fun k => (s.str k).cmd
    target := if s.core then s.dealer.target.getD 0 else 0
    band := if s.core && s.dealer.target.isSome then 200 else 0
    share := s.shareNow
    key := 0
    map := s.handPositions.filter fun i => (s.pos i).state.isAdmitted }

/-- What the beacon puts in force on the Dealer itself at T0 (R31, R367, R370). -/
def State.takeOwnBeacon (s : State) (b : Beacon) : State :=
  let s := s.updRing fun r =>
    { r with target := b.target, band := b.band, share := b.share, rthr := b.rthr, cmds := b.cmds, dealerSeal := b.sealNo }
  if b.share = 0 then s.endJobs fun _ => true else s

/-- Two SEAL_CHUNKs per deal leave by every port with a generation (R84, R276). -/
def State.sendChunks (s : State) : State :=
  match s.dealer.sealing with
  | none => s
  | some x =>
    let n := (x.record.entries.length + 6) / 7
    let cs := (List.range n).filter fun c => x.chunk ≤ c && c < x.chunk + 2
    let s := cs.foldl (fun t c =>
      let t := if t.cfg.genN.ring then t.send .n .rollcall (chunkPayload x.record c) else t
      if t.cfg.genS.ring then t.send .s .rollcall (chunkPayload x.record c) else t) s
    s.updDealer fun d => { d with sealing := d.sealing.map fun y => { y with chunk := y.chunk + cs.length } }

/-- The state of a sealing and of a requested reset after the beacon has left (R84, R86, R119, R310). -/
def State.afterBeacon (s : State) (b : Beacon) : State :=
  let s := s.updDealer fun d =>
    { d with announceLeft := d.announceLeft - 1, wantReset := false
             sealing := if b.rst then none else d.sealing.map fun x => { x with announced := x.announced || b.sealc } }
  s.updDev fun d => { d with resetPending := d.resetPending || b.rst }

/-- The Dealer's outputs, READY and the entry into STORAGE at T0 (R11, R99, R443, R472). -/
def State.packAtT0 (s : State) : State :=
  let s := s.endOpening.outputCommand
  s.updPins fun p => { p with ready := p.ready || s.services.readyNext }

/-- STORAGE entry begins once the sequenced opening has come to OPEN (R99, R112). -/
def State.storageAfterOpening (s : State) : State :=
  if s.services.toStorage && s.services.pack = .opened then
    (s.updServices fun v => { v with toStorage := false }).beginEntry
  else s

/-- DEAL_BEACON (R285, R302, R355, R356): the beacon of the next deal leaves on both ports at T0. -/
def execDealBeacon (t : Nat) (s : State) : Host.Outcome State Fault Refusal :=
  .next <|
    if !(s.isDealer && s.running && s.dealer.discovery.done && !s.dev.fatal && !s.dealer.stopped && !s.dev.offTest) then s
    else
      let first := s.dealer.firstBeacon
      let s := (s.dealerDeal first t).endPace.packAtT0
      let kper := s.startsKitty first t
      let s := if kper then (s.kittyPeriod t).takeBaseline else s
      let b := s.beacon kper
      let ws := b.words
      let s := s.sendCommands.takeOwnBeacon b
      let s := s.updDealer fun d => { d with sent := ws }
      let s := (s.sendBeacon .n (s.ownFrame .n .beacon ws)).sendBeacon .s (s.ownFrame .s .beacon ws)
      (s.afterBeacon b).sendChunks.releaseHeld.distributeBlocks.storageAfterOpening

/-! ### Closure (R292 to R294, R307, R494) -/

/-- The parts of the deal become those of the last closed deal. -/
def closeParts (p : PosInfo) : PosInfo :=
  { p with lastA := p.partA.or p.lastA, lastB := p.partB.or p.lastB
           missA := if p.partA.isSome then 0 else p.missA + 1
           missB := if p.partB.isSome then 0 else p.missB + 1
           partA := none, partB := none }

/-- Takes a position out of service (R294, R494): SUPERV bit 7. -/
def State.absent (s : State) (i : Nat) : State :=
  (((s.setPos i .dummy).updPos i fun p => { p with outOfService := true })).raise .superv 7

/-- One position at the closure. -/
def State.closePosition (s : State) (i : Nat) : State :=
  let p := s.pos i
  let late := p.partA.isNone || p.partB.isNone
  let noMgt : Bool := (p.partB.map readMeldB).any fun b => !b.mgt
  let s := s.updPos i fun p => { closeParts p with fatal := false }
  let s := if noMgt then s.updDealer fun d => { d with mgtMissing := d.mgtMissing + 1 } else s
  if i = 0 || !p.state.isAdmitted then s
  else
    let s := if late then (s.setPos i .late).raise .superv 1
      else s.setPos i (if ((p.partA.map readMeldA).any (·.settling)) then .settling else .inRing)
    if p.fatal || 3 ≤ (s.pos i).missA || 3 ≤ (s.pos i).missB then s.absent i else s

/-- Finished jobs that arrived with the deal (R448, Table 15-11); an energy of 0x3FFFF is no energy (R371). -/
def State.countJobs (s : State) : State :=
  let js := s.admittedList.flatMap fun i => ((s.shownB i).map (·.jobs)).getD []
  let mj := ((js.map fun j => j.2.toNat).filter (· ≠ 0x3FFFF)).sum
  (s.updServices fun v => { v with jobTotal := v.jobTotal + mj }).updDealer fun d => { d with jobsNow := d.jobsNow + js.length }

/-- The pack services of a closure (R29): target, current, strings, sequence, limits. -/
def State.servePack (s : State) : State :=
  let s := s.countJobs.target.currentReason
  let s := s.stringList.foldl State.serveString s
  let rest := s.services.rested && s.stringList.any fun k => !(s.str k).firstTaken
  ((s.updServices fun v => { v with rested := rest }).packStep).publishLimits

/-- DEAL_CLOSURE (R292 to R297, R307, R363, R438, R462, R469 to R473, R558). -/
def execDealClosure (s : State) : Host.Outcome State Fault Refusal :=
  .next <|
    if !(s.isDealer && s.running && s.dealer.open_ && !s.dev.fatal && !s.dev.offTest) then s
    else
      let ps := List.range s.ring.count
      let s := (s.updDealer fun d => { d with open_ := false }).updVehicle fun v => { v with closedDeal := s.ring.deal }
      let s := ps.foldl State.closePosition s
      let s := (ps.filter (1 ≤ ·)).foldl State.actRejoin s
      let s := s.raiseIf (!s.ringConsistent && !s.has .strap 5) .strap 5
      let s := s.degradedClosure
      let s := if s.core then s.pace.servePack else s.coreLost
      s.closurePins.armPending.stagePublication

/-! ### The predicted boundary (R365) -/

/-- The deal of a device other than the Dealer moves on by prediction, unless its beacon came first (R26, R275). -/
def State.moveDeal (s : State) : State :=
  if s.isDealer then s
  else if s.ring.ahead then s.updRing fun r => { r with ahead := false }
  else
    let s := s.newDeal (s.ring.deal + 1)
    (s.updRing fun r => { r with t0 := r.t0 + (periodMs r.period * 1000000 : Nat) }).releaseHeld

/-- A deal without a check-in is counted (R484). -/
def State.countCheckIn (s : State) : State :=
  s.updDev fun d => { d with checkMiss := if d.checkedIn then 0 else d.checkMiss + 1, checkedIn := false }

/-- The FATAL TRUMP is repeated at the next two boundaries (R493). -/
def State.repeatFatal (s : State) : State :=
  if s.dev.fatal && s.ring.fatalLeft ≠ 0 then
    (s.sendTrumpWords s.ring.fatalTrump).updRing fun r => { r with fatalLeft := r.fatalLeft - 1 }
  else s

/-- DEAL_BOUNDARY (R365 to R369, R375, R381, R387, R446, R447, R484, R486, R493): the local updates of each deal. -/
def execDealBoundary (s : State) : Host.Outcome State Fault Refusal :=
  .next <|
    if !(s.deals && !s.dev.offTest) then s
    else
      let s := s.moveDeal.countCheckIn.endReactions
      let s := s.acvBoundary.dieRelease.closeEpisodes
      let s := s.leaveLowest.schedule.acvSelect
      let s := (s.noteReasons 1).lamps.heating.fanBoundary
      s.repeatFatal.updSafety fun f => { f with ilkDeals := f.ilkDeals + 1 }

end Sys2Proof.Machine
end

