-- ==== Sys2Proof/Machine/Receive.lean ====
section
/-!
DEFINITION. Frames received good (chapter 09, sections 5 to 8): SEQ order and acknowledgement, the checks of R274 and
R276, what is relayed and what consumed, the beacon on a Hand, and the MELDs, TRUMPs and LIFELINE frames at the Dealer.
-/
namespace Sys2Proof.Machine

/-! ### The checks of R274 -/

/-- Deal number `d` is n − 1, n or n + 1 (R274). -/
def nearDeal (n d : Word) : Bool := (d - n + 1).toNat ≤ 2

/-- Hops between a source and a receiver along the direction of SIDE (R274). -/
def hopsBetween (side : Port) (q r n : Nat) : Nat :=
  let d : Int := match side with
    | .n => (r : Int) - q
    | .s => (q : Int) - r
  let h := (d % (n : Int)).toNat
  if h = 0 then n else h

/-- The deal window (R274): LIFELINE and ROLLCALL frames are exempt, as is a device without a current deal. -/
def State.windowOk (s : State) (ft : FrameType) (f : RxFrame) : Bool :=
  ft = .lifeline || ft = .rollcall || !s.ring.dealing || nearDeal s.ring.deal f.deal

/-- The hop check (R274): CALL frames are exempt, as is a device without a position. -/
def State.hopOk (s : State) (ft : FrameType) (f : RxFrame) : Bool :=
  (ft = .rollcall && subtype f.payload = 1) ||
    match s.position with
    | none => true
    | some r => f.hop.toNat = hopsBetween f.side f.src.toNat r.toNat s.ring.count

/-- A received frame passes R274 and the HOP bound of R247. -/
def State.checksOk (s : State) (ft : FrameType) (f : RxFrame) : Bool :=
  f.hop.toNat ≤ 48 && s.windowOk ft f && s.hopOk ft f && (ft ≠ .beacon || f.src = 0)

/-- A frame dropped by a check is counted (R274, R276). -/
def State.countDropped (s : State) (p : Port) : State := (s.raise (portBlock p) 4).noteSeen p .dropped

/-! ### Relaying -/

/-- The frame a relay sends on (R247). -/
def relayFrame (p : Port) (ft : FrameType) (f : RxFrame) : TxFrame :=
  { ftype := ft, src := f.src, side := f.side, deal := f.deal, hop := f.hop + 1, payload := f.payload,
    slot := if ft = .beacon then none else some (p, f.reserve) }

/-- Ends a forwarded copy where the relay had begun one (R265, R272). -/
def State.endCopy (s : State) (p : Port) (ft : FrameType) (f : RxFrame) : State :=
  if f.forwarding then s.poisonCopy p.other (relayFrame p ft f) else s

/-- Discards a received frame: its slot is free (R267). -/
def State.discard (s : State) (p : Port) (ft : FrameType) (f : RxFrame) : State :=
  (s.updPort p (PortState.free f.reserve)).endCopy p ft f

/-- Relays a frame out of the other port (R216, R217, R264). A MELD past the deadline of that port is dropped (R271). -/
def State.relay (s : State) (p : Port) (ft : FrameType) (f : RxFrame) : State :=
  let out := p.other
  let x := relayFrame p ft f
  if !s.sends out then (s.queue out x).freeSlot x.slot
  else if meldLate (s.port out) x then ((s.raise (portBlock out) 3).freeSlot x.slot).endCopy p ft f
  else if s.slowToFast p out then s.updPort out fun q => { q with delayed := q.delayed ++ [x] }
  else s.queue out x

/-- A device that relays nothing: the Dealer, or one whose other port has no ring link (R264). -/
def State.isEnd (s : State) (p : Port) : Bool := s.isDealer || !(s.gen p.other).ring

/-- The target of a SERVICE or ROLLCALL frame is this device. -/
def State.isTarget (s : State) (ws : List Word) : Bool := s.position.any fun q => q.toNat = targetOf ws

/-- Whether this device consumes a frame without relaying it (R258, R264). -/
def State.consumes (s : State) (p : Port) (ft : FrameType) (f : RxFrame) : Bool :=
  s.isEnd p ||
    match ft with
    | .rollcall => subtype f.payload = 1 || s.isTarget f.payload
    | .service => s.isTarget f.payload
    | _ => false

/-- Whether this device acts on a frame: the Dealer on every one, another on CALLs and on what targets it or all. -/
def State.actsOn (s : State) (ft : FrameType) (f : RxFrame) : Bool :=
  s.isDealer ||
    match ft with
    | .rollcall => subtype f.payload = 1 || targetOf f.payload = 63 || s.isTarget f.payload
    | .service => targetOf f.payload = 63 || s.isTarget f.payload
    | _ => false

/-! ### MELDs at the Dealer -/

/-- Keeps a MELD of the open deal. -/
def State.keepMeld (s : State) (src : Nat) (ws : List Word) : State :=
  match meldPart ws with
  | 0 => s.updPos src fun p => { p with partA := some ws }
  | 1 => s.updPos src fun p => { p with partB := some ws }
  | 2 =>
    let a := field (pw ws 0) 15 12
    if a = 0 then s else s.updDealer fun d => { d with l1 := d.l1.modify (a - 1) fun x => { x with meld := some ws } }
  | _ => s

/-- The first part A without SETTLING completes an admission, and the degraded timer stops (R307). -/
def State.completeAdmission (s : State) (src : Nat) (ws : List Word) : State :=
  if meldPart ws = 0 && !(readMeldA ws).settling && ((s.pos src).state = .settling || (s.pos src).outOfService) then
    let s := if (s.pos src).state = .settling then s.setPos src .inRing else s
    (s.updPos src fun p => { p with outOfService := false }).degradedTimer
  else s

/-- A MELD at the Dealer: those of FOREIGN and DUMMY positions are dropped (R289, R290), those that come after the closure
counted as late (R292). -/
def State.handleMeld (s : State) (src : Nat) (deal : Word) (ws : List Word) (t : Nat) : State :=
  if !(s.pos src).state.isAdmitted || src = 0 || deal = s.ring.deal + 1 then s
  else if !(s.dealer.open_ && deal = s.ring.deal) then
    (s.updDealer fun d => { d with lateMelds := d.lateMelds + 1 }).raise .superv 2
  else
    ((s.updDealer fun d => { d with lastMeld := max d.lastMeld t }).keepMeld src ws).completeAdmission src ws

/-! ### TRUMPs at the Dealer -/

/-- TRUMP trace entry of a received TRUMP: 1 acted on, 2 dropped (Table 18-6). -/
def State.traceTrump (s : State) (what cause item src : Nat) : State :=
  s.trace 0x86 [BitVec.ofNat 8 what, BitVec.ofNat 8 cause, BitVec.ofNat 8 item, BitVec.ofNat 8 src, 0]

/-- What each cause of Table 9-13 brings about (Table 17-1, R494, R498, R445, R521). -/
def State.actTrump (s : State) (src cause : Nat) (ws : List Word) : State :=
  match cause with
  | 0x01 | 0x02 | 0x07 | 0x08 => s.trip (some 1)
  | 0x03 | 0x05 => s.trip (some 2)
  | 0x04 | 0x06 => s.trip none
  | 0x09 => s.trip (if codeOf (pw ws 3) < codeOf (pw ws 1) then some 2 else none)
  | 0x0A =>
    let s := s.updPos src fun p => { p with fatal := true }
    if (s.headString src).isSome then s.trip (some 4) else s
  | 0x0B =>
    match s.headString src with
    | some k => s.updStr k fun v => { v with cmd := .open, quiet := 0, peak := 0 }
    | none => s
  | 0x0C => s.updPos src fun p => { p with interlock := pw ws 1 }
  | _ => s

/-- A TRUMP at the Dealer (R266, R290, R469, R499): from an admitted position, and only its first copy. -/
def State.handleTrump (s : State) (src : BitVec 6) (deal : Word) (ws : List Word) : State :=
  let cause := field (pw ws 0) 17 12
  let item := field (pw ws 0) 11 7
  let key := (src, deal, cause, item)
  if !(s.pos src.toNat).state.isAdmitted then s.traceTrump 2 cause item src.toNat
  else if s.dealer.trumps.contains key then
    (s.updDealer fun d => { d with trumpDrops := d.trumpDrops + 1 }).traceTrump 2 cause item src.toNat
  else
    let s := (s.updDealer fun d => { d with trumps := d.trumps ++ [key] }).traceTrump 1 cause item src.toNat
    (s.actTrump src.toNat cause ws).updPins fun p => { p with faultN := p.faultN || s.running }

/-! ### LIFELINE frames -/

/-- A LIFELINE frame at the Dealer (R149 to R151): admitted only for a position that is no member, with the factory number
of its seal entry and the seal number. -/
def State.handleLifeline (s : State) (src : Nat) (ws : List Word) : State :=
  let ok := (s.sealEntry src).any (fun e => e.factory.toNat = ofWords16 (ws.take 4)) && pw ws 4 = s.sealNumber &&
    src ≠ 0 && !(s.pos src).state.isAdmitted
  if ok then s.updPos src fun p => { p with lifeline := some { payload := ws, at_ := s.now, stale := false } }
  else s.updDealer fun d => { d with lifeDrops := d.lifeDrops + 1 }

/-- A port forwards at most one LIFELINE frame per source in 5 s and drops and counts the excess (R148). -/
def State.relayLifeline (s : State) (p : Port) (f : RxFrame) : State :=
  if (s.port p).lifeSeen.any fun x => x.1 = f.src && !(s.passed x.2 5000) then
    (s.updPort p fun q => { q with lifeDrops := q.lifeDrops + 1 }).discard p .lifeline f
  else
    (s.updPort p fun q => { q with lifeSeen := q.lifeSeen.filter (·.1 ≠ f.src) ++ [(f.src, s.now)] }).relay p .lifeline f

/-! ### What a device does with a frame -/

/-- Acts on a consumed frame. -/
def State.consume (s : State) (p : Port) (ft : FrameType) (f : RxFrame) (t : Nat) : State :=
  let ws := f.payload
  let src := f.src.toNat
  match ft with
  | .beacon => s
  | .meld => s.handleMeld src f.deal ws t
  | .trump => s.handleTrump f.src f.deal ws
  | .lifeline => s.handleLifeline src ws
  | .rollcall =>
    match subtype ws with
    | 1 => s.handleCall p ws
    | 2 => s.handleAnswer src ws
    | 3 => s.handleSealChunk ws
    | 4 => s.handleSealConfirm src ws
    | 5 => s.handleRejoin src ws
    | _ => s
  | .service =>
    match subtype ws with
    | 1 => s.handleImageBlock ws
    | 2 => s.handleImageStatus src ws
    | 3 => s.handleLogRequest ws
    | 4 => s.handleLogRecords src ws
    | _ => s

/-- What R276 counts of a frame. -/
def seenOf (ft : FrameType) (f : RxFrame) : Option Seen :=
  match ft with
  | .meld =>
    match meldPart f.payload with
    | 0 => some (.partA f.src)
    | 1 => some (.partB f.src)
    | 2 => some (.legacy f.src (BitVec.ofNat 4 (field (pw f.payload 0) 15 12)))
    | _ => none
  | .trump => some (.trump f.src)
  | .rollcall => some (.rollcall f.src)
  | .service => some (.service f.src)
  | _ => none

/-- Counts a frame for the fence of its port (R276). -/
def State.noteFrame (s : State) (p : Port) (ft : FrameType) (f : RxFrame) : State :=
  match seenOf ft f with
  | some x => s.noteSeen p x
  | none => s

/-- A frame delivered in order: checked, then relayed, consumed or discarded (R264, R267, R274, R276). -/
def State.take (s : State) (p : Port) (ft : FrameType) (f : RxFrame) (t : Nat) : State :=
  if (s.port p).fenced then s.updPort p (PortState.free f.reserve)
  else if !s.checksOk ft f then (s.countDropped p).discard p ft f
  else
    let s := s.noteFrame p ft f
    if (s.port p).fenced then s.discard p ft f
    else if s.consumes p ft f then
      let s := s.updPort p (PortState.free f.reserve)
      if s.actsOn ft f then s.consume p ft f t else s
    else
      let s := if ft = .lifeline then s.relayLifeline p f else s.relay p ft f
      if s.actsOn ft f then s.consume p ft f t else s

/-! ### SEQ order (R269, R270, R272) -/

/-- The receiver moves past its next expected SEQ; ACK of it is due. -/
def advance (q : PortState) : PortState :=
  { q with rxNext := q.rxNext + 1, nakSent := false, ackDue := some (.ack q.rxNext) }

/-- ACK of the last frame delivered in order is due, a NAK that waits staying. -/
def ackLast (q : PortState) : PortState :=
  match q.ackDue with
  | some (.nak _) => q
  | _ => { q with ackDue := some (.ack (q.rxNext - 1)) }

/-- Delivers what was held behind the frame just delivered. -/
def State.drain (p : Port) : Nat → State → State
  | 0, s => s
  | n + 1, s =>
    let q := s.port p
    let x := q.rxNext
    if q.heldSkips.contains x then
      State.drain p n (s.updPort p fun q => advance { q with heldSkips := q.heldSkips.filter (· ≠ x) })
    else
      match q.heldFrames.find? fun h => h.2.1.seq = x with
      | none => s
      | some h =>
        State.drain p n
          ((s.updPort p fun q => advance { q with heldFrames := q.heldFrames.filter fun y => y.2.1.seq ≠ x }).take p h.1 h.2.1 h.2.2)

/-- Delivers all that is held in order; a further gap draws its NAK. -/
def State.drainAll (s : State) (p : Port) : State :=
  let s := s.drain p ((s.port p).heldFrames.length + (s.port p).heldSkips.length)
  if (s.port p).heldFrames.isEmpty then s else s.updPort p drawNak

/-- A good frame on a port: in SEQ order it is delivered, ahead of a gap it is held and draws a NAK, delivered before it is
discarded; each draws an ACK (R269, R272, R273). -/
def State.inOrder (s : State) (p : Port) (ft : FrameType) (f : RxFrame) (t : Nat) : State :=
  let s := s.updPort p fun q => { q with fails := 0 }
  let q := s.port p
  if f.seq = q.rxNext then ((s.updPort p advance).take p ft f t).drainAll p
  else if (f.seq - q.rxNext).toNat < 16 then
    if q.heldFrames.any fun h => h.2.1.seq = f.seq then (s.updPort p ackLast).discard p ft f
    else s.updPort p fun q =>
      let q := { q with heldFrames := q.heldFrames ++ [(ft, f, t)] }
      if q.nakSent then ackLast q else drawNak q
  else (s.updPort p ackLast).discard p ft f

/-- A device in RUN listens on a port, unless the port is under test (R575, R584). -/
def State.hears (s : State) (p : Port) : Bool := s.running && !s.deaf p

/-- A good frame other than a LIFELINE frame or a BEACON; it ends a feed (R140) and needs an up link. -/
def State.receive (s : State) (p : Port) (ft : FrameType) (f : RxFrame) (t : Nat) : State :=
  if !s.hears p then s
  else
    let s := s.endFeed p
    if (s.port p).up then s.inOrder p ft f t else s

/-- MELD_RECEIVED (R264, R266, R274, R292). -/
def execMeldReceived (port : Port) (f : RxFrame) (t : Nat) (s : State) : Host.Outcome State Fault Refusal :=
  .next <| s.receive port .meld f t

/-- TRUMP_RECEIVED (R266, R498, R499). -/
def execTrumpReceived (port : Port) (f : RxFrame) (s : State) : Host.Outcome State Fault Refusal :=
  .next <| s.receive port .trump f 0

/-- A ROLLCALL frame of one subtype. -/
def State.receiveCall (s : State) (sub : Nat) (p : Port) (f : RxFrame) : State :=
  if subtype f.payload = sub then s.receive p .rollcall f 0 else s

/-- A SERVICE frame of one subtype. -/
def State.receiveService (s : State) (sub : Nat) (p : Port) (f : RxFrame) : State :=
  if subtype f.payload = sub then s.receive p .service f 0 else s

/-- CALL (R258, R281 to R284, R305, R311). -/
def execCall (port : Port) (f : RxFrame) (s : State) : Host.Outcome State Fault Refusal := .next <| s.receiveCall 1 port f

/-- ANSWER (R284, R287). -/
def execAnswer (port : Port) (f : RxFrame) (s : State) : Host.Outcome State Fault Refusal := .next <| s.receiveCall 2 port f

/-- SEAL_CHUNK (R84). -/
def execSealChunk (port : Port) (f : RxFrame) (s : State) : Host.Outcome State Fault Refusal := .next <| s.receiveCall 3 port f

/-- SEAL_CONFIRM (R84). -/
def execSealConfirm (port : Port) (f : RxFrame) (s : State) : Host.Outcome State Fault Refusal := .next <| s.receiveCall 4 port f

/-- REJOIN (R307). -/
def execRejoin (port : Port) (f : RxFrame) (s : State) : Host.Outcome State Fault Refusal := .next <| s.receiveCall 5 port f

/-- IMAGE_BLOCK (R555, R557). -/
def execImageBlock (port : Port) (f : RxFrame) (s : State) : Host.Outcome State Fault Refusal := .next <| s.receiveService 1 port f

/-- IMAGE_STATUS (R556). -/
def execImageStatus (port : Port) (f : RxFrame) (s : State) : Host.Outcome State Fault Refusal := .next <| s.receiveService 2 port f

/-- LOG_REQUEST (R552). -/
def execLogRequest (port : Port) (f : RxFrame) (s : State) : Host.Outcome State Fault Refusal := .next <| s.receiveService 3 port f

/-- LOG_RECORDS (R552). -/
def execLogRecords (port : Port) (f : RxFrame) (s : State) : Host.Outcome State Fault Refusal := .next <| s.receiveService 4 port f

/-- Notes that the feed of a port is answered (R140). -/
def State.feedAnswered (s : State) (p : Port) : State :=
  s.updPort p fun q => if q.feed.active then { q with feed := { q.feed with answered := true } } else q

/-- LIFELINE_RECEIVED (R148, R149): accepted on a link that is down too, where it is acknowledged at once by its own SEQ. -/
def execLifelineReceived (port : Port) (f : RxFrame) (s : State) : Host.Outcome State Fault Refusal :=
  .next <|
    if !(s.hears port && (s.gen port).ring) then s
    else
      let s := s.feedAnswered port
      if (s.port port).up then s.inOrder port .lifeline f 0
      else (s.updPort port fun q => { q with line := [.control (.ack f.seq)] }).take port .lifeline f 0

/-- SKIP (R270): the SEQ counts as delivered; ACK of the last one delivered in order. -/
def execSkip (port : Port) (seq : BitVec 5) (s : State) : Host.Outcome State Fault Refusal :=
  .next <|
    if !s.hears port then s
    else
      let s := s.endFeed port
      let q := s.port port
      if !q.up then s
      else if seq = q.rxNext then (s.updPort port advance).drainAll port
      else if (seq - q.rxNext).toNat < 16 then
        s.updPort port fun q => ackLast { q with heldSkips := if q.heldSkips.contains seq then q.heldSkips else q.heldSkips ++ [seq] }
      else s.updPort port ackLast

/-! ### The beacon -/

/-- A beacon that is not the Dealer's own: only one that left the other port in a closed ring can be (STRAP bit 6). -/
def State.isOwnBeacon (s : State) (p : Port) (f : RxFrame) : Bool :=
  s.cfg.closed && f.side ≠ p && f.deal = s.ring.deal && f.payload = s.dealer.sent

/-- A beacon received by the Dealer is consumed; one of another source is dropped and raises STRAP bit 6 (chapter 01,
section 8). -/
def State.beaconAtDealer (s : State) (p : Port) (f : RxFrame) : State :=
  if s.isOwnBeacon p f then s else (s.updDealer fun d => { d with rival := true }).raise .strap 6

/-- The deal of an accepted beacon begins on this device, unless its own boundary came first (R26, R275). -/
def State.enterDeal (s : State) (d : Word) : State :=
  if s.ring.dealing && s.ring.deal = d then s
  else
    let next : Bool := s.ring.dealing && d = s.ring.deal + 1
    let s := s.newDeal d
    let s := s.updRing fun r =>
      { r with ahead := next, t0 := if next then r.t0 + (periodMs r.period * 1000000 : Nat) else r.t0 }
    s.releaseHeld

/-- The contents of word 0 to 3 and 5 to 9 (R31, Tables 9-8, 9-9). -/
def Beacon.intoRing (b : Beacon) (now : Nat) (r : Ring) : Ring :=
  { r with
    dealing := true, beaconAt := now, period := b.period
    announced := if b.pchg then some (b.annPeriod, b.annDeal) else r.announced
    target := b.target, band := b.band, share := b.share, rthr := b.rthr, cmds := b.cmds, lock := b.lock
    closed := b.closed, count := b.count, dealerSeal := b.sealNo }

/-- A Hand copies LOCK into its keeper and flash copies (R511). -/
def State.copyLock (s : State) (lock : Bool) : State :=
  (s.updKeeper fun k => { k with lockout := lock }).updNv fun n => { n with lockout := lock }

/-- The bit of this device in the admitted map (R290, R291, R306). `first` is the first beacon of the boot; `fresh` the first
copy of its deal. A bit still clear in the second beacon after a REJOIN is taken as a refusal. -/
def membership (own : Bool) (first fresh : Bool) (deal : Word) (r : Ring) : Ring :=
  let held := r.pos.isSome
  let joins := held && own && ((first && r.answered) || (r.bitKnown && !r.bitSet))
  let refusedNow : Bool := fresh && held && !own && !r.refused && r.rejoinSent.any fun d => 2 ≤ (deal - d).toNat
  { r with
    bitSet := held && own, bitKnown := held
    admitted := held && own && (r.admitted || joins)
    settle := if joins then 3 else r.settle
    refused := if joins then false else r.refused || refusedNow
    rejoinIn := if refusedNow then r.rejoinIn + 60 else r.rejoinIn
    rejoinSent := if joins then none else r.rejoinSent }

/-- The keeper notes position and primary side of an admitted device (Table 5-1). -/
def State.notePosition (s : State) : State :=
  s.updKeeper fun k => if s.ring.admitted then { k with lastPos := s.ring.pos, lastSide := some s.ring.primary } else k

/-- Side and phase of an accepted beacon (R286): the primary side gives the phase. -/
def State.beaconSide (s : State) (p : Port) (t : Nat) (fresh : Bool) : State :=
  if p = s.ring.primary then (s.takePhase p t fresh).updRing fun r => { r with gotPrimary := true }
  else s.updRing fun r => { r with gotOther := true }

/-- What an accepted beacon does on a device other than the Dealer (R31, R275, R286, R290, R310, R440, R511). -/
def State.acceptBeacon (s : State) (p : Port) (f : RxFrame) (t : Nat) : State :=
  let b := readBeacon f.payload
  let first := !s.ring.dealing
  let unphased := first || !(f.deal = s.ring.deal || f.deal = s.ring.deal + 1)
  let fresh := first || s.ring.deal ≠ f.deal || !(s.ring.gotPrimary || s.ring.gotOther)
  let s := s.enterDeal f.deal
  let s := s.updRing (b.intoRing s.now)
  let own : Bool := s.ring.pos.any fun q => b.map.contains q.toNat
  let s := (s.updRing (membership own first fresh f.deal)).notePosition
  let s := (s.copyLock b.lock).beaconSide p t unphased
  let s := s.pendingAtBeacon first b.sealNo b.sealChk
  let s := if b.kper && fresh then s.takeBaseline else s
  let s := if b.share = 0 then s.endJobs fun _ => true else s
  let s := s.stringCommand
  s.updDev fun d => { d with resetPending := d.resetPending || b.rst }

/-- Relays a beacon on the other port at the instant of R216 or R217. -/
def State.relayBeacon (s : State) (p : Port) (f : RxFrame) : State :=
  let out := p.other
  let x := relayFrame p .beacon f
  if !(s.gen out).ring then s
  else if s.slowToFast p out then s.updPort out fun q => { q with beaconHeld := some x }
  else s.sendBeacon out x

/-- Ends the copy of a beacon that is not relayed (R265). -/
def State.endBeaconCopy (s : State) (p : Port) (f : RxFrame) : State :=
  if f.forwarding then s.updPort p.other fun q => { q with line := [.poison 0] } else s

/-- A beacon is accepted for deal n or n + 1, or any once none has been accepted for 3 deal periods or since boot (R275). -/
def State.beaconFits (s : State) (d : Word) : Bool := d = s.ring.deal || d = s.ring.deal + 1 || s.ringQuiet

/-- BEACON_RECEIVED (R218, R267, R274, R275): a frame that its comma cut off frees its slot; the beacon is checked, taken
and relayed. -/
def execBeaconReceived (port : Port) (f : RxFrame) (t : Nat) (cut : Option Bool) (s : State) : Host.Outcome State Fault Refusal :=
  .next <|
    if !s.hears port then s
    else
      let s := s.endFeed port
      if !(s.port port).up then s
      else
        let s := s.updPort port fun q => { (match cut with | some r => q.free r | none => q) with fails := 0 }
        let ok := s.checksOk .beacon f
        let s := if ok then s else s.countDropped port
        if s.isDealer then s.beaconAtDealer port f
        else if ok && s.beaconFits f.deal then (s.acceptBeacon port f t).relayBeacon port f
        else s.endBeaconCopy port f

end Sys2Proof.Machine
end

