-- ==== Sys2Proof/Machine/Dispatch.lean ====
section
/-!
DEFINITION. One arm per command: each calls its meaning.
-/
namespace Sys2Proof.Machine

def exec (i : Instr) (s : State) : Host.Outcome State Fault Refusal :=
  match i with
  | .dealBeacon t => Sys2Proof.Machine.execDealBeacon t s
  | .beaconReceived port f t cut => Sys2Proof.Machine.execBeaconReceived port f t cut s
  | .relayDelayedStart port => Sys2Proof.Machine.execRelayDelayedStart port s
  | .beaconMissingOnPrimary deal t => Sys2Proof.Machine.execBeaconMissingOnPrimary deal t s
  | .beaconTimeout => Sys2Proof.Machine.execBeaconTimeout s
  | .beaconSilenceTimeout => Sys2Proof.Machine.execBeaconSilenceTimeout s
  | .passivePause => Sys2Proof.Machine.execPassivePause s
  | .apertureOpen => Sys2Proof.Machine.execApertureOpen s
  | .samplingInstant ntc => Sys2Proof.Machine.execSamplingInstant ntc s
  | .accumulatorTick mean => Sys2Proof.Machine.execAccumulatorTick mean s
  | .buckEnergySample mv ua => Sys2Proof.Machine.execBuckEnergySample mv ua s
  | .apertureClose r => Sys2Proof.Machine.execApertureClose r s
  | .openWireTestEnd pre inTest recovery => Sys2Proof.Machine.execOpenWireTestEnd pre inTest recovery s
  | .strapLiveRead rho => Sys2Proof.Machine.execStrapLiveRead rho s
  | .frameTick => Sys2Proof.Machine.execFrameTick s
  | .slotWord slot w => Sys2Proof.Machine.execSlotWord slot w s
  | .probeFrameEnd => Sys2Proof.Machine.execProbeFrameEnd s
  | .dealClosure => Sys2Proof.Machine.execDealClosure s
  | .publicationStart => Sys2Proof.Machine.execPublicationStart s
  | .canFrameComplete => Sys2Proof.Machine.execCanFrameComplete s
  | .canFrameReceived ident data => Sys2Proof.Machine.execCanFrameReceived ident data s
  | .canError kind => Sys2Proof.Machine.execCanError kind s
  | .busOffRecovery => Sys2Proof.Machine.execBusOffRecovery s
  | .rs485FrameComplete echo => Sys2Proof.Machine.execRs485FrameComplete echo s
  | .dealBoundary => Sys2Proof.Machine.execDealBoundary s
  | .commandTimeout u => Sys2Proof.Machine.execCommandTimeout u s
  | .checkIn => Sys2Proof.Machine.execCheckIn s
  | .checkInDeadline => Sys2Proof.Machine.execCheckInDeadline s
  | .watchdogExpiry => Sys2Proof.Machine.execWatchdogExpiry s
  | .lockstepMismatch => Sys2Proof.Machine.execLockstepMismatch s
  | .clockMonitor cycles => Sys2Proof.Machine.execClockMonitor cycles s
  | .clkinFail => Sys2Proof.Machine.execClkinFail s
  | .pllLock => Sys2Proof.Machine.execPllLock s
  | .pllLockLost => Sys2Proof.Machine.execPllLockLost s
  | .pllHoldEnd => Sys2Proof.Machine.execPllHoldEnd s
  | .kclkCalibration ppm => Sys2Proof.Machine.execKclkCalibration ppm s
  | .resetNAssert => Sys2Proof.Machine.execResetNAssert s
  | .resetNRelease reads vmodOk => Sys2Proof.Machine.execResetNRelease reads vmodOk s
  | .brownOut rail => Sys2Proof.Machine.execBrownOut rail s
  | .buckStart => Sys2Proof.Machine.execBuckStart s
  | .buckStop => Sys2Proof.Machine.execBuckStop s
  | .strapLatch reads first second => Sys2Proof.Machine.execStrapLatch reads first second s
  | .memoryBist failRows portNFails portSFails => Sys2Proof.Machine.execMemoryBist failRows portNFails portSFails s
  | .firmwareStart unpopulated bkupMv => Sys2Proof.Machine.execFirmwareStart unpopulated bkupMv s
  | .vauxValid => Sys2Proof.Machine.execVauxValid s
  | .vauxInvalid => Sys2Proof.Machine.execVauxInvalid s
  | .vauxAbsenceExpiry => Sys2Proof.Machine.execVauxAbsenceExpiry s
  | .storageEntry rmsX rmsY rmsZ => Sys2Proof.Machine.execStorageEntry rmsX rmsY rmsZ s
  | .wakeCarrierDetect port vmodOk => Sys2Proof.Machine.execWakeCarrierDetect port vmodOk s
  | .discoveryStart => Sys2Proof.Machine.execDiscoveryStart s
  | .storageWatch r => Sys2Proof.Machine.execStorageWatch r s
  | .alertN => Sys2Proof.Machine.execAlertN s
  | .internalAlert kind => Sys2Proof.Machine.execInternalAlert kind s
  | .alertTimeout => Sys2Proof.Machine.execAlertTimeout s
  | .energyRecord => Sys2Proof.Machine.execEnergyRecord s
  | .countsRecord => Sys2Proof.Machine.execCountsRecord s
  | .keeperSourceSwitch vmodMv lfsMv bkupMv darkFor30s => Sys2Proof.Machine.execKeeperSourceSwitch vmodMv lfsMv bkupMv darkFor30s s
  | .stepUpStart limiterMv vmodMv => Sys2Proof.Machine.execStepUpStart limiterMv vmodMv s
  | .openCircuitSample source mv => Sys2Proof.Machine.execOpenCircuitSample source mv s
  | .harvesterStop => Sys2Proof.Machine.execHarvesterStop s
  | .powerGoodOn vmodOk carrierN carrierS => Sys2Proof.Machine.execPowerGoodOn vmodOk carrierN carrierS s
  | .powerGoodOff => Sys2Proof.Machine.execPowerGoodOff s
  | .feedCarrierStart port => Sys2Proof.Machine.execFeedCarrierStart port s
  | .feedListenWindow port => Sys2Proof.Machine.execFeedListenWindow port s
  | .feedTimeout port => Sys2Proof.Machine.execFeedTimeout port s
  | .feedRetry port => Sys2Proof.Machine.execFeedRetry port s
  | .lifelineReport r => Sys2Proof.Machine.execLifelineReport r s
  | .lifelineReceived port f => Sys2Proof.Machine.execLifelineReceived port f s
  | .lifelineStale position => Sys2Proof.Machine.execLifelineStale position s
  | .probeDiscovery passes endedEmpty => Sys2Proof.Machine.execProbeDiscovery passes endedEmpty s
  | .probeBusFault => Sys2Proof.Machine.execProbeBusFault s
  | .pwvddLimit => Sys2Proof.Machine.execPwvddLimit s
  | .linkUp port result => Sys2Proof.Machine.execLinkUp port result s
  | .linkDown port => Sys2Proof.Machine.execLinkDown port s
  | .otherGenerationActivity port => Sys2Proof.Machine.execOtherGenerationActivity port s
  | .carrierOnUpLink port => Sys2Proof.Machine.execCarrierOnUpLink port s
  | .l1Convert => Sys2Proof.Machine.execL1Convert s
  | .l1Read addr => Sys2Proof.Machine.execL1Read addr s
  | .l1Reply bytes => Sys2Proof.Machine.execL1Reply bytes s
  | .l1ReplyTimeout addr => Sys2Proof.Machine.execL1ReplyTimeout addr s
  | .meldReceived port f t => Sys2Proof.Machine.execMeldReceived port f t s
  | .trumpReceived port f => Sys2Proof.Machine.execTrumpReceived port f s
  | .call port f => Sys2Proof.Machine.execCall port f s
  | .answer port f => Sys2Proof.Machine.execAnswer port f s
  | .sweepTimeout => Sys2Proof.Machine.execSweepTimeout s
  | .discoveryRepeat => Sys2Proof.Machine.execDiscoveryRepeat s
  | .rejoinSend => Sys2Proof.Machine.execRejoinSend s
  | .rejoin port f => Sys2Proof.Machine.execRejoin port f s
  | .sealChunk port f => Sys2Proof.Machine.execSealChunk port f s
  | .sealConfirm port f => Sys2Proof.Machine.execSealConfirm port f s
  | .sealingTimeout => Sys2Proof.Machine.execSealingTimeout s
  | .imageBlock port f => Sys2Proof.Machine.execImageBlock port f s
  | .imageStatus port f => Sys2Proof.Machine.execImageStatus port f s
  | .imageStatusSend => Sys2Proof.Machine.execImageStatusSend s
  | .logRequest port f => Sys2Proof.Machine.execLogRequest port f s
  | .logRecords port f => Sys2Proof.Machine.execLogRecords port f s
  | .frameFailure port f => Sys2Proof.Machine.execFrameFailure port f s
  | .poisonTail port forwarding reserve => Sys2Proof.Machine.execPoisonTail port forwarding reserve s
  | .credit port reserve freed => Sys2Proof.Machine.execCredit port reserve freed s
  | .ack port seq => Sys2Proof.Machine.execAck port seq s
  | .nak port seq => Sys2Proof.Machine.execNak port seq s
  | .skip port seq => Sys2Proof.Machine.execSkip port seq s
  | .marker port => Sys2Proof.Machine.execMarker port s
  | .controlWordFailed port w => Sys2Proof.Machine.execControlWordFailed port w s
  | .frameBoundary port => Sys2Proof.Machine.execFrameBoundary port s
  | .ackTimeout port => Sys2Proof.Machine.execAckTimeout port s
  | .meldDeadline => Sys2Proof.Machine.execMeldDeadline s
  | .ringReset => Sys2Proof.Machine.execRingReset s
  | .bleedCurrentLimit cell => Sys2Proof.Machine.execBleedCurrentLimit cell s
  | .bleedCurrentCheck cell ua => Sys2Proof.Machine.execBleedCurrentCheck cell ua s
  | .bleedLeakage cell ua => Sys2Proof.Machine.execBleedLeakage cell ua s
  | .switchingPeriod rectifierNotZero meanMa => Sys2Proof.Machine.execSwitchingPeriod rectifierNotZero meanMa s
  | .acvPeak => Sys2Proof.Machine.execAcvPeak s
  | .acvZeroCurrent => Sys2Proof.Machine.execAcvZeroCurrent s
  | .acvPeakTimeout => Sys2Proof.Machine.execAcvPeakTimeout s
  | .acvDesaturation leg => Sys2Proof.Machine.execAcvDesaturation leg s
  | .acvHardShort leg => Sys2Proof.Machine.execAcvHardShort leg s
  | .shootThrough => Sys2Proof.Machine.execShootThrough s
  | .selectionConfirmed => Sys2Proof.Machine.execSelectionConfirmed s
  | .selLevelTimeout => Sys2Proof.Machine.execSelLevelTimeout s
  | .balTrip => Sys2Proof.Machine.execBalTrip s
  | .ageingMeasurement ratioA ratioB dropConv dropSdr => Sys2Proof.Machine.execAgeingMeasurement ratioA ratioB dropConv dropSdr s
  | .dieTrip sensor => Sys2Proof.Machine.execDieTrip sensor s
  | .gateTurnOn ch => Sys2Proof.Machine.execGateTurnOn ch s
  | .pullInEnd ch => Sys2Proof.Machine.execPullInEnd ch s
  | .outputHardShort ch => Sys2Proof.Machine.execOutputHardShort ch s
  | .inrushOvercurrent ch => Sys2Proof.Machine.execInrushOvercurrent ch s
  | .overcurrent ch => Sys2Proof.Machine.execOvercurrent ch s
  | .overcurrentRetry ch => Sys2Proof.Machine.execOvercurrentRetry ch s
  | .openLoad ch => Sys2Proof.Machine.execOpenLoad ch s
  | .offStateCurrent ch => Sys2Proof.Machine.execOffStateCurrent ch s
  | .pumpDip pump => Sys2Proof.Machine.execPumpDip pump s
  | .pumpRestart ch windowUs => Sys2Proof.Machine.execPumpRestart ch windowUs s
  | .pumpReleaseTimeout ch => Sys2Proof.Machine.execPumpReleaseTimeout ch s
  | .vswLow => Sys2Proof.Machine.execVswLow s
  | .vswRecovered => Sys2Proof.Machine.execVswRecovered s
  | .purgeDue => Sys2Proof.Machine.execPurgeDue s
  | .purgeStart => Sys2Proof.Machine.execPurgeStart s
  | .purgeHoldEnd => Sys2Proof.Machine.execPurgeHoldEnd s
  | .fanDirChange => Sys2Proof.Machine.execFanDirChange s
  | .tachEdge a b t => Sys2Proof.Machine.execTachEdge a b t s
  | .tachFaultClear => Sys2Proof.Machine.execTachFaultClear s
  | .standstill => Sys2Proof.Machine.execStandstill s
  | .fanStall => Sys2Proof.Machine.execFanStall s
  | .serviceStateRecord => Sys2Proof.Machine.execServiceStateRecord s
  | .testPulse src sampleA sampleB insideMv outsideMv vswMv => Sys2Proof.Machine.execTestPulse src sampleA sampleB insideMv outsideMv vswMv s
  | .interlockOpen ch => Sys2Proof.Machine.execInterlockOpen ch s
  | .interlockClosed ch => Sys2Proof.Machine.execInterlockClosed ch s
  | .interlockTrump => Sys2Proof.Machine.execInterlockTrump s
  | .demandOpeningComplete => Sys2Proof.Machine.execDemandOpeningComplete s
  | .demandIntervalExpiry => Sys2Proof.Machine.execDemandIntervalExpiry s
  | .degradedTimeExpiry => Sys2Proof.Machine.execDegradedTimeExpiry s
  | .degradedTimerClear => Sys2Proof.Machine.execDegradedTimerClear s
  | .lockClrPress => Sys2Proof.Machine.execLockClrPress s
  | .lockClrRelease holdMs => Sys2Proof.Machine.execLockClrRelease holdMs s
  | .sramEccError bank double traceRing => Sys2Proof.Machine.execSramEccError bank double traceRing s
  | .flashEccError kind => Sys2Proof.Machine.execFlashEccError kind s
  | .bufferParityError port => Sys2Proof.Machine.execBufferParityError port s
  | .reactionTimeout b => Sys2Proof.Machine.execReactionTimeout b s
  | .logWrite verified => Sys2Proof.Machine.execLogWrite verified s
  | .sectorErase verified => Sys2Proof.Machine.execSectorErase verified s
  | .shockEventOpen => Sys2Proof.Machine.execShockEventOpen s
  | .shockEventClose peakX peakY peakZ duration saturated => Sys2Proof.Machine.execShockEventClose peakX peakY peakZ duration saturated s
  | .shockSummary rmsX rmsY rmsZ => Sys2Proof.Machine.execShockSummary rmsX rmsY rmsZ s
  | .packTotals => Sys2Proof.Machine.execPackTotals s
  | .ident tag => Sys2Proof.Machine.execIdent tag s
  | .logRead tag position firstSeq count => Sys2Proof.Machine.execLogRead tag position firstSeq count s
  | .imageLoad tag scope firstBlock totalBlocks blocks => Sys2Proof.Machine.execImageLoad tag scope firstBlock totalBlocks blocks s
  | .imageCommit tag scope => Sys2Proof.Machine.execImageCommit tag scope s
  | .requestGapTimeout => Sys2Proof.Machine.execRequestGapTimeout s
  | .remoteTimeout => Sys2Proof.Machine.execRemoteTimeout s
  | .serviceKeyRemoved keyRatio => Sys2Proof.Machine.execServiceKeyRemoved keyRatio s
  | .imageVerified => Sys2Proof.Machine.execImageVerified s
  | .fuseBlow => Sys2Proof.Machine.execFuseBlow s
  | .bistSegment => Sys2Proof.Machine.execBistSegment s
  | .bistSegmentEnd misrMatches => Sys2Proof.Machine.execBistSegmentEnd misrMatches s
  | .rotationOverdue => Sys2Proof.Machine.execRotationOverdue s
  | .bistReqPress => Sys2Proof.Machine.execBistReqPress s
  | .bistReqRelease highMs tmode => Sys2Proof.Machine.execBistReqRelease highMs tmode s
  | .offlineTestEnd firstSlice signatures failRows => Sys2Proof.Machine.execOfflineTestEnd firstSlice signatures failRows s
  | .lfsReaches3v6 r => Sys2Proof.Machine.execLfsReaches3v6 r s
  | .fractionalRegulationStart => Sys2Proof.Machine.execFractionalRegulationStart s
  | .stepUpStop => Sys2Proof.Machine.execStepUpStop s
  | .alertInactive kind => Sys2Proof.Machine.execAlertInactive kind s
  | .balTripInactive => Sys2Proof.Machine.execBalTripInactive s
  | .inrushWindowEnd ch => Sys2Proof.Machine.execInrushWindowEnd ch s
  | .fanRampEnd => Sys2Proof.Machine.execFanRampEnd s
  | .idleWatchdogService => Sys2Proof.Machine.execIdleWatchdogService s
  | .invalidServiceRequest bytes => Sys2Proof.Machine.execInvalidServiceRequest bytes s
  | .bistSupplyMonitor v3dMv => Sys2Proof.Machine.execBistSupplyMonitor v3dMv s
  | .tckRisingEdge tmode => Sys2Proof.Machine.execTckRisingEdge tmode s

end Sys2Proof.Machine
end

