-- ==== Sys2Proof/Machine/Tick.lean ====
section
/-!
DEFINITION. What time alone does: one period of the keeper timebase, 1/32768 s (R21). The opcode table has no row for it; the
step takes it on an empty queue (log 22).
-/
namespace Sys2Proof.Machine

/-- The keeper's counters advance: timebase (R21), VAUX-absence timer (R98), powered time in RUN (R509). -/
def tickKeeper (running : Bool) (k : Keeper) : Keeper :=
  { k with
    time := k.time + 1
    vauxAbsent := k.vauxAbsent.map (· + 1)
    powered := if running then k.powered + 1 else k.powered }

/-- One period of the keeper timebase; the degraded timer runs (R515), RUN time counts (R411), and a device that runs no
deal leaves the lowest state when its time has come (R107). -/
def State.tick (s : State) : State :=
  let s := (s.updKeeper (tickKeeper s.running)).updDev fun d => if d.phase = .run then { d with runTicks := d.runTicks + 1 } else d
  let s := s.updSafety fun f => if f.running then { f with degraded := f.degraded + 1 } else f
  if s.running && !s.deals then s.leaveLowest else s

end Sys2Proof.Machine
end

