-- ==== Sys2Proof/Safety.lean ====
section
/-!
DEFINITION. The terms in which claims are stated: which groups of the state a step leaves as they were, and the invariant of
the machine.
-/
namespace Sys2Proof.Machine

/-- The groups of the state, one for each field of `State`. -/
inductive Group where
  | dev | keeper | nv | flash | straps | meas | probes | clocks | portN | portS | ring | dealer | services | balance | outputs
  | fan | supply | life | safety | vehicle | pins | logs | service | bist | faults | pending
  deriving DecidableEq, Repr

/-- A group holds the same in both states. -/
def Group.same (s t : State) : Group → Prop
  | .dev => t.dev = s.dev
  | .keeper => t.keeper = s.keeper
  | .nv => t.nv = s.nv
  | .flash => t.flash = s.flash
  | .straps => t.straps = s.straps
  | .meas => t.meas = s.meas
  | .probes => t.probes = s.probes
  | .clocks => t.clocks = s.clocks
  | .portN => t.portN = s.portN
  | .portS => t.portS = s.portS
  | .ring => t.ring = s.ring
  | .dealer => t.dealer = s.dealer
  | .services => t.services = s.services
  | .balance => t.balance = s.balance
  | .outputs => t.outputs = s.outputs
  | .fan => t.fan = s.fan
  | .supply => t.supply = s.supply
  | .life => t.life = s.life
  | .safety => t.safety = s.safety
  | .vehicle => t.vehicle = s.vehicle
  | .pins => t.pins = s.pins
  | .logs => t.logs = s.logs
  | .service => t.service = s.service
  | .bist => t.bist = s.bist
  | .faults => t.faults = s.faults
  | .pending => t.pending = s.pending

/-- From `s` to `t` every group outside `gs` holds the same. -/
def Keeps (gs : List Group) (s t : State) : Prop := ∀ g, g ∉ gs → g.same s t

/-- The command completes: it answers a next state with `P`. -/
def Runs (c : Instr) (s : State) (P : State → Prop) : Prop := ∃ t, exec c s = .next t ∧ P t

/-- A good frame of type `ft` reaches the device on a port: heard on an up link that is not fenced, next in SEQ with nothing
held, passing R274 and the fence rules of R276, and acted on (R258, R264). -/
def Reaches (s : State) (p : Port) (ft : FrameType) (f : RxFrame) : Prop :=
  s.hears p = true ∧ (s.port p).up = true ∧ (s.port p).fenced = false ∧ f.seq = (s.port p).rxNext ∧
  (s.port p).heldFrames = [] ∧ (s.port p).heldSkips = [] ∧ s.checksOk ft f = true ∧
  (∀ x, seenOf ft f = some x → fenceHit (s.port p).seen x = false) ∧ s.actsOn ft f = true

/-- A frame that reaches the device and is consumed there, without being relayed (R264). -/
def Delivers (s : State) (p : Port) (ft : FrameType) (f : RxFrame) : Prop :=
  s.hears p = true ∧ (s.port p).up = true ∧ (s.port p).fenced = false ∧ f.seq = (s.port p).rxNext ∧
  (s.port p).heldFrames = [] ∧ (s.port p).heldSkips = [] ∧ s.checksOk ft f = true ∧
  (∀ x, seenOf ft f = some x → fenceHit (s.port p).seen x = false) ∧ s.consumes p ft f = true ∧ s.actsOn ft f = true

/-- The port has taken the frame: the next SEQ is expected and an ACK of this one is due (R269). -/
def Taken (s t : State) (p : Port) (f : RxFrame) : Prop :=
  (t.port p).rxNext = (s.port p).rxNext + 1 ∧ (t.port p).ackDue = some (.ack f.seq)

/-- What every step keeps: flash in its canonical form, a status word for each of the 18 blocks, at most 64 records waiting
for flash (R537), at most 512 trace entries (R543), and at most 32 blown anti-rollback fuses (R554). -/
structure State.Inv (s : State) : Prop where
  flash : Memory.wf s.flash = true
  blocks : s.faults.length = 18
  queue : s.logs.queue.length ≤ 64
  trace : s.logs.trace.length ≤ 512
  fuses : s.nv.fuses ≤ 32

/-- Every sticky bit set in `s` is set in `t` (R478). -/
def StickyKept (s t : State) : Prop := ∀ b i, s.has b i = true → t.has b i = true

/-- A reset of every switched domain (Table 4-4, R495): the domains are as at a power-on reset, in phase `ph`; the cause is
recorded and both lock-out copies are latched as found; flash, fuses and the lifeline block stay. -/
def Restarted (s t : State) (cause : Word) (ph : Phase) : Prop :=
  t.dev = { Dev.reset with phase := ph, freeCtr := s.dev.freeCtr, lastService := s.now } ∧
  t.keeper = { s.keeper with cause := s.keeper.cause ||| cause, lockSeenK := s.keeper.lockout, lockSeenF := s.nv.lockout } ∧
  t.faults = List.replicate 18 BlockState.reset ∧ t.ring = Ring.reset ∧ t.dealer = Dealer.reset ∧ t.services = Services.reset ∧
  t.outputs = Outputs.reset ∧ t.safety = Safety.reset ∧ t.logs = Logs.reset ∧ t.service = Service.reset ∧ t.bist = Bist.reset ∧
  t.vehicle = Vehicle.reset ∧ t.straps = Straps.reset ∧ t.probes = ProbeWire.reset ∧ t.clocks = Clocks.reset ∧
  t.nv = s.nv ∧ t.flash = s.flash ∧ t.life = s.life ∧ t.pending = s.pending

/-- Every load output of the device is off and not commanded. -/
def LoadsOff (t : State) : Prop := ∀ c ∈ t.outputs.channels, c.command = false ∧ c.stage = .off

/-- A channel is off and fenced, without a command. -/
def FencedOff (c : Channel) : Prop := c.fenced = true ∧ c.command = false ∧ c.stage = .off

/-- The active converter is fenced (R337): no cell is selected and no active job runs. -/
def ConverterFenced (t : State) : Prop :=
  t.balance.acvFenced = true ∧ t.balance.stage = .unselected ∧ t.activeJob = none

/-- The fatal state (R492, Table 16-8): latched, watchdog stopped, every load output off, balancing off; a Dealer's pack is
OPEN with the keeper's lock-out copy set and FAULT_N asserted. -/
def FatalState (s t : State) : Prop :=
  t.dev.fatal = true ∧ t.dev.watchdog = false ∧ LoadsOff t ∧ t.balance.jobs = [] ∧ t.pins.testPulses = false ∧
  (s.isDealer = true → t.services.pack = .opened ∧ t.keeper.lockout = true ∧ t.pins.faultN = true ∧ t.pins.ready = false)

end Sys2Proof.Machine

namespace Sys2Proof

/-- The commands that may end in a reset of the switched domains: resets and their pins, supplies, power states, the off-line
self-test, and the frames of a ring port, of which a discovery CALL in the middle of deals restarts the device. -/
def Instr.mayReset : Instr → Bool
  | .watchdogExpiry | .resetNAssert | .resetNRelease .. | .brownOut _ | .ringReset => true
  | .buckStart | .buckStop | .vauxValid | .storageEntry .. | .wakeCarrierDetect .. | .keeperSourceSwitch .. => true
  | .powerGoodOn .. | .powerGoodOff => true
  | .bistReqRelease .. | .offlineTestEnd .. | .bistSupplyMonitor _ | .clockMonitor _ | .pllLockLost => true
  | .meldReceived .. | .trumpReceived .. | .call .. | .answer .. | .sealChunk .. | .sealConfirm .. | .rejoin .. => true
  | .imageBlock .. | .imageStatus .. | .logRequest .. | .logRecords .. | .lifelineReceived .. | .skip .. => true
  | _ => false

/-- The commands that write flash: the log, its erase, image blocks, the storage watch, STORAGE entry and a boot. Frames of a
port may deliver a held IMAGE_BLOCK. -/
def Instr.mayWriteFlash : Instr → Bool
  | .logWrite _ | .sectorErase _ | .firmwareStart .. | .storageEntry .. | .storageWatch _ | .imageLoad .. => true
  | .meldReceived .. | .trumpReceived .. | .call .. | .answer .. | .sealChunk .. | .sealConfirm .. | .rejoin .. => true
  | .imageBlock .. | .imageStatus .. | .logRequest .. | .logRecords .. | .lifelineReceived .. | .skip .. => true
  | _ => false

end Sys2Proof
end

