-- ==== Sys2Proof/Certificates/Slice0/Obligations.lean ====
section
/-!
DEFINITION. The statements about the block: what each command leaves, what it keeps, and the rules of the whole machine.
-/
open Sys2Proof Sys2Proof.Machine

/-! ### Links and frames (chapters 08 and 09) -/

/-- FRAME_BOUNDARY (R262): what a port that is up and not under test puts on its line. Due control symbols leave before any
frame; a fenced port, and a port with nothing that may start, sends IDLE; with no control symbol due the oldest TRUMP
starts on a credit and takes the next SEQ. The other port keeps what it holds. -/
def Obligations.FrameBoundarySendsInOrder : Prop := ∀ (s : State) (p : Port),
  (s.port p).up = true → s.deaf p = false →
    Runs (.frameBoundary p) s fun t =>
      Keeps [.portN, .portS] s t ∧
      (controlsDue (s.port p) ≠ [] →
        (t.port p).line = (controlsDue (s.port p)).map .control ∧ t.port p.other = s.port p.other) ∧
      (controlsDue (s.port p) = [] → (s.port p).fenced = true →
        (t.port p).line = [.control (.idle (s.port p).reserveFreed (s.port p).freed)] ∧ t.port p.other = s.port p.other) ∧
      ∀ f rest, controlsDue (s.port p) = [] → (s.port p).fenced = false → (s.port p).trumpQ = f :: rest →
        (creditFor (s.port p) f).isSome = true → bufferRoom (s.port p) f = true →
        (t.port p).line = [.frame f (s.port p).txSeq] ∧ (t.port p).txSeq = (s.port p).txSeq + 1 ∧ (t.port p).trumpQ = rest

/-- ACK covers that frame and every earlier one and restarts the failure count (R269, R273); in LIFELINE it acknowledges the
report that waits on its port (R146).

SKIP counts the SEQ expected as delivered and draws an ACK (R270). -/
def Obligations.AcknowledgementsAdvance : Prop :=
  (∀ (s : State) (p : Port) (x : BitVec 5),
  (s.dev.phase ≠ .lifeline → s.deaf p = false → (s.port p).up = true →
    Runs (.ack p x) s fun t =>
      Keeps [.portN, .portS] s t ∧ t.port p.other = s.port p.other ∧ (t.port p).txFails = 0 ∧
      (t.port p).txSeq = (s.port p).txSeq ∧
      ∀ u, u ∈ (t.port p).unacked ↔ u ∈ (s.port p).unacked ∧ 16 ≤ (x - u.seq).toNat) ∧
  (s.dev.phase = .lifeline → s.life.awaiting = true → s.life.port = p →
    Runs (.ack p x) s fun t =>
      t = { s with life := { s.life with awaiting := false, unacked := 0 } })) ∧
  (∀ (s : State) (p : Port),
  s.hears p = true → (s.port p).up = true → (s.port p).heldFrames = [] → (s.port p).heldSkips = [] →
    Runs (.skip p (s.port p).rxNext) s fun t =>
      Keeps [.portN, .portS] s t ∧ t.port p.other = s.port p.other ∧ (t.port p).rxNext = (s.port p).rxNext + 1 ∧
      (t.port p).ackDue = some (.ack (s.port p).rxNext))

/-- NAK and ACK_TIMEOUT ask for a retransmission (R269, R270): a copy that is held, not abandoned, within its deadline and
tried fewer than three times is queued once more and its tries advance by one; one more failure counts toward link-down
(R273).

A fourth request for one SEQ is refused: after three retransmissions the frame is abandoned, its SKIP is due and PORT
bit 2 is set (R270). -/
def Obligations.LostFramesAreRepeatedThenSkipped : Prop :=
  (∀ (s : State) (p : Port) (u : Unacked),
  (s.port p).up = true → u.abandoned = false → meldLate (s.port p) u.frame = false → u.tries < 3 → (s.port p).txFails < 7 →
  (s.deaf p = false → (s.port p).unacked.find? (fun v => v.seq = u.seq) = some u →
    Runs (.nak p u.seq) s fun t =>
      Keeps [.portN, .portS] s t ∧ t.port p.other = s.port p.other ∧ u.seq ∈ (t.port p).retryQ ∧
      { u with tries := u.tries + 1 } ∈ (t.port p).unacked ∧ (t.port p).txFails = (s.port p).txFails + 1) ∧
  ∀ rest, (s.port p).unacked = u :: rest →
    Runs (.ackTimeout p) s fun t =>
      Keeps [.portN, .portS] s t ∧ t.port p.other = s.port p.other ∧ u.seq ∈ (t.port p).retryQ ∧
      { u with tries := u.tries + 1 } ∈ (t.port p).unacked ∧ (t.port p).txFails = (s.port p).txFails + 1) ∧
  (∀ (s : State) (p : Port) (u : Unacked),
  s.faults.length = 18 → (s.port p).up = true → s.deaf p = false → u.abandoned = false →
  meldLate (s.port p) u.frame = false → 3 ≤ u.tries → (s.port p).txFails < 7 →
  (s.port p).unacked.find? (fun v => v.seq = u.seq) = some u →
    Runs (.nak p u.seq) s fun t =>
      Keeps [.portN, .portS, .faults, .logs, .pins] s t ∧ u.seq ∈ (t.port p).skipDue ∧ u.seq ∉ (t.port p).retryQ ∧
      t.has (portBlock p) 2 = true ∧ StickyKept s t)

/-- CREDIT gives the sender the receiver's running counts (R268); a marker is answered with idle symbols in RUN (R232);
each ends a feed on its port (R140).

A control word that fails R250's reading in RUN is counted at PORT bit 0 and changes nothing else of the link; a word
that reads is no failure. -/
def Obligations.ControlSymbolsAreTaken : Prop :=
  (∀ (s : State) (p : Port),
  s.deaf p = false →
  (∀ r f, (s.port p).up = true →
    Runs (.credit p r f) s fun t =>
      Keeps [.portN, .portS] s t ∧ t.port p.other = s.port p.other ∧
      t.port p = { s.port p with freedSeen := f, resFreed := r, feed := Feed.off }) ∧
  (s.running = true →
    Runs (.marker p) s fun t =>
      Keeps [.portN, .portS] s t ∧ t.port p.other = s.port p.other ∧
      (t.port p).line = [.control (.idle (s.port p).reserveFreed (s.port p).freed)] ∧ (t.port p).feed = Feed.off)) ∧
  (∀ (s : State) (p : Port) (w : Word),
  (s.faults.length = 18 → s.running = true → s.deaf p = false → readControl w = none →
    Runs (.controlWordFailed p w) s fun t =>
      Keeps [.faults, .logs, .pins] s t ∧ t.has (portBlock p) 0 = true ∧ StickyKept s t) ∧
  ((readControl w).isSome = true → exec (.controlWordFailed p w) s = .next s))

/-- A frame that fails draws a NAK for the next SEQ expected, frees its slot, sets PORT bit 1 and counts toward link-down
(R248, R273); a frame whose buffer reads with a parity error does the same and sets MEM bit 2 (R485); a poisoned frame frees
its slot, draws no NAK and is no failure (R249). -/
def Obligations.BadFramesAreAnswered : Prop := ∀ (s : State) (p : Port),
  s.faults.length = 18 → (s.port p).up = true → s.deaf p = false → (s.port p).nakSent = false →
  (∀ f : FailedFrame, f.beacon = false → f.forwarding = false → f.reservedType = false → (s.port p).fails < 7 →
    Runs (.frameFailure p f) s fun t =>
      Keeps [.portN, .portS, .faults, .logs, .pins] s t ∧ (t.port p).ackDue = some (.nak (s.port p).rxNext) ∧
      (t.port p).fails = (s.port p).fails + 1 ∧ (t.port p).creditDue = true ∧ t.has (portBlock p) 1 = true ∧
      StickyKept s t) ∧
  ((s.port p).fails < 7 →
    Runs (.bufferParityError p) s fun t =>
      Keeps [.portN, .portS, .faults, .logs, .pins] s t ∧ (t.port p).ackDue = some (.nak (s.port p).rxNext) ∧
      (t.port p).fails = (s.port p).fails + 1 ∧ t.has (portBlock p) 1 = true ∧ t.has .mem 2 = true) ∧
  ∀ r, Runs (.poisonTail p false r) s fun t =>
      Keeps [.portN, .portS] s t ∧ t.port p = (s.port p).free r ∧ t.port p.other = s.port p.other

/-- Bring-up (R215, Table 8-4): a trained ring link within its reach comes up with every count at 0 and the delay it
measured; the third failed training, and a delay beyond the reach of the generation, hold the link down.

Activity of another generation on a ring port without a link (R233): the link is held down until reset and PORT bit 11
is set.

A link that goes down (R273), by LINK_DOWN or by a carrier without a marker (R233), is down with its queues and
unacknowledged frames gone, and the event is PORT bit 5 in a closed ring and bit 9 in an open chain. -/
def Obligations.LinksComeAndGo : Prop :=
  (∀ (s : State) (p : Port),
  s.running = true → (s.port p).heldDown = false → (s.port p).up = false → (s.gen p).ring = true →
  (∀ ns, ns ≤ 5 * (s.gen p).reachM →
    Runs (.linkUp p (.trained ns)) s fun t =>
      Keeps [.portN, .portS, .logs] s t ∧ (t.port p).up = true ∧ (t.port p).cableNs = ns ∧ (t.port p).txSeq = 0 ∧
      (t.port p).rxNext = 0 ∧ (t.port p).started = 0 ∧ (t.port p).freed = 0 ∧ (t.port p).trainFails = 0 ∧
      t.port p.other = s.port p.other) ∧
  (s.faults.length = 18 → 2 ≤ (s.port p).trainFails →
    Runs (.linkUp p .trainingFailed) s fun t =>
      Keeps [.portN, .portS, .faults, .logs, .pins] s t ∧ (t.port p).heldDown = true ∧ (t.port p).up = false ∧
      t.has (portBlock p) 12 = true) ∧
  ∀ ns, s.faults.length = 18 → 5 * (s.gen p).reachM < ns →
    Runs (.linkUp p (.trained ns)) s fun t =>
      Keeps [.portN, .portS, .faults, .logs, .pins] s t ∧ (t.port p).heldDown = true ∧ (t.port p).up = false ∧
      t.has (portBlock p) 13 = true) ∧
  (∀ (s : State) (p : Port),
  s.faults.length = 18 → s.running = true → (s.port p).up = false → (s.gen p).ring = true →
    Runs (.otherGenerationActivity p) s fun t =>
      Keeps [.portN, .portS, .faults, .logs, .pins] s t ∧ (t.port p).heldDown = true ∧ (t.port p).up = false ∧
      t.has (portBlock p) 11 = true ∧ StickyKept s t) ∧
  (∀ (s : State) (p : Port),
  s.faults.length = 18 → (s.port p).up = true →
  Runs (.linkDown p) s (fun t =>
    Keeps [.portN, .portS, .faults, .logs, .pins, .ring, .clocks] s t ∧ (t.port p).up = false ∧ (t.port p).unacked = [] ∧
    (t.port p).trumpQ = [] ∧ (t.port p).normalQ = [] ∧ (t.port p).serviceQ = [] ∧
    t.has (portBlock p) (if s.closedRing then 5 else 9) = true ∧ StickyKept s t) ∧
  (s.running = true →
    Runs (.carrierOnUpLink p) s fun t =>
      Keeps [.portN, .portS, .faults, .logs, .pins, .ring, .clocks] s t ∧ (t.port p).up = false ∧
      t.has (portBlock p) 7 = true ∧ t.has (portBlock p) (if s.closedRing then 5 else 9) = true))

/-- The 512 µs of R217 pass: a held beacon is sent on a ring port that is not held down; else the oldest held frame joins the
frames to send. The deadline of R271 takes the melds of the deal out of both ports' queues. -/
def Obligations.DelaysAndDeadlines : Prop :=
  (∀ (s : State) (p : Port) f, (s.port p).beaconHeld = some f → (s.gen p).ring = true → (s.port p).heldDown = false →
    Runs (.relayDelayedStart p) s fun t =>
      Keeps [.portN, .portS] s t ∧ (t.port p).line = [.frame f 0] ∧ (t.port p).beaconHeld = none ∧
      t.port p.other = s.port p.other) ∧
  ∀ s : State, s.deals = true →
    Runs .meldDeadline s fun t =>
      Keeps [.portN, .portS, .faults, .logs, .pins] s t ∧ StickyKept s t ∧
      ∀ p f, f ∈ (t.port p).normalQ → f.ftype = .meld → 2 ^ 17 ≤ (s.dealNo - f.deal).toNat

/-! ### Discovery, membership and the deal (chapters 01, 09 and 10) -/

/-- The Dealer starts discovery with VAUX valid (R101, R116, R280), repeats it once where a repeat is due (R285), and a sweep
without an ANSWER for 20 ms is noted at SUPERV bit 0 (R284).

A discovery CALL received on Port S by a device that runs no deal and holds no position gives it the sender's position
plus 1 and the latency of that side (R281, R282); its ANSWER leaves by that port and its primary side is Port S. -/
def Obligations.DiscoveryGivesPositions : Prop :=
  (∀ s : State, s.isDealer = true → s.running = true →
  (s.supply.vaux = true → s.dev.fatal = false → s.dealer.discovery.active = false → s.dealer.discovery.done = false →
    s.dealer.discovery.repeatDue = false →
    Runs .discoveryStart s fun t =>
      Keeps [.dealer, .portN, .portS] s t ∧ t.portS = s.portS ∧ t.dealer.discovery.active = true ∧
      t.dealer.discovery.sweep = .n ∧ t.dealer.discovery.repeated = false ∧ t.dealer.positions = s.dealer.positions) ∧
  (s.dealer.discovery.repeatDue = true →
    Runs .discoveryRepeat s fun t =>
      Keeps [.dealer, .portN, .portS] s t ∧ t.portS = s.portS ∧ t.dealer.discovery.active = true ∧
      t.dealer.discovery.sweep = .n ∧ t.dealer.discovery.repeated = true ∧ t.dealer.discovery.repeatDue = false) ∧
  (s.faults.length = 18 → s.dealer.discovery.active = true →
    Runs .sweepTimeout s fun t =>
      Keeps [.dealer, .faults, .logs, .pins, .ring, .portN, .portS] s t ∧ t.has .superv 0 = true ∧
      t.dealer.discovery.timedOut = true ∧ StickyKept s t)) ∧
  (∀ (s : State) (f : RxFrame),
  Delivers s .s .rollcall f → s.isDealer = false → s.ring.dealing = false → s.ring.pos = none → s.dev.fatal = false →
  subtype f.payload = 1 → targetOf f.payload = 63 →
    Runs (.call .s f) s fun t =>
      Keeps [.portN, .portS, .ring] s t ∧ Taken s t .s f ∧
      t.ring.pos = some (BitVec.ofNat 6 (field (pw f.payload 2) 13 8 + 1)) ∧
      t.ring.latS = some (field (pw f.payload 3) 17 0 * 2 ^ 18 + (pw f.payload 4).toNat + (s.gen .s).hopNs + s.portS.cableNs) ∧
      t.ring.primary = .s ∧ t.ring.answered = true ∧ t.ring.dealerSeal = pw f.payload 1)

/-- An ANSWER in discovery and a REJOIN at the Dealer are kept for their position (R284, R287, R307).

A device with a position that is out of service sends REJOIN when its interval has run out, and waits 4 deals, or 64 once
refused, for the next (R306). -/
def Obligations.AnswersAndRejoin : Prop :=
  (∀ (s : State) (p : Port) (f : RxFrame),
  Delivers s p .rollcall f → s.isDealer = true → f.src.toNat ≠ 0 → f.src.toNat < s.dealer.positions.length →
  (subtype f.payload = 2 → s.dealer.discovery.active = true →
    Runs (.answer p f) s fun t => (t.pos f.src.toNat).answer = some f.payload ∧ t.flash = s.flash ∧ t.keeper = s.keeper) ∧
  (subtype f.payload = 5 →
    Runs (.rejoin p f) s fun t =>
      Keeps [.portN, .portS, .dealer] s t ∧ Taken s t p f ∧ (t.pos f.src.toNat).rejoin = some f.payload)) ∧
  (∀ s : State,
  s.running = true → s.isDealer = false → s.ring.dealing = true → s.ring.pos.isSome = true →
  (s.latency s.ring.primary).isSome = true → s.ring.admitted = false → s.ring.rejoinIn = 0 → s.dev.fatal = false →
    Runs .rejoinSend s fun t =>
      Keeps [.portN, .portS, .ring] s t ∧
      t.ring = { s.ring with rejoinIn := if s.ring.refused then 64 else 4, rejoinSent := some s.ring.deal } ∧
      ((s.port s.ring.primary).up = true → (s.port s.ring.primary).fenced = false →
        (t.port s.ring.primary).normalQ = (s.port s.ring.primary).normalQ ++
          [s.ownFrame s.ring.primary .rollcall (s.ownAnswer.words 5)]))

/-- A MELD of the open deal from an admitted position is kept as its part A; one of a position that is not admitted is
dropped (R290, R292). A TRUMP of cause CELL HIGH from an admitted position, first of its key, trips: the lock-out is set in
both copies, the pack is OPEN, FAULT_N asserts (R469, R497, R498, R511); its second copy is only counted (R266). -/
def Obligations.MeldsAndTrumpsAtTheDealer : Prop := ∀ (s : State) (p : Port) (f : RxFrame) (at_ : Nat),
  s.isDealer = true → f.src.toNat < s.dealer.positions.length →
  (Delivers s p .meld f → meldPart f.payload = 0 → s.dealer.open_ = true → f.deal = s.ring.deal → f.src.toNat ≠ 0 →
    (s.pos f.src.toNat).state.isAdmitted = true →
    Runs (.meldReceived p f at_) s fun t => (t.pos f.src.toNat).partA = some f.payload ∧ Taken s t p f) ∧
  (Delivers s p .meld f → (s.pos f.src.toNat).state.isAdmitted = false →
    Runs (.meldReceived p f at_) s fun t => t.dealer = s.dealer ∧ Taken s t p f) ∧
  (Delivers s p .trump f → field (pw f.payload 0) 17 12 = 1 → (s.pos f.src.toNat).state.isAdmitted = true →
    s.dealer.trumps.contains (f.src, f.deal, 1, field (pw f.payload 0) 11 7) = false →
    Runs (.trumpReceived p f) s fun t =>
      t.keeper.lockout = true ∧ t.nv.lockout = true ∧ t.services.pack = .opened ∧ t.pins.faultN = true ∧
      t.pins.ready = false ∧ Taken s t p f) ∧
  (Delivers s p .trump f → field (pw f.payload 0) 17 12 = 1 → (s.pos f.src.toNat).state.isAdmitted = true →
    s.dealer.trumps.contains (f.src, f.deal, 1, field (pw f.payload 0) 11 7) = true →
    Runs (.trumpReceived p f) s fun t =>
      t.dealer.trumpDrops = s.dealer.trumpDrops + 1 ∧ t.services = s.services ∧ t.outputs = s.outputs)

/-- A LIFELINE frame reaches the Dealer on an up link: with the factory number of the sealed position and the seal number,
from a position that is no member, its payload is kept with its time; any other is dropped and counted (R149 to R151). -/
def Obligations.LifelineFramesAtTheDealer : Prop := ∀ (s : State) (p : Port) (f : RxFrame),
  Delivers s p .lifeline f → (s.gen p).ring = true → s.isDealer = true → f.src.toNat < s.dealer.positions.length →
  ((s.sealEntry f.src.toNat).any (fun e => e.factory.toNat = ofWords16 (f.payload.take 4)) = true →
    pw f.payload 4 = s.sealNumber → f.src.toNat ≠ 0 → (s.pos f.src.toNat).state.isAdmitted = false →
    Runs (.lifelineReceived p f) s fun t =>
      Keeps [.portN, .portS, .dealer] s t ∧ Taken s t p f ∧
      (t.pos f.src.toNat).lifeline = some { payload := f.payload, at_ := s.now, stale := false }) ∧
  ((s.pos f.src.toNat).state.isAdmitted = true →
    Runs (.lifelineReceived p f) s fun t =>
      Keeps [.portN, .portS, .dealer] s t ∧ Taken s t p f ∧ t.dealer = { s.dealer with lifeDrops := s.dealer.lifeDrops + 1 })

/-- The Dealer's beacon (R285, R302): once discovery has ended the deal opens, the first one being deal 0 and each later one
the next number; both ring ports that are not held down carry the same payload, which the Dealer keeps. -/
def Obligations.DealerOpensTheDeal : Prop := ∀ (s : State) (at_ : Nat),
  s.isDealer = true → s.running = true → s.dealer.discovery.done = true → s.dev.fatal = false → s.dealer.stopped = false →
  s.dev.offTest = false →
    Runs (.dealBeacon at_) s fun t =>
      t.ring.dealing = true ∧ t.ring.deal = (if s.dealer.firstBeacon then 0 else s.ring.deal + 1) ∧
      t.ring.t0 = at_ ∧ t.dealer.open_ = true ∧ t.dealer.t0 = at_ ∧ t.dealer.firstBeacon = false ∧
      (∀ p, (s.gen p).ring = true → (s.port p).heldDown = false →
        ∃ f, (t.port p).line = [.frame f 0] ∧ f.ftype = .beacon ∧ f.src = 0 ∧ f.hop = 1 ∧ f.payload = t.dealer.sent ∧
          f.deal = t.ring.deal) ∧
      Keeps [.ring, .portN, .portS, .dealer, .vehicle, .logs, .services, .outputs, .meas, .pins, .balance, .faults, .dev,
        .service] s t

/-- A beacon that passes R274 and R275 on the primary side of a device other than the Dealer is taken: its deal is the
current one, and LOCK goes to both lock-out copies (R511); a beacon of another deal number than n or n + 1, within 3 periods
of the last, is not (R275).

Beacons that stay out. In a closed ring a Hand whose primary side missed the beacon takes the copy of the other side and
makes it primary, PORT bit 6 on the side left (R299, R300); after 3 periods a String Head in service opens its string,
SUPERV bit 6 (R16, R518); after 60 s a device other than the Dealer begins the entry into STORAGE (Table 4-2). -/
def Obligations.BeaconsAreTakenOrMissed : Prop :=
  (∀ (s : State) (p : Port) (f : RxFrame) (at_ : Nat),
  s.isDealer = false → s.hears p = true → (s.port p).up = true → s.checksOk .beacon f = true →
  (s.beaconFits f.deal = true →
    Runs (.beaconReceived p f at_ none) s fun t =>
      t.ring.deal = f.deal ∧ t.ring.dealing = true ∧ t.ring.period = (readBeacon f.payload).period ∧
      t.keeper.lockout = (readBeacon f.payload).lock ∧ t.nv.lockout = (readBeacon f.payload).lock ∧
      t.ring.target = (readBeacon f.payload).target ∧ t.ring.share = (readBeacon f.payload).share ∧
      t.dev.resetPending = (s.dev.resetPending || (readBeacon f.payload).rst) ∧ t.flash = s.flash) ∧
  (s.beaconFits f.deal = false →
    Runs (.beaconReceived p f at_ none) s fun t => Keeps [.portN, .portS] s t)) ∧
  (∀ s : State, s.running = true → s.isDealer = false →
  (∀ at_, s.faults.length = 18 → s.ring.dealing = true → s.ring.closed = true → s.ring.gotPrimary = false →
    s.ring.gotOther = true →
    Runs (.beaconMissingOnPrimary s.ring.deal at_) s fun t =>
      Keeps [.faults, .logs, .pins, .ring, .clocks] s t ∧ t.ring.primary = s.ring.primary.other ∧
      t.has (portBlock s.ring.primary) 6 = true ∧ t.ring.gotPrimary = true ∧ t.ring.deal = s.ring.deal) ∧
  (s.faults.length = 18 → s.isHead = true → s.dev.fatal = false → s.ring.dealing = true → s.coilsOn = true →
    Runs .beaconTimeout s fun t =>
      Keeps [.logs, .outputs, .meas, .safety, .faults, .pins, .portN, .portS] s t ∧ t.has .superv 6 = true ∧
      t.safety.refuse = true) ∧
  Runs .beaconSilenceTimeout s fun t => Keeps [.dev, .dealer] s t ∧ t.dev.entering = true)

/-- The closure (R292, R294): the open deal closes, and an admitted position that missed part A for the first or second time
in a row is LATE.

The predicted boundary on a device that runs deals (R365, R484): a device other than the Dealer that has not yet taken the
next beacon counts its deal on, a deal without a check-in is counted, and the check-in starts anew. -/
def Obligations.DealsEnd : Prop :=
  (∀ s : State,
  s.isDealer = true → s.running = true → s.dealer.open_ = true → s.dev.fatal = false → s.dev.offTest = false →
    Runs .dealClosure s fun t =>
      t.dealer.open_ = false ∧ t.vehicle.closedDeal = s.ring.deal ∧
      (∀ i, 1 ≤ i → i < s.ring.count → i < s.dealer.positions.length → (s.pos i).state.isAdmitted = true →
        (s.pos i).partA = none → (s.pos i).missA < 2 → (s.pos i).missB < 2 → (s.pos i).fatal = false →
        (s.pos i).rejoin = none → (s.pos i).readmit = false → (t.pos i).state = .late) ∧
      Keeps [.dealer, .vehicle, .logs, .faults, .pins, .safety, .outputs, .meas, .services, .keeper, .nv, .ring, .service,
        .portN, .portS, .dev] s t) ∧
  (∀ s : State, s.deals = true → s.dev.offTest = false →
    Runs .dealBoundary s fun t =>
      t.dev.checkMiss = (if s.dev.checkedIn then 0 else s.dev.checkMiss + 1) ∧ t.dev.checkedIn = false ∧
      (s.isDealer = false → s.ring.ahead = false → t.ring.deal = s.ring.deal + 1) ∧
      (s.isDealer = true → t.ring.deal = s.ring.deal) ∧ t.safety.ilkDeals = s.safety.ilkDeals + 1 ∧
      Keeps [.ring, .portN, .portS, .service, .dev, .logs, .faults, .balance, .pins, .outputs, .meas, .supply, .fan, .safety]
        s t)

/-! ### Measurement and straps (chapters 03 and 06) -/

/-- The aperture of a deal: 100 µs before it the passive balancing pauses (R154); at its opening the readings of the coming
deal begin, deal 0 where no beacon has been accepted (R26).

The sampling instant takes the accumulator of the tick at S for the meld (R28, R171) and converts the strapped NTC inputs:
a ratio inside both thresholds gives its temperature code, any other the code 0x20000, an excluded input staying there
(R164, R176). The conversion itself is the model's free function but at 25 °C (log 7).

The tick of 250 µs (R171, R173): its mean, held within the range of the current code and less the zero correction, joins
the 48-bit accumulator, and a mean beyond that range is remembered as an overrange. -/
def Obligations.ApertureSamples : Prop :=
  (∀ s : State, s.samples = true →
  exec .passivePause s = .next { s with meas := { s.meas with pause := true } } ∧
  exec .apertureOpen s = .next
    { s with
      meas := { s.meas with aperture := true, pause := true, deal := if s.ring.dealing then s.ring.deal + 1 else 0 }
      ring := { s.ring with phaseFix := 0 } }) ∧
  (∀ (s : State) (ntc : List Rat),
  s.running = true → s.meas.aperture = true → s.cfg.ntcCount ≤ s.meas.ntc.length →
    Runs (.samplingInstant ntc) s fun t =>
      Keeps [.meas] s t ∧ t.meas.accAtS = s.meas.acc ∧ t.meas.sampledAt = s.now ∧ t.meas.primary = s.meas.primary ∧
      ∀ k, k < s.cfg.ntcCount →
        t.meas.ntc.getD k 0 =
          (if s.meas.ntcOut.getD k false then 0x20000
          else if ratioOk (ntc.getD k 0) then ntcCodeOf s.cfg.ntcType (ntc.getD k 0) else 0x20000)) ∧
  (∀ (s : State) (mean : Int),
  s.running = true → s.currentOn = true →
    Runs (.accumulatorTick mean) s fun t =>
      t = { s with meas := { s.meas with acc := t.meas.acc, tickOver := t.meas.tickOver } } ∧
      t.meas.acc.toNat = ((s.meas.acc.toNat : Int) + (max (-131072) (min 131071 mean) - s.meas.zero)) % 2 ^ 48 ∧
      t.meas.tickOver = (s.meas.tickOver || decide (mean < -131072 ∨ 131071 < mean)))

/-- The aperture closes (R157, R158, R165): with no converter under test every strapped cell holds its two codes, and a
difference above 300 sets the cell's DIV bit; the Dealer then holds both parts of its own meld. -/
def Obligations.ApertureCloseReadsCells : Prop := ∀ (s : State) (r : ApertureReadings),
  s.running = true → s.meas.aperture = true → s.faults.length = 18 →
    Runs (.apertureClose r) s fun t =>
      t.meas.aperture = false ∧ t.bist.taken = 0 ∧ StickyKept s t ∧
      (∀ k, k < s.cfg.cells → k < s.meas.primary.length → k < s.meas.diverse.length → s.bist.taken = 0 →
        t.meas.primary.getD k 0 = satCode (r.primary.getD k 0) ∧
        t.meas.diverse.getD k 0 = diverseCode (r.diverse.getD k 0) ∧
        (300 < (codeOf (satCode (r.primary.getD k 0)) - codeOf (diverseCode (r.diverse.getD k 0))).natAbs →
          t.has .div (if k < 9 then 0 else 1) = true)) ∧
      (s.isDealer = true → 0 < s.dealer.positions.length → (t.pos 0).partA.isSome = true ∧ (t.pos 0).partB.isSome = true) ∧
      Keeps [.meas, .faults, .logs, .pins, .outputs, .services, .keeper, .nv, .safety, .portN, .portS, .dev, .balance, .fan,
        .vehicle, .ring, .dealer, .bist] s t

/-- The open sense-wire test (R181 to R183): a recovery outside 15 mV discards its results, sets MEAS bit 0 and repeats it; a
cell that tests positive for the second time running is OPEN with MEAS bit 2, for the first time the test is repeated. -/
def Obligations.OpenWireTestIsJudged : Prop := ∀ (s : State) (pre inTest recovery : List Int),
  s.running = true → s.meas.testDeal = true → s.faults.length = 18 →
    Runs (.openWireTestEnd pre inTest recovery) s fun t =>
      Keeps [.meas, .faults, .logs, .pins, .balance] s t ∧ t.meas.testDeal = false ∧ t.meas.pause = false ∧ StickyKept s t ∧
      ((List.range s.cfg.cells).any (recoveryFails pre inTest recovery) = true →
        t.meas.testRepeat = true ∧ t.has .meas 0 = true ∧ t.meas.opened = s.meas.opened) ∧
      ∀ k, (List.range s.cfg.cells).any (recoveryFails pre inTest recovery) = false → k < s.cfg.cells →
        k < s.meas.opened.length → 4000 < pre.getD k 0 - inTest.getD k 0 → s.meas.opened.getD k false = false →
        (s.meas.openPend.getD k false = true → t.meas.opened.getD k false = true ∧ t.has .meas 2 = true) ∧
        (s.meas.openPend.getD k false = false → t.meas.testRepeat = true ∧ t.meas.opened.getD k false = false)

/-- A live read of the straps (R59, R76 to R78) never changes the latched levels; a valid pin that reads another level counts
a miss and sets STRAP bit 0, and one that reads its own level starts its count again.

The levels stay in force until the next latching: no command that leaves the device out of reset changes them, but
STRAP_LATCH (R78). -/
def Obligations.LiveReadsLeaveTheStraps : Prop :=
  (∀ (s : State) (rho : List Rat),
  s.running = true → s.dev.strapped = true → s.dev.offTest = false → s.faults.length = 18 → s.straps.misses.length = 13 →
    Runs (.strapLiveRead rho) s fun t =>
      Keeps [.straps, .faults, .logs, .pins] s t ∧ t.straps.latched = s.straps.latched ∧ StickyKept s t ∧
      ∀ i, i < 13 → strapInvalid s.straps.latched i = false →
        (decodeLevel (rho.getD i 0) = s.straps.latched.getD i none → t.straps.misses.getD i 0 = 0) ∧
        (decodeLevel (rho.getD i 0) ≠ s.straps.latched.getD i none →
          t.straps.misses.getD i 0 = s.straps.misses.getD i 0 + 1 ∧ t.has .strap 0 = true)) ∧
  ∀ (c : Instr) (s t : State), c.mayReset = false → (∀ r a b, c ≠ .strapLatch r a b) → exec c s = .next t →
    t.straps.latched = s.straps.latched

/-! ### Probes, storage watch and L1 (chapters 05, 07 and 08) -/

/-- Probe discovery ends once in a boot (R193); one that does not end with an empty pass sets PROBE bit 7.

A bus fault and a current limit of the probe wire (R206): PWVDD is off until reset, every slot that holds or reserves a
probe is LOST, and PROBE bit 8 is set. -/
def Obligations.ProbeWireIsWatched : Prop :=
  (∀ (s : State) (passes : List ProbeId) (e : Bool),
  s.faults.length = 18 → s.awake = true → s.probes.power = true → s.probes.found = false →
    Runs (.probeDiscovery passes e) s fun t =>
      Keeps [.probes, .faults, .logs, .pins, .nv] s t ∧ t.probes.found = true ∧ StickyKept s t ∧
      (e = false → t.has .probe 7 = true)) ∧
  (∀ s : State,
  s.faults.length = 18 → s.awake = true → s.probes.power = true → ∀ c, c = .probeBusFault ∨ c = .pwvddLimit →
    Runs c s fun t =>
      Keeps [.probes, .faults, .logs, .pins, .nv] s t ∧ t.probes.power = false ∧ t.probes.failed = true ∧
      (∀ x ∈ t.probes.slots, x.assigned = true → x.state = .lost) ∧ t.has .probe 8 = true ∧ StickyKept s t)

/-- The frame of a deal (R198 to R205): the tick opens it with no slot judged; the word of a slot that holds a probe is judged
by R201, a bad one being counted at PROBE bit 0 unless the slot is LOST; the end takes every good word and counts every other
slot as a miss, the third miss in a row making it LOST. -/
def Obligations.ProbeFrameIsJudged : Prop := ∀ s : State,
  (s.samples = true → s.probes.power = true → s.probes.found = true →
    exec .frameTick s = .next { s with probes :=
      { s.probes with frame := true, slots := s.probes.slots.map fun x => { x with judged := none, fresh := none } } }) ∧
  (∀ (k : Fin 16) (w : Option (BitVec 32)),
    s.faults.length = 18 → s.probes.frame = true → (s.slot k.val).ident.isSome = true →
    Runs (.slotWord k w) s fun t =>
      Keeps [.probes, .faults, .logs, .pins] s t ∧ StickyKept s t ∧
      (t.slot k.val).judged = some (w.any (slotGood k.val (s.slot k.val).first)) ∧
      (∀ j, j ≠ k.val → t.slot j = s.slot j) ∧
      (w.any (slotGood k.val (s.slot k.val).first) = false → (s.slot k.val).state ≠ .lost → t.has .probe 0 = true)) ∧
  (s.probes.frame = true →
    Runs .probeFrameEnd s fun t =>
      Keeps [.probes, .faults, .logs, .pins, .outputs, .meas, .services, .keeper, .nv, .safety, .portN, .portS] s t ∧
      t.probes.frame = false ∧
      ∀ k, k < 16 → (s.slot k).ident.isSome = true →
        t.slot k = if (s.slot k).judged = some true then goodSlot (s.slot k) else missSlot (s.slot k))

/-- The storage watch (R126 to R129): with VMOD below the buck start threshold or the slot-verified flag clear it is skipped
and counted; else it is counted as run, and a finding sets the watch alarm. -/
def Obligations.StorageWatchRunsOrIsSkipped : Prop := ∀ (s : State) (r : WatchReadings),
  s.dev.phase = .storage → s.kept.watch.isSome = true →
  (r.vmodMv < buckStartMv ∨ s.keeper.slotVerified = false →
    exec (.storageWatch r) s = .next { s with keeper := { s.keeper with skipped := s.keeper.skipped + 1 } }) ∧
  (buckStartMv ≤ r.vmodMv → s.keeper.slotVerified = true →
    Runs (.storageWatch r) s fun t =>
      Keeps [.keeper, .flash, .logs, .nv] s t ∧ t.keeper.watches = s.keeper.watches + 1 ∧
      t.keeper.skipped = s.keeper.skipped ∧
      t.keeper.watchAlarm = (s.keeper.watchAlarm || (watchFindings s.kept s.nv.probeList r).any id))

/-- A translator's L1 line (R234, R235): CONVERT is broadcast and READ goes to the address.

Replies of L1 devices (R236, R238): a good one is converted for the next melds and ends the misses; a missing one is
counted at PORTN bit 8, and the second in a row makes the device absent with PORTN bit 14. -/
def Obligations.L1TailIsRead : Prop :=
  (∀ s : State, s.translates = true →
  exec .l1Convert s = .next { s with portN := { s.portN with line := [.l1 0x01 0x00] } } ∧
  ∀ a : BitVec 4, a ≠ 0 →
    exec (.l1Read a) s = .next { s with portN := { s.portN with line := [.l1 0x02 (a.setWidth 8)] } }) ∧
  (∀ s : State, s.translates = true →
  (∀ bs : List Byte, l1ReplyOk bs = true → (bs.getD 1 0).toNat ≠ 0 → (bs.getD 1 0).toNat ≤ 15 →
    (bs.getD 1 0).toNat ≤ s.dealer.l1.length → (s.dealer.l1.getD ((bs.getD 1 0).toNat - 1) L1Device.none).absent = false →
    Runs (.l1Reply bs) s fun t =>
      Keeps [.faults, .logs, .pins, .dealer, .outputs, .meas, .services, .keeper, .nv, .portN, .portS] s t ∧
      t.dealer.l1.getD ((bs.getD 1 0).toNat - 1) L1Device.none =
        { s.dealer.l1.getD ((bs.getD 1 0).toNat - 1) L1Device.none with
          next := some (l1Words (bs.getD 1 0).toNat bs), misses := 0, present := true }) ∧
  ∀ a : BitVec 4, s.faults.length = 18 → a ≠ 0 → a.toNat ≤ s.dealer.l1.length → s.l1Known (a.toNat - 1) = true →
    Runs (.l1ReplyTimeout a) s fun t =>
      Keeps [.dealer, .faults, .logs, .pins] s t ∧ StickyKept s t ∧ t.has .portN 8 = true ∧
      (t.dealer.l1.getD (a.toNat - 1) L1Device.none).misses = (s.dealer.l1.getD (a.toNat - 1) L1Device.none).misses + 1 ∧
      (t.dealer.l1.getD (a.toNat - 1) L1Device.none).next = none ∧
      (1 ≤ (s.dealer.l1.getD (a.toNat - 1) L1Device.none).misses →
        (t.dealer.l1.getD (a.toNat - 1) L1Device.none).absent = true ∧
        ((s.dealer.l1.getD (a.toNat - 1) L1Device.none).absent = false → t.has .portN 14 = true)))

/-! ### Supplies, resets, boot, clocks and memories (chapters 01, 04, 05 and 16) -/

/-- The resets of every switched domain (R110, R117, R119, R482, R495, Table 4-5): each leaves the domains reset with its cause
recorded; RESET_N holds the part until its release. A part that finds VMOD at the buck's start threshold boots out of LIFELINE
and OFF (R89).

The release of RESET_N (R117, R483, R547): the boot begins, the service key is read, and a supervisor ROM that fails its
check enters the fatal state, on a device whose keeper holds the Dealer's straps with the lock-out set. In STORAGE it wakes the
part (Table 4-3). -/
def Obligations.PartResetsAndBoots : Prop :=
  (∀ s : State,
  (s.awake = true → s.dev.watchdog = true → Runs .watchdogExpiry s fun t => Restarted s t causeWdog .boot) ∧
  (s.awake = true ∨ s.dev.phase = .held → Runs .resetNAssert s fun t => Restarted s t causeRstn .held) ∧
  (s.awake = true → ∀ r, Runs (.brownOut r) s fun t => Restarted s t (causeRail r) .boot) ∧
  (s.dev.resetPending = true → Runs .ringReset s fun t => Restarted s t causeRing .boot) ∧
  (s.dev.phase = .lifeline → Runs .buckStart s fun t => Restarted s t causeLifexit .boot ∧ t.supply.buck = true) ∧
  (s.dev.phase = .off → Runs .buckStart s fun t => Restarted s t causePor .boot ∧ t.supply.buck = true)) ∧
  (∀ (s : State) (r : BootReads),
  (s.dev.phase = .held → ∀ v, Runs (.resetNRelease r v) s fun t =>
      t.dev.phase = .boot ∧ t.dev.bootChecked = true ∧ t.straps.keyRead = keyReads r.keyRatio ∧ t.nv = s.nv ∧
      t.flash = s.flash ∧
      (r.romOk = true → t.faults = List.replicate 18 BlockState.reset ∧ t.dev.fatal = false ∧
        t.keeper.lockout = s.keeper.lockout) ∧
      (r.romOk = false → t.has .superv 13 = true ∧ t.dev.fatal = true ∧
        (s.kept.role = .dealer → t.keeper.lockout = true))) ∧
  (s.dev.phase = .storage → Runs (.resetNRelease r true) s fun t => Restarted s t causeStwake .boot))

/-- What takes a device into and out of its power states (Table 4-2): the buck's stop threshold leads to LIFELINE with
power-good and to OFF without (R89, R144); a carrier wakes a Hand or String Head in STORAGE, or takes it to LIFELINE (R114,
R142, R147); entry into STORAGE ends with the keeper alone supplied (R112, R113). -/
def Obligations.SupplyDecidesThePhase : Prop := ∀ s : State,
  (s.supply.buck = true → s.supply.fromVaux = false → Runs .buckStop s fun t =>
    t.dev.phase = (if s.life.good then .lifeline else .off) ∧ t.supply.buck = false ∧ t.pins.driven = false ∧
    t.nv = s.nv ∧ t.flash = s.flash ∧ t.keeper.time = s.keeper.time ∧ t.keeper.lockout = s.keeper.lockout) ∧
  (∀ p, s.dev.phase = .storage → detects s.kept p = true → s.kept.role ≠ .dealer →
    (Runs (.wakeCarrierDetect p true) s fun t =>
      t.dev.phase = .boot ∧ t.keeper.cause = s.keeper.cause ||| causeStwake ∧ t.life.carrier = some p ∧ t.nv = s.nv ∧
      (keptGen s.kept p.other = .a ∨ keptGen s.kept p.other = .b → (t.port p.other).line = [.wakeCarrier])) ∧
    (s.life.good = true → Runs (.wakeCarrierDetect p false) s fun t =>
      t.dev.phase = .lifeline ∧ t.life.port = p ∧ t.life.reports = 0 ∧ t.nv = s.nv)) ∧
  (s.running = true → s.dev.entering = true → s.dev.wakePending = none → ∀ x y z,
    Runs (.storageEntry x y z) s fun t =>
      t.dev.phase = .storage ∧ t.keeper.entry = some s.now ∧ t.keeper.watches = 0 ∧ t.keeper.skipped = 0 ∧
      t.supply.buck = false ∧ t.pins.driven = false ∧ t.life.carrier = none ∧ t.keeper.lockout = s.keeper.lockout)

/-- VAUX on the Dealer (R96 to R99): while it is valid the absence timer is clear; its loss starts the timer at 0 and sets
SUPPLY bit 0; at the end of the timer a Dealer with an open pack begins the entry into STORAGE, and one with a closed pack
opens it in sequence first.

The keeper's supply (R121 to R123, Table 5-1): from a source other than BKUP a switch to VMOD or LFS changes the source
alone; on BKUP the part is OFF, keeps its
timebase, lock-out copy and log pointers and clears its energy counter, entry time and cause; a loss of every source is a power loss
of KPR. -/
def Obligations.VauxAndKeeperSupply : Prop :=
  (∀ s : State,
  (Runs .vauxValid s fun t => t.supply.vaux = true ∧ t.keeper.vauxAbsent = none ∧ t.nv = s.nv ∧
    (s.kept.role = .dealer → s.dev.phase = .storage → t.dev.phase = .boot)) ∧
  (s.supply.vaux = true → s.kept.role = .dealer → s.faults.length = 18 → Runs .vauxInvalid s fun t =>
    Keeps [.supply, .keeper, .faults, .logs, .pins] s t ∧ t.supply.vaux = false ∧ t.keeper.vauxAbsent = some 0 ∧
    (s.awake = true → t.has .supply 0 = true) ∧ StickyKept s t) ∧
  (s.isDealer = true → s.running = true → s.supply.vaux = false → s.dev.entering = false →
    (s.services.pack = .opened ∨ s.dev.fatal = true →
      exec .vauxAbsenceExpiry s = .next { s with
        dev := { s.dev with entering := true }, dealer := { s.dealer with stopped := true } }) ∧
    (s.services.pack ≠ .opened → s.core = true → s.deals = true →
      Runs .vauxAbsenceExpiry s fun t =>
        Keeps [.dealer, .logs, .services, .pins, .outputs, .meas] s t ∧ t.services.toStorage = true))) ∧
  (∀ (s : State) (v l b : Nat) (dark : Bool),
  (∀ x, nextSource s.keeper.source v l b dark = some x → x ≠ .bkup → s.keeper.source ≠ .bkup →
    exec (.keeperSourceSwitch v l b dark) s = .next { s with keeper := { s.keeper with source := x } }) ∧
  (nextSource s.keeper.source v l b dark = some .bkup → s.keeper.source ≠ .bkup →
    Runs (.keeperSourceSwitch v l b dark) s fun t =>
      t.dev.phase = .off ∧ t.keeper.source = .bkup ∧ t.keeper.time = s.keeper.time ∧ t.keeper.lockout = s.keeper.lockout ∧
      t.keeper.sector = s.keeper.sector ∧ t.keeper.index = s.keeper.index ∧ t.keeper.seq = s.keeper.seq ∧
      t.keeper.energyLost = true ∧ t.keeper.entry = none ∧ t.keeper.cause = 0 ∧ t.nv = s.nv ∧ t.flash = s.flash) ∧
  (nextSource s.keeper.source v l b dark = none →
    Runs (.keeperSourceSwitch v l b dark) s fun t =>
      t.dev.phase = .off ∧ t.keeper = freshKeeper s.nv.lockout .vmod ∧ t.nv = s.nv ∧ t.flash = s.flash))

/-- The boot (Table 4-6): strap levels that two reads agree on are latched, in the keeper too, and an invalid strap sets STRAP
bit 2 (R58, R75); the start of the firmware ends in RUN with the set lock-out copy in both (R500), and with no slot that
verifies RAIVO bit 9 (R559). -/
def Obligations.BootEndsInRun : Prop := ∀ s : State, s.dev.phase = .boot → s.faults.length = 18 →
  (s.dev.strapped = false → ∀ (r : BootReads) (a b : List Rat),
    Runs (.strapLatch r a b) s fun t =>
      t.dev.phase = .boot ∧ t.dev.strapped = true ∧
      t.straps.latched = (List.range 13).map (fun i => latchLevel (a.getD i 0) (b.getD i 0)) ∧
      t.keeper.straps = t.straps.latched ∧ t.ring.period = t.cfg.period ∧ t.probes.power = t.cfg.probeWire ∧
      (∀ i, i < 13 → strapInvalid t.straps.latched i = true → t.has .strap 2 = true) ∧ StickyKept s t) ∧
  (s.dev.strapped = true → ∀ (u : List Int) (mv : Nat),
    Runs (.firmwareStart u mv) s fun t =>
      t.dev.phase = .run ∧ t.dev.runTicks = 0 ∧ t.service.open_ = s.straps.keyRead ∧ t.keeper.lockout = t.nv.lockout ∧
      (s.keeper.lockout = true ∨ s.nv.lockout = true → t.keeper.lockout = true) ∧ t.keeper.entry = none ∧
      t.keeper.watchAlarm = false ∧ StickyKept s t ∧
      (s.returnToken = false → s.bootSlot = none → t.keeper.slotVerified = false ∧ t.has .raivo 9 = true))

/-- Alerts (R104 to R108): one that becomes active sets its SUPPLY bit and makes the lowest state, which ends every job; its
end restarts the 100 ms; one held for 10 s raises the U-class bit 5 and keeps the lowest state until reset: no command that leaves
the device out of reset ends it. -/
def Obligations.AlertsMakeTheLowestState : Prop := ∀ s : State,
  (∀ (c : Instr) (i : Nat),
    (c = .alertN ∧ i = 0) ∨ (∃ k, c = .internalAlert k ∧ i = alertIndex (some k) ∧ ¬ (k = .vmodLow ∧ s.supply.fromVaux = true)) →
    s.running = true → s.faults.length = 18 → i < s.supply.alerts.length → s.supply.alerts.getD i false = false →
    Runs c s fun t =>
      Keeps [.supply, .faults, .logs, .pins, .balance, .dev, .fan, .portN, .portS] s t ∧
      t.supply.alerts.getD i false = true ∧ t.supply.lowest = true ∧ t.has .supply (i + 1) = true ∧ StickyKept s t ∧
      (s.supply.lowest = false → t.balance.jobs = [] ∧ ∀ p, (t.port p).feed.active = false)) ∧
  (∀ k, s.supply.alerts.getD (alertIndex k) false = true →
    exec (.alertInactive k) s = .next { s with supply :=
      { s.supply with alerts := s.supply.alerts.set (alertIndex k) false, quietAt := s.now } }) ∧
  (s.running = true → s.faults.length = 18 → s.supply.alerts.any id = true →
    Runs .alertTimeout s fun t =>
      Keeps [.supply, .faults, .logs, .pins] s t ∧ t.supply.lowestHeld = true ∧ t.supply.lowest = s.supply.lowest ∧
      t.has .supply 5 = true ∧ classOf .supply 5 = .u ∧ StickyKept s t) ∧
  ∀ c t, c.mayReset = false → exec c s = .next t → s.supply.lowest = true → s.supply.lowestHeld = true →
    t.supply.lowest = true ∧ t.supply.lowestHeld = true

/-- The core and the supervisor are watched (R482 to R484): a check-in is noted; the second deal in a row without one fences
the core with RAIVO bit 8; the watchdog is served while no deal runs; a lockstep mismatch outside their own self-test enters the
fatal state with SUPERV bit 12.

The clocks (R19 to R21, R483, R565, R602): SAFE beyond ±2 % of nominal is fatal with CLOCK bit 3; a lost CLKIN sets CLOCK
bit 0 and stops the CAN stream; a lost PLL makes the melds UNSYNC with CLOCK bit 1; a KCLK calibration is taken within ±2 % of
the one in force and else sets CLOCK bit 2. -/
def Obligations.CoreAndClocksAreWatched : Prop :=
  (∀ s : State,
  (s.running = true → s.core = true → exec .checkIn s = .next { s with dev := { s.dev with checkedIn := true } }) ∧
  (s.running = true → s.core = true → s.dev.checkedIn = false → 1 ≤ s.dev.checkMiss → s.faults.length = 18 →
    Runs .checkInDeadline s fun t =>
      t.dev.coreFenced = true ∧ t.core = false ∧ t.has .raivo 8 = true ∧ StickyKept s t ∧ t.nv = s.nv ∧ t.flash = s.flash) ∧
  (s.awake = true → s.deals = false →
    exec .idleWatchdogService s = .next { s with dev := { s.dev with lastService := s.now } }) ∧
  (s.awake = true → s.testing [11, 12] = false → s.dev.fatal = false → s.faults.length = 18 →
    Runs .lockstepMismatch s fun t => FatalState s t ∧ t.has .superv 12 = true ∧ StickyKept s t ∧ t.nv = s.nv ∧
      t.flash = s.flash)) ∧
  (∀ s : State, s.awake = true → s.faults.length = 18 →
  (∀ n : Nat, ((n : Int) - safeNominal).natAbs ≤ 2400 →
    exec (.clockMonitor n) s = .next { s with clocks := { s.clocks with safeOk := true } }) ∧
  (∀ n : Nat, 4800 < ((n : Int) - safeNominal).natAbs → s.dev.offTest = false → s.dev.fatal = false →
    Runs (.clockMonitor n) s fun t => FatalState s t ∧ t.has .clock 3 = true ∧ t.clocks.safeOk = false ∧ StickyKept s t) ∧
  (s.clocks.clkin = true → Runs .clkinFail s fun t =>
    Keeps [.clocks, .vehicle, .faults, .logs, .pins] s t ∧ t.clocks.clkin = false ∧ t.clocks.clkinFailed = true ∧
    t.vehicle.canOut.stopped = true ∧ t.has .clock 0 = true ∧ StickyKept s t) ∧
  exec .pllLock s = .next { s with clocks := { s.clocks with locked := true, holding := false } } ∧
  (s.clocks.locked = true → s.dev.offTest = false → Runs .pllLockLost s fun t =>
    t.clocks.locked = false ∧ t.ring.unsync = true ∧ t.has .clock 1 = true ∧ t.bist.running = false ∧ StickyKept s t) ∧
  exec .pllHoldEnd s = .next { s with clocks := { s.clocks with holding := false } } ∧
  ∀ ppm : Int,
    ((ppm - s.keeper.calib).natAbs ≤ 20000 →
      exec (.kclkCalibration ppm) s = .next { s with keeper := { s.keeper with calib := ppm } }) ∧
    (20000 < (ppm - s.keeper.calib).natAbs → Runs (.kclkCalibration ppm) s fun t =>
      Keeps [.faults, .logs, .pins] s t ∧ t.has .clock 2 = true ∧ StickyKept s t))

/-- Memory errors (R485, Table 16-6): a corrected bit is counted; two wrong bits of SRAM disable the trace in its ring and
fence the core elsewhere; an uncorrectable flash word loses its item, in code it fences the core, and two lost trim copies are
fatal. -/
def Obligations.MemoryErrorsAreContained : Prop := ∀ s : State, s.awake = true → s.faults.length = 18 →
  (∀ b r, Runs (.sramEccError b false r) s fun t =>
    Keeps [.faults, .logs, .pins] s t ∧ t.has .mem 0 = true ∧ StickyKept s t) ∧
  (Runs (.sramEccError 7 true true) s fun t =>
    Keeps [.faults, .logs, .pins, .dev] s t ∧ t.dev.traceOff = true ∧ t.has .mem 3 = true ∧ StickyKept s t) ∧
  (∀ b r, (r = false ∨ b ≠ 7) → Runs (.sramEccError b true r) s fun t =>
    t.dev.coreFenced = true ∧ t.has .mem 4 = true ∧ StickyKept s t ∧ t.nv = s.nv ∧ t.flash = s.flash) ∧
  (Runs (.flashEccError .corrected) s fun t =>
    Keeps [.faults, .logs, .pins] s t ∧ t.has .mem 1 = true ∧ StickyKept s t) ∧
  (Runs (.flashEccError .uncorrectableCode) s fun t =>
    t.dev.coreFenced = true ∧ t.has .mem 5 = true ∧ StickyKept s t ∧ t.nv = s.nv) ∧
  (∀ i, Runs (.flashEccError (.uncorrectableData i)) s fun t =>
    Keeps [.faults, .logs, .pins, .nv] s t ∧ t.nv = loseItem i s.nv ∧ t.has .mem 6 = true ∧ StickyKept s t) ∧
  (s.dev.fatal = false → Runs (.flashEccError .bothTrimCopies) s fun t =>
    FatalState s t ∧ t.has .mem 7 = true ∧ StickyKept s t)

/-- A reaction outside deals ends 100 ms after it started, unless it lasts until reset; the sticky bits stay (R478, R486). The
energy counter counts mJ without loss, modulo 2^32 mJ (R93). A committed image that has run its hour raises the fuses to its
rollback number (R560). -/
def Obligations.ReactionEnergyAndFuses : Prop := ∀ s : State,
  (∀ b r, s.faults.length = 18 → s.awake = true → s.deals = false → (faultOf s.faults b).reaction = some r →
    r.untilReset = false →
    Runs (.reactionTimeout b) s fun t =>
      Keeps [.logs, .faults] s t ∧ (faultOf t.faults b).reaction = none ∧
      (∀ d, (faultOf t.faults d).sticky = (faultOf s.faults d).sticky) ∧
      (s.core = true → s.logs.queue.length < 64 → t.logs.queue.length = s.logs.queue.length + 1)) ∧
  (∀ mv ua, s.supply.buck = true → Runs (.buckEnergySample mv ua) s fun t =>
    t = { s with keeper := { s.keeper with energy := t.keeper.energy, energyPart := t.keeper.energyPart } } ∧
    t.keeper.energy.toNat * 4000000000 + t.keeper.energyPart =
      (s.keeper.energy.toNat * 4000000000 + s.keeper.energyPart + mv * ua) % (2 ^ 32 * 4000000000)) ∧
  (s.running = true → s.core = true → s.nv.committed = true → s.has .raivo 8 = false →
    Runs .fuseBlow s fun t =>
      Keeps [.nv, .logs] s t ∧
      t.nv = { s.nv with
        fuses := if s.nv.fuses < s.imageRollback s.nv.activeB then min 32 (s.imageRollback s.nv.activeB) else s.nv.fuses
        committed := false })

/-! ### Lifeline (chapter 05) -/

/-- The harvester (R132 to R136): the step-up starts at 1.2 V with VMOD below 7 V and stops, regulation starts, each source is
then held at 70 % of its open-circuit sample, the stop voltage ends charging; power-good starts LIFELINE in a part in STORAGE
or OFF that has noted a carrier and cannot boot, and its loss ends LIFELINE in OFF.

The feed of a neighbour (R138 to R141, R232): three markers, then the tone; the cycle turns between tone and listen window;
a feed that times out stops and waits for its retry; the lowest state holds a feed back. -/
def Obligations.HarvesterAndFeeds : Prop :=
  (∀ s : State,
  (∀ l v, v < 7000 → 1200 ≤ l →
    exec (.stepUpStart l v) s = .next { s with life := { s.life with stepUp := true, full := false } }) ∧
  exec .stepUpStop s = .next { s with life := { s.life with stepUp := false } } ∧
  exec .fractionalRegulationStart s = .next { s with life := { s.life with regulated := true, full := false } } ∧
  exec .harvesterStop s = .next { s with life := { s.life with full := true } } ∧
  (s.life.regulated = true → ∀ mv,
    exec (.openCircuitSample .stepUp mv) s = .next { s with life := { s.life with pointUp := mv * 7 } } ∧
    exec (.openCircuitSample (.rectifier .n) mv) s = .next { s with life := { s.life with pointN := mv * 7 } } ∧
    exec (.openCircuitSample (.rectifier .s) mv) s = .next { s with life := { s.life with pointS := mv * 7 } }) ∧
  (∀ v n k, Runs (.powerGoodOn v n k) s fun t => t.life.good = true ∧ t.nv = s.nv ∧
    ((s.dev.phase = .storage ∨ s.dev.phase = .off) → v = false → (s.portN.carrierSeen = true ∨ s.portS.carrierSeen = true) →
      t.dev.phase = .lifeline ∧ t.life.reports = 0)) ∧
  Runs .powerGoodOff s fun t => t.life.good = false ∧ t.nv = s.nv ∧ (s.dev.phase = .lifeline → t.dev.phase = .off)) ∧
  (∀ (s : State) (p : Port),
  (∀ c, (c = .feedCarrierStart p ∧ (s.port p).feed.active = false ∧ (s.port p).feed.suspended = false ∧
      (s.port p).feed.waiting = false) ∨ (c = .feedRetry p ∧ (s.port p).feed.waiting = true) → s.mayFeed p = true →
    Runs c s fun t =>
      Keeps [.portN, .portS] s t ∧ t.port p.other = s.port p.other ∧
      (s.supply.lowest = false → (t.port p).feed = { Feed.off with active := true } ∧
        (t.port p).line = [.control .marker, .control .marker, .control .marker, .feedCarrier]) ∧
      (s.supply.lowest = true → (t.port p).feed = { Feed.off with suspended := true } ∧
        (t.port p).line = (s.port p).line)) ∧
  ((s.port p).feed.active = true → Runs (.feedListenWindow p) s fun t =>
    Keeps [.portN, .portS] s t ∧ t.port p.other = s.port p.other ∧
    (t.port p).feed = { (s.port p).feed with listening := !(s.port p).feed.listening } ∧
    (t.port p).line = if (s.port p).feed.listening then [.feedCarrier] else []) ∧
  ((s.port p).feed.active = true ∨ (s.port p).feed.suspended = true → Runs (.feedTimeout p) s fun t =>
    Keeps [.portN, .portS] s t ∧ t.port p.other = s.port p.other ∧
    (t.port p).feed = { Feed.off with waiting := true } ∧ (t.port p).line = []))

/-- Reports in LIFELINE (R145 to R147, R260): below 3.6 V a report waits and leaves when LFS reaches 3.6 V; it goes out once on
the chosen port with the sealed position and the count of frames; the third in a row without acknowledgement goes by the other
port. At the Dealer 30 s without a frame make a position's data stale (R151). -/
def Obligations.LifelineReportsLeave : Prop := ∀ (s : State) (r : LifelineReadings),
  (s.dev.phase = .lifeline → s.kept.role ≠ .dealer → r.lfsMv < 3600 →
    exec (.lifelineReport r) s = .next { s with life := { s.life with heldBack := true } }) ∧
  (∀ c i, (c = .lifelineReport r ∧ s.kept.role ≠ .dealer ∧ 3600 ≤ r.lfsMv) ∨
      (c = .lfsReaches3v6 r ∧ s.life.heldBack = true) →
    s.dev.phase = .lifeline → s.sealedPosition = some i →
    (s.life.awaiting = false → (keptGen s.kept s.life.port).ring = true →
      Runs c s fun t =>
        Keeps [.portN, .portS, .life] s t ∧ t.port s.life.port.other = s.port s.life.port.other ∧
        t.life = { s.life with reports := s.life.reports + 1, awaiting := true, heldBack := false } ∧
        (t.port s.life.port).txSeq = (s.port s.life.port).txSeq + 1 ∧
        ∃ f, (t.port s.life.port).line = [.frame f (s.port s.life.port).txSeq] ∧ f.ftype = .lifeline ∧
          f.src = (word i).setWidth 6 ∧ f.deal = 0 ∧ f.payload = s.lifelineWords r (s.life.reports + 1)) ∧
    (s.life.awaiting = true → s.life.unacked = 2 → (keptGen s.kept s.life.port.other).ring = true →
      Runs c s fun t => t.life.port = s.life.port.other ∧ t.life.unacked = 0 ∧ t.life.awaiting = true ∧
        t.port s.life.port = s.port s.life.port ∧
        ∃ f, (t.port s.life.port.other).line = [.frame f (s.port s.life.port.other).txSeq] ∧ f.ftype = .lifeline)) ∧
  ∀ k : BitVec 6, s.isDealer = true → k.toNat < s.dealer.positions.length →
    Runs (.lifelineStale k) s fun t =>
      Keeps [.dealer] s t ∧
      (t.pos k.toNat).lifeline = (s.pos k.toNat).lifeline.map (fun d => { d with stale := true }) ∧
      ∀ j, j ≠ k.toNat → t.pos j = s.pos j

/-! ### Load outputs and the safety function (chapters 13 and 17) -/

/-- A channel runs (R392 to R399, R404, R406): the gate of a commanded channel turns on after its pump; the pull-in of a coil
and the inrush window of a heater or lamp end in steady conduction; a retry and a pump restart turn the gate on again, or wait
in the lowest state; a heater or lamp at its restart within its inrush window but with less than half of it left
is fenced with OUT bit 7; the return of VSW starts what waits. -/
def Obligations.ChannelsConduct : Prop := ∀ (s : State) (ch : Fin 6),
  ((s.chan ch.val).stage = .pumpWait → (s.chan ch.val).command = true → s.gateAllowed ch.val = true →
    Runs (.gateTurnOn ch) s fun t =>
      Keeps [.logs, .outputs, .meas] s t ∧
      t.chan ch.val = { s.chan ch.val with stage := .opening, onAt := some s.now } ∧ ∀ j, j ≠ ch.val → t.chan j = s.chan j) ∧
  (∀ c, (c = .pullInEnd ch ∧ chanRole s.cfg ch.val = .coil) ∨ (c = .inrushWindowEnd ch ∧ chanRole s.cfg ch.val ≠ .coil) →
    (s.chan ch.val).stage = .opening →
    Runs c s fun t =>
      Keeps [.outputs, .meas] s t ∧ t.chan ch.val = { s.chan ch.val with stage := .steady } ∧
      ∀ j, j ≠ ch.val → t.chan j = s.chan j) ∧
  ((s.chan ch.val).stage = .retryWait → (s.chan ch.val).command = true →
    Runs (.overcurrentRetry ch) s fun t =>
      Keeps [.logs, .outputs, .meas] s t ∧
      t.chan ch.val = (if s.gateAllowed ch.val then { s.chan ch.val with stage := .opening, onAt := some s.now }
        else { s.chan ch.val with stage := .held })) ∧
  (∀ inrush w, (s.chan ch.val).stage = .dipped inrush → (s.chan ch.val).command = true →
    Runs (.pumpRestart ch w) s fun t =>
      (chanRole s.cfg ch.val = .coil →
        t.chan ch.val = { s.chan ch.val with stage := .opening, onAt := some s.now }) ∧
      (chanRole s.cfg ch.val ≠ .coil → s.supply.lowest = true → t.chan ch.val = { s.chan ch.val with stage := .held }) ∧
      (chanRole s.cfg ch.val ≠ .coil → s.supply.lowest = false →
        ¬ (inrush = true ∧ w < windowUs (chanRole s.cfg ch.val) ∧ windowUs (chanRole s.cfg ch.val) < 2 * w) →
        t.chan ch.val = { s.chan ch.val with stage := .opening, onAt := some s.now }) ∧
      (chanRole s.cfg ch.val ≠ .coil → s.supply.lowest = false → s.faults.length = 18 →
        (inrush = true ∧ w < windowUs (chanRole s.cfg ch.val) ∧ windowUs (chanRole s.cfg ch.val) < 2 * w) →
        FencedOff (t.chan ch.val) ∧ t.has .out 7 = true)) ∧
  (s.outputs.vswOk = false →
    Runs .vswRecovered s fun t =>
      Keeps [.outputs, .meas] s t ∧ t.outputs.vswOk = true ∧
      ∀ i, i < 6 → (s.chan i).stage = .held → (s.chan i).command = true →
        { s with outputs := { s.outputs with vswOk := true } }.mayTurnOn i = true → (t.chan i).stage = .pumpWait)

/-- A channel is protected (R398 to R402): a hard short fences it with OUT bits 0 and 10 + i; an over-current fences a coil,
and any other channel the second time within 60 s, with OUT bit 2, the first time it waits for its retry with OUT bit 1; an open
load fences a coil with OUT bit 4 and leaves another on with OUT bit 3; a current in the off state is reported with OUT
bit 5.

The supplies of the outputs (R392, R404 to R406): a pump that dips for the first or second time within 1 s drops its pair with OUT bit 6, the
third dip fences both with OUT bit 8; a pump not released in time fences its channel with OUT bit 7; VSW below its limit turns
every channel off with OUT bit 9 and opens a Dealer's pack. -/
def Obligations.OutputsAreProtected : Prop :=
  (∀ (s : State) (ch : Fin 6), s.faults.length = 18 →
  ((s.chan ch.val).fenced = false → s.running = true →
      ((s.chan ch.val).isOn = true ∨ ∃ b, (s.chan ch.val).stage = .dipped b) →
    Runs (.outputHardShort ch) s fun t =>
      Keeps [.logs, .outputs, .meas, .faults, .pins] s t ∧ FencedOff (t.chan ch.val) ∧
      t.has .out 0 = true ∧ t.has .out (10 + ch.val) = true ∧ StickyKept s t ∧ ∀ j, j ≠ ch.val → t.chan j = s.chan j) ∧
  (∀ c, (c = .inrushOvercurrent ch ∧ (s.chan ch.val).stage = .opening ∧ chanRole s.cfg ch.val ≠ .coil) ∨
      (c = .overcurrent ch ∧ ((s.chan ch.val).stage = .steady ∨
        (s.chan ch.val).stage = .opening ∧ chanRole s.cfg ch.val = .coil)) →
    Runs c s fun t =>
      Keeps [.logs, .outputs, .meas, .faults, .pins] s t ∧ StickyKept s t ∧ (∀ j, j ≠ ch.val → t.chan j = s.chan j) ∧
      (chanRole s.cfg ch.val = .coil ∨ (∃ x, (s.chan ch.val).overAt = some x ∧ s.passed x 60000 = false) →
        FencedOff (t.chan ch.val) ∧ t.has .out 2 = true) ∧
      (chanRole s.cfg ch.val ≠ .coil → (∀ x, (s.chan ch.val).overAt = some x → s.passed x 60000 = true) →
        (t.chan ch.val).stage = .retryWait ∧ (t.chan ch.val).fenced = (s.chan ch.val).fenced ∧
        (t.chan ch.val).command = (s.chan ch.val).command ∧ (t.chan ch.val).overAt = some s.now ∧ t.has .out 1 = true)) ∧
  ((s.chan ch.val).stage = .steady →
    (chanRole s.cfg ch.val = .coil → Runs (.openLoad ch) s fun t =>
      Keeps [.logs, .outputs, .meas, .faults, .pins] s t ∧ FencedOff (t.chan ch.val) ∧
      t.has .out 4 = true ∧ StickyKept s t) ∧
    (chanRole s.cfg ch.val ≠ .coil → Runs (.openLoad ch) s fun t =>
      Keeps [.logs, .faults, .pins] s t ∧ t.has .out 3 = true ∧ StickyKept s t)) ∧
  ((s.chan ch.val).command = false → (s.chan ch.val).isOn = false → s.running = true → chanRole s.cfg ch.val ≠ .none →
    ch.val < s.outputs.channels.length →
    Runs (.offStateCurrent ch) s fun t =>
      Keeps [.outputs, .meas, .faults, .logs, .pins] s t ∧ t.chan ch.val = { s.chan ch.val with offCurrent := true } ∧
      t.has .out 5 = true ∧ StickyKept s t)) ∧
  (∀ s : State, s.faults.length = 18 →
  (∀ k : Fin 3, (s.outputs.pumps.getD k.val Pump.reset).running = true → 2 * k.val + 1 < s.outputs.channels.length →
    Runs (.pumpDip k) s fun t =>
      Keeps [.outputs, .logs, .meas, .faults, .pins] s t ∧ StickyKept s t ∧
      (∀ i, (i = 2 * k.val ∨ i = 2 * k.val + 1) → (t.chan i).isOn = false) ∧
      ((((s.outputs.pumps.getD k.val Pump.reset).dips.filter fun x => !s.passed x 1000).length < 2) →
        ∀ i, (i = 2 * k.val ∨ i = 2 * k.val + 1) → (s.chan i).isOn = true →
          (t.chan i).stage = .dipped (decide ((s.chan i).stage = .opening) && decide (chanRole s.cfg i ≠ .coil)) ∧
          (t.chan i).command = (s.chan i).command ∧ t.has .out 6 = true) ∧
      (2 ≤ ((s.outputs.pumps.getD k.val Pump.reset).dips.filter fun x => !s.passed x 1000).length →
        t.has .out 8 = true ∧ classOf .out 8 = .u ∧
        ∀ i, (i = 2 * k.val ∨ i = 2 * k.val + 1) → FencedOff (t.chan i) ∧ t.has .out (10 + i) = true)) ∧
  (∀ (ch : Fin 6) inrush, (s.chan ch.val).stage = .dipped inrush →
    Runs (.pumpReleaseTimeout ch) s fun t =>
      Keeps [.logs, .outputs, .meas, .faults, .pins] s t ∧ FencedOff (t.chan ch.val) ∧
      t.has .out 7 = true ∧ StickyKept s t) ∧
  (s.outputs.vswOk = true → s.running = true →
    Runs .vswLow s fun t =>
      Keeps [.outputs, .logs, .meas, .faults, .pins, .services] s t ∧ t.outputs.vswOk = false ∧ t.has .out 9 = true ∧
      (∀ i, i < 6 → (t.chan i).isOn = false) ∧ StickyKept s t ∧
      (s.isDealer = true → t.services.pack = .opened ∧ t.pins.ready = false)))

/-- The interlock (R502 to R506, R518, R521): a channel that reads open trips a Dealer without lock-out and opens a String
Head's string; a channel that reads closed again is closed; a source whose readback is bad for the second time running is a
fault with SUPERV bit 11, and a channel whose pulse samples are wrong for the second cycle running a cross short with
SUPERV bit 10; an interlock that is open, faulted or pending is told to the Dealer by TRUMP. -/
def Obligations.InterlockIsSampled : Prop := ∀ s : State,
  (s.interlockRuns = true → ∀ ch, s.loopOpen ch = false →
    Runs (.interlockOpen ch) s fun t =>
      Keeps [.safety, .logs, .outputs, .meas, .services, .pins, .portN, .portS] s t ∧ t.loopOpen ch = true ∧
      t.interlockClosed = false ∧ (s.isDealer = true → t.services.pack = .opened ∧ t.pins.ready = false) ∧
      (s.isHead = true → t.safety.refuse = true ∧
        ∀ i, i < 3 → chanRole s.cfg i = .coil → (t.chan i).isOn = false ∧ (t.chan i).command = false)) ∧
  (s.interlockRuns = true → ∀ ch, s.loopOpen ch = true →
    Runs (.interlockClosed ch) s fun t =>
      Keeps [.safety, .logs, .outputs, .meas, .services, .pins, .portN, .portS] s t ∧ t.loopOpen ch = false ∧
      t.keeper.lockout = s.keeper.lockout) ∧
  (s.interlockRuns = true → s.faults.length = 18 → s.safety.srcA = 1 → s.safety.srcFault = false →
    s.safety.crossShort = false → ∀ a b i o v, 15000 ≤ v → (1000 < i ∨ o < 10000) →
    Runs (.testPulse .a a b i o v) s fun t =>
      t.safety.srcFault = true ∧ t.interlockClosed = false ∧ t.has .superv 11 = true ∧ StickyKept s t ∧
      (s.isDealer = true → t.services.pack = .opened)) ∧
  (s.interlockRuns = true → s.faults.length = 18 → s.safety.crossA = 1 → s.safety.halfA = some true →
    s.judged .a = true → ∀ a b i o v, v < 15000 →
    Runs (.testPulse .b a b i o v) s fun t =>
      t.safety.crossA = 2 ∧ t.safety.crossShort = true ∧ t.has .superv 10 = true ∧ StickyKept s t) ∧
  (s.running = true → s.isHead = true → s.usesInterlock = true → s.interlockWord ≠ 0 → s.ring.bitSet = true →
    s.dev.fatal = false → s.closedRing = false → (s.port s.ring.primary).up = true →
    (s.port s.ring.primary).fenced = false →
    Runs .interlockTrump s fun t =>
      Keeps [.safety, .logs, .portN, .portS] s t ∧ t.safety = { s.safety with ilkDeals := 0 } ∧
      (t.port s.ring.primary).trumpQ = (s.port s.ring.primary).trumpQ ++
        [s.ownFrame s.ring.primary .trump (trumpWords 0x0C 0 0 s.interlockWord (summaryWord s.faults) 0)])

/-- The demand test and the degraded timer (R507 to R509, R515, R517): a qualified opening ends the pending test and restarts
the powered time; the interval makes it pending; the end of the degraded time is a trip with lock-out; an hour without a
condition clears the timer. -/
def Obligations.DemandTestAndDegradedTimer : Prop := ∀ s : State,
  (s.interlockRuns = true → s.interlockClosed = true → s.safety.qualified = true → s.keeper.demand = true →
    exec .demandOpeningComplete s = .next { s with
      safety := { s.safety with qualified := false }
      keeper := { s.keeper with demand := false, powered := 0 }
      nv := { s.nv with demand := false, powered := 0 } }) ∧
  (s.running = true → s.usesInterlock = true →
    exec .demandIntervalExpiry s = .next { s with
      keeper := { s.keeper with demand := true }
      nv := { s.nv with demand := true, powered := s.keeper.powered }
      safety := { s.safety with afterPend := false, qualified := false } }) ∧
  (s.running = true → s.isDealer = true → s.safety.running = true → s.safety.expired = false → s.dev.fatal = false →
    Runs .degradedTimeExpiry s fun t =>
      Keeps [.safety, .logs, .outputs, .meas, .services, .pins, .keeper, .nv] s t ∧ t.safety.expired = true ∧
      t.keeper.lockout = true ∧ t.nv.lockout = true ∧ t.pins.lockN = true ∧ t.services.pack = .opened ∧
      t.pins.ready = false ∧ ∀ i, i < 3 → chanRole s.cfg i = .coil → (t.chan i).command = false) ∧
  (s.isDealer = true → s.safety.running = false →
    exec .degradedTimerClear s = .next { s with
      safety := { s.safety with degraded := 0, clearAt := none, expired := false } })

/-! ### LOCK_CLR and sealing (chapters 03 and 17) -/

/-- LOCK_CLR (R513, R514): a press is noted; its release with every condition of R514 met clears both lock-out copies, asks for
the ring reset and makes the demand test pending until a boot; with a condition failing both copies stay. In the fatal state the
release changes nothing but the press (R492). -/
def Obligations.LockoutIsCleared : Prop := ∀ s : State, s.running = true → s.isDealer = true →
  exec .lockClrPress s = .next { s with safety := { s.safety with pressed := true } } ∧
  ∀ ms, s.safety.pressed = true →
    (s.dev.fatal = true → exec (.lockClrRelease ms) s = .next { s with safety := { s.safety with pressed := false } }) ∧
    (s.dev.fatal = false → (s.straps.keyRead = false ∨ ms < 10000 ∨ 20000 < ms) →
      (s.clearVerdict ms = 0 → Runs (.lockClrRelease ms) s fun t =>
        Keeps [.safety, .logs, .nv, .dealer, .keeper, .pins] s t ∧ t.keeper.lockout = false ∧ t.nv.lockout = false ∧
        t.pins.lockN = false ∧ t.dealer.wantReset = true ∧ t.keeper.demand = true ∧ t.safety.untilBoot = true) ∧
      (s.clearVerdict ms ≠ 0 → Runs (.lockClrRelease ms) s fun t =>
        Keeps [.safety, .logs] s t ∧ t.safety = { s.safety with pressed := false }))

/-- Sealing (R82 to R85): a hold of 10 s to 20 s with the service key in place starts one where no condition of R83 fails, the
record being that of the ring as it stands; a failing condition leaves every seal copy as it was. A Hand takes the whole record
as pending and confirms; the Dealer notes confirmations; 2 s after the release what is not committed is discarded. -/
def Obligations.SealingRuns : Prop := ∀ s : State,
  (∀ ms, s.running = true → s.isDealer = true → s.safety.pressed = true → s.dev.fatal = false → s.straps.keyRead = true →
    10000 ≤ ms → ms ≤ 20000 → s.dealer.sealing = none →
    (s.sealFails = none → 2 ≤ s.dealer.discovery.found → Runs (.lockClrRelease ms) s fun t =>
      t.nv = { s.nv with pending := some s.newSeal } ∧
      t.dealer.sealing = some { record := s.newSeal, chunk := 0, confirmed := [], committed := false, announced := false } ∧
      t.keeper = s.keeper) ∧
    (s.sealFails ≠ none → Runs (.lockClrRelease ms) s fun t =>
      Keeps [.safety, .logs] s t ∧ t.safety = { s.safety with pressed := false })) ∧
  (∀ p f r, Reaches s p .rollcall f → subtype f.payload = 3 → s.isDealer = false →
    takeChunk s.ring.sealBuf f.payload = some r → s.ring.sealBuf ≠ some r →
    r.entries.length = field (pw f.payload 2) 17 12 → s.judgeSeal r ≠ 2 →
    Runs (.sealChunk p f) s fun t =>
      Keeps [.portN, .portS, .ring, .nv, .logs] s t ∧ Taken s t p f ∧ t.nv = { s.nv with pending := some r } ∧
      t.ring = { s.ring with sealBuf := some r }) ∧
  (∀ p f x, Delivers s p .rollcall f → subtype f.payload = 4 → s.isDealer = true → s.dealer.sealing = some x →
    x.committed = false → pw f.payload 1 = x.record.number →
    ofCheckWords (pw f.payload 2) (pw f.payload 3) = x.record.check → pw f.payload 4 = 0 →
    x.confirmed.contains f.src.toNat = false →
    Runs (.sealConfirm p f) s fun t =>
      Taken s t p f ∧ (∃ y, t.dealer.sealing = some y ∧ y.confirmed = x.confirmed ++ [f.src.toNat] ∧ y.record = x.record ∧
        (y.committed = true ↔ Sealing.complete { x with confirmed := x.confirmed ++ [f.src.toNat] } = true)) ∧
      (Sealing.complete { x with confirmed := x.confirmed ++ [f.src.toNat] } = true →
        t.nv.active = some x.record ∧ t.nv.pending = none)) ∧
  (s.running = true →
    (∀ x, s.isDealer = true → s.dealer.sealing = some x → x.committed = false → Runs .sealingTimeout s fun t =>
      Keeps [.logs, .dealer, .nv] s t ∧ t.dealer.sealing = none ∧ t.nv = { s.nv with pending := none }) ∧
    (s.isDealer = false → Runs .sealingTimeout s fun t =>
      Keeps [.logs, .nv, .ring] s t ∧ t.nv = { s.nv with pending := none } ∧ t.ring = { s.ring with sealBuf := none }))

/-! ### Self-test (chapter 19) -/

/-- The rolling self-test (R565, R569 to R581): a slice whose turn it is and whose window is open takes one segment in a deal;
segments are counted; matching signatures end the slice; a first mismatch repeats it with BIST bit 1, a second enters the fatal
state with BIST bit 7 or, for the other slices, fences the block with BIST bit 4; a rotation that has not completed in time sets
BIST bit 5.

The memory test of a boot (R566 to R568): failing rows within the spare rows are noted at BIST bit 0; beyond them BIST bit
3 is set and the trace, for bank 7, or the core is barred; a failing buffer holds its link down until reset. -/
def Obligations.SelfTestAndMemoryTest : Prop :=
  (∀ s : State,
  (s.rolling = true → s.bist.running = false → 1 ≤ s.bist.slice → s.bist.slice ≤ 24 → s.sliceRuns s.bist.slice = true →
    s.bist.lastDeal ≠ some s.bistDeal → s.bist.restDeal ≠ some s.bistDeal →
    ¬ (4 ≤ s.bist.slice ∧ s.bist.slice ≤ 6 ∧ s.wireTestDeal s.bistDeal = true) → s.r565 = true → s.supply.lowest = false →
    ¬ ((s.bist.slice = 13 ∨ s.bist.slice = 14) ∧ s.trumpHeld = true) → s.windowOpen = true →
    Runs .bistSegment s fun t =>
      Keeps [.bist, .balance] s t ∧ t.bist.running = true ∧ t.bist.slice = s.bist.slice ∧ t.bist.done = s.bist.done ∧
      t.bist.lastDeal = some s.bistDeal ∧ (s.bist.slice ≤ 5 → t.bist.restDeal = some (s.bistDeal + 1))) ∧
  (s.bist.running = true → s.bist.done + 1 < sliceSegments s.bist.slice → ∀ m,
    Runs (.bistSegmentEnd m) s fun t =>
      Keeps [.bist, .balance] s t ∧ t.bist = { s.bist with running := false, done := s.bist.done + 1 }) ∧
  (s.bist.running = true → sliceSegments s.bist.slice ≤ s.bist.done + 1 →
    (Runs (.bistSegmentEnd true) s fun t =>
      Keeps [.bist, .balance] s t ∧ t.bist.running = false ∧ t.bist.done = 0 ∧ t.bist.again = false) ∧
    (s.faults.length = 18 → s.bist.again = false → Runs (.bistSegmentEnd false) s fun t =>
      t.bist.running = false ∧ t.bist.done = 0 ∧ t.bist.again = true ∧ t.bist.slice = s.bist.slice ∧ t.has .bist 1 = true ∧
      StickyKept s t ∧ Keeps [.bist, .balance, .faults, .logs, .pins] s t) ∧
    (s.faults.length = 18 → s.bist.again = true → s.dev.fatal = false → s.sliceFatal s.bist.slice = true →
      Runs (.bistSegmentEnd false) s fun t => FatalState s t ∧ t.has .bist 7 = true ∧ t.pins.bistOk = false ∧ StickyKept s t) ∧
    (s.faults.length = 18 → s.bist.again = true → s.sliceFatal s.bist.slice = false →
      Runs (.bistSegmentEnd false) s fun t =>
        t.has .bist 4 = true ∧ t.pins.bistOk = false ∧ t.bist.fenced = s.bist.fenced ++ [s.bist.slice] ∧
        t.bist.running = false ∧ StickyKept s t ∧ t.nv = s.nv ∧ t.flash = s.flash)) ∧
  (s.faults.length = 18 → s.running = true → s.bist.started.isSome = true → s.bist.overdue = false → s.dev.fatal = false →
    Runs .rotationOverdue s fun t =>
      Keeps [.bist, .faults, .logs, .pins] s t ∧ t.bist.overdue = true ∧ t.has .bist 5 = true ∧ t.pins.bistOk = false ∧
      StickyKept s t)) ∧
  (∀ (s : State) (rows : List Nat) (n k : Bool),
  s.dev.phase = .boot → s.dev.strapped = true → s.faults.length = 18 →
    Runs (.memoryBist rows n k) s fun t =>
      Keeps [.faults, .logs, .pins, .dev, .portN, .portS] s t ∧ StickyKept s t ∧
      (∀ b, b < 8 → rows.getD b 0 ≠ 0 → rows.getD b 0 ≤ s.spares b → t.has .bist 0 = true) ∧
      (∀ b, b < 8 → rows.getD b 0 ≠ 0 → s.spares b < rows.getD b 0 →
        t.has .bist 3 = true ∧ (b = 7 → t.dev.traceOff = true) ∧ (b ≠ 7 → t.dev.coreBarred = true)) ∧
      (n = true → t.portN = { s.portN with heldDown := true, up := false } ∧ t.has .bist 3 = true) ∧
      (k = true → t.portS = { s.portS with heldDown := true, up := false } ∧ t.has .bist 3 = true) ∧
      (n = false → t.portN = s.portN) ∧ (k = false → t.portS = s.portS) ∧
      ((∀ b, b < 8 → rows.getD b 0 = 0) → n = false → k = false → t.faults = s.faults ∧ t.dev = s.dev))

/-- The off-line self-test (R565, R582 to R589): a request of 10 ms to 2 s starts it in FIELD where the role condition holds,
with every load off and BIST_OK low, and is refused with BIST bit 2 where it does not; its end holds the result in KPR and
resets the part, without a result where R565 fails; V3D outside its window abandons what runs; the result block leaves bit by
bit on TDO in the TEST and RETURN states. -/
def Obligations.OfflineSelfTestRuns : Prop := ∀ s : State,
  (s.running = true → s.dev.offTest = false →
    exec .bistReqPress s = .next { s with bist := { s.bist with pressed := true } }) ∧
  (∀ ms tm, s.bist.pressed = true → s.running = true → s.dev.offTest = false → s.dev.fatal = false → 10 ≤ ms → ms ≤ 2000 →
    s.nv.lifeCycle = .field →
    (s.testAllowed = true → s.clocks.safeOk = true → s.clocks.v3dOk = true →
      Runs (.bistReqRelease ms tm) s fun t =>
        t.dev.offTest = true ∧ t.pins.bistOk = false ∧ t.pins.ready = false ∧ t.bist.full = false ∧ t.bist.pressed = false ∧
        t.balance.jobs = [] ∧ t.dealer.stopped = true ∧ (∀ i, i < 6 → (t.chan i).command = false ∧ (t.chan i).isOn = false) ∧
        t.nv = s.nv ∧ t.flash = s.flash) ∧
    (s.testAllowed = false → s.faults.length = 18 → Runs (.bistReqRelease ms tm) s fun t =>
      Keeps [.bist, .faults, .logs, .pins] s t ∧ t.bist = { s.bist with pressed := false } ∧ t.has .bist 2 = true ∧
      StickyKept s t)) ∧
  (∀ k sigs rows, s.dev.offTest = true →
    (s.r565 = false → Runs (.offlineTestEnd k sigs rows) s fun t =>
      t.dev.phase = .boot ∧ t.keeper.testAbandoned = true ∧ t.keeper.testResult = s.keeper.testResult ∧ t.nv = s.nv) ∧
    (s.r565 = true → Runs (.offlineTestEnd k sigs rows) s fun t =>
      t.dev.phase = .boot ∧ t.keeper.cause = s.keeper.cause ||| causeRstn ∧
      (k ≠ 0 → t.keeper.testResult = some (.fail k)) ∧
      (k = 0 → (∀ b, b < 8 → rows.getD b 0 ≤ s.spares b) → t.keeper.testResult = some .pass) ∧
      t.nv.repairs = (if s.bist.full then s.sparesUsed rows else s.nv.repairs))) ∧
  (∀ v, (3230 ≤ v ∧ v ≤ 3370 →
      exec (.bistSupplyMonitor v) s = .next { s with clocks := { s.clocks with v3dOk := true } }) ∧
    (v < 3230 ∨ 3370 < v → Runs (.bistSupplyMonitor v) s fun t =>
      (s.dev.offTest = true → t.dev.phase = .boot ∧ t.keeper.testAbandoned = true) ∧
      (s.dev.offTest = false → t.clocks.v3dOk = false ∧ t.bist.running = false ∧ StickyKept s t))) ∧
  (s.fullTests = true → s.pins.driven = true → s.nv.resultBlock ≠ [] →
    (s.service.shifted < 32 * s.nv.resultBlock.length →
      exec (.tckRisingEdge true) s = .next { s with
        service := { s.service with shifted := s.service.shifted + 1 }
        pins := { s.pins with tdo := some (blockBit s.nv.resultBlock s.service.shifted) } }) ∧
    (32 * s.nv.resultBlock.length ≤ s.service.shifted →
      Runs (.tckRisingEdge true) s fun t => Keeps [.pins, .dev] s t ∧ t.pins.tdo.isSome = true ∧
        t.dev.freeCtr = s.dev.freeCtr + 1))

/-! ### Balancing and the fan (chapters 11 to 13) -/

/-- The passive banks (R317 to R319, R368): a switch that limits its current stays open for the deal with BALP bit 1, and for
good the third time in 64 deals with BALP bit 3; one whose current is too low on two measured deals running is fenced with BALP
bit 4; leakage on two deals running fences its bank with BALP bit 5; a unit whose command is not renewed stops. -/
def Obligations.PassiveBanksAreProtected : Prop := ∀ (s : State) (c : Fin 18), s.faults.length = 18 →
  c.val < s.balance.fenced.length → c.val < s.balance.tripped.length → c.val < s.balance.lowRun.length →
  c.val < s.balance.leakRun.length →
  (s.balance.closed.getD c.val false = true → s.balance.tripped.getD c.val false = false → s.meas.pause = false →
    Runs (.bleedCurrentLimit c) s fun t =>
      Keeps [.balance, .faults, .logs, .pins] s t ∧ t.balance.tripped.getD c.val false = true ∧ t.has .balp 1 = true ∧
      StickyKept s t ∧
      (2 ≤ ((s.balance.trips.getD c.val []).filter fun d => s.ring.deals < d + 64).length →
        t.balance.fenced.getD c.val false = true ∧ t.balance.closed.getD c.val false = false ∧ t.has .balp 3 = true)) ∧
  (∀ ua : Nat, s.balance.closed.getD c.val false = true → s.balance.tripped.getD c.val false = false →
    ((ua : Rat) < s.cellMv c.val * 400 / ((s.cfg.bleedOhm : Rat) + 3) → s.balance.lowRun.getD c.val 0 = 1 →
      s.balance.lowAt.getD c.val none ≠ some s.ring.deals →
      Runs (.bleedCurrentCheck c ua) s fun t =>
        Keeps [.balance, .faults, .logs, .pins] s t ∧ t.balance.fenced.getD c.val false = true ∧
        t.balance.closed.getD c.val false = false ∧ t.has .balp 4 = true ∧ StickyKept s t) ∧
    (s.cellMv c.val * 400 / ((s.cfg.bleedOhm : Rat) + 3) ≤ (ua : Rat) →
      Runs (.bleedCurrentCheck c ua) s fun t =>
        Keeps [.balance] s t ∧ t.balance = { s.balance with
          lowRun := s.balance.lowRun.set c.val 0, lowAt := s.balance.lowAt.set c.val (some s.ring.deals) })) ∧
  (∀ ua, s.balance.closed.getD c.val false = false → s.running = true → s.balance.leakRun.getD c.val 0 = 1 →
    (if c.val < 9 then s.balance.fenceA else s.balance.fenceB) = false →
    (5000 ≤ ua → s.balance.leakAt.getD c.val none = some (s.ring.deals - 1) → 0 < s.ring.deals → Runs (.bleedLeakage c ua) s fun t =>
      Keeps [.balance, .faults, .logs, .pins] s t ∧ t.has .balp 5 = true ∧ StickyKept s t ∧
      t.balance.leakCell = some c.val ∧ (c.val < 9 → t.balance.fenceA = true) ∧ (9 ≤ c.val → t.balance.fenceB = true) ∧
      (∀ i, bankOf i = bankOf c.val → t.balance.closed.getD i false = false) ∧
      ∀ j ∈ t.balance.jobs, j.unit ≠ bankOf c.val) ∧
    (ua < 5000 → exec (.bleedLeakage c ua) s = .next { s with
      balance := { s.balance with
        leakRun := s.balance.leakRun.set c.val 0, leakAt := s.balance.leakAt.set c.val (some s.ring.deals) } })) ∧
  (s.running = true → s.core = false → ∀ u, Runs (.commandTimeout u) s fun t =>
    Keeps [.balance] s t ∧ t.balance.jobs = s.balance.jobs.filter (·.unit ≠ u))

/-- The active converter runs in periods (R326 to R333): a confirmed selection is ready, a newer command starts its own change;
a period starts with the primary leg while the mean is below the command; the peak turns it over to the rectifying leg and its
zero ends the period; a leg that misses its instant is counted at BALA bit 0.

The active converter's protections (R335 to R342): a desaturation turns both gates off with BALA bit 1, the eighth in a deal
stops or fences it; a hard short deselects the cell, stops it for the deal with BALA bit 2 and fences it the second time in 64
deals; a desaturation on the second leg within a period, a shoot-through and a selection off its level fence it; an external
trip is latched with BALA bit 3, the third in 64 deals fences it with BALA bit 9. -/
def Obligations.ConverterSwitchesAndIsProtected : Prop :=
  (∀ (s : State) (c : Nat),
  (s.balance.stage = .selecting c →
    (s.balance.wanted = some c → exec .selectionConfirmed s = .next { s with
      balance := { s.balance with stage := .ready c, soft := 0, skipNext := false } }) ∧
    (∀ w, w ≠ c → s.balance.wanted = some w → exec .selectionConfirmed s = .next { s with
      balance := { s.balance with stage := .selecting w } }) ∧
    (s.balance.wanted = none → exec .selectionConfirmed s = .next { s with
      balance := { s.balance with stage := .unselected } })) ∧
  (s.balance.stage = .ready c → s.maySwitch = true → s.balance.skipNext = false → ∀ (r : Bool) (ma : Nat),
    ((ma : Rat) < s.balance.command → Runs (.switchingPeriod r ma) s fun t =>
      Keeps [.balance] s t ∧ t.balance.stage = .primaryOn c ∧ t.balance.soft = min 32 (s.balance.soft + 1)) ∧
    (s.balance.command ≤ (ma : Rat) → Runs (.switchingPeriod r ma) s fun t =>
      Keeps [.balance] s t ∧ t.balance.stage = .ready c)) ∧
  (s.balance.stage = .primaryOn c →
    exec .acvPeak s = .next { s with balance := { s.balance with stage := .rectifierOn c } } ∧
    (s.faults.length = 18 → Runs .acvPeakTimeout s fun t =>
      Keeps [.balance, .faults, .logs, .pins] s t ∧ t.balance = { s.balance with stage := .ready c } ∧
      t.has .bala 0 = true ∧ StickyKept s t)) ∧
  (s.balance.stage = .rectifierOn c →
    exec .acvZeroCurrent s = .next { s with balance := { s.balance with stage := .ready c } } ∧
    (s.faults.length = 18 → ∀ ma, Runs (.switchingPeriod true ma) s fun t =>
      Keeps [.balance, .faults, .logs, .pins] s t ∧ t.balance.stage = .ready c ∧ t.has .bala 0 = true ∧ StickyKept s t))) ∧
  (∀ s : State, s.faults.length = 18 →
  (s.balance.acvFenced = false → s.activeJob.isSome = true → ∀ l,
    (Runs (.acvDesaturation l) s fun t =>
      Keeps [.balance, .faults, .logs, .pins] s t ∧ StickyKept s t ∧ t.has .bala 1 = true ∧
      t.balance.stage.gateOn = false ∧ (s.balance.desats = 7 → t.balance.stopped = true ∨ t.balance.acvFenced = true) ∧
      (s.balance.legsHit.length = 1 → s.balance.legsHit.contains l = false → ConverterFenced t ∧ t.has .bala 7 = true)) ∧
    (Runs (.acvHardShort l) s fun t =>
      Keeps [.balance, .faults, .logs, .pins] s t ∧ StickyKept s t ∧ t.has .bala 2 = true ∧ t.balance.stage = .unselected ∧
      t.balance.stopped = true ∧
      (1 ≤ (s.balance.shorts.filter fun d => s.ring.deals < d + 64).length → ConverterFenced t))) ∧
  (s.balance.acvFenced = false → s.running = true →
    (Runs .shootThrough s fun t =>
      Keeps [.balance, .faults, .logs, .pins] s t ∧ ConverterFenced t ∧ t.has .bala 7 = true ∧ StickyKept s t) ∧
    (Runs .selLevelTimeout s fun t =>
      Keeps [.balance, .faults, .logs, .pins] s t ∧ ConverterFenced t ∧ t.has .bala 8 = true ∧ StickyKept s t)) ∧
  (s.running = true → s.acvPowered = true → s.balance.latch = false → s.balance.acvFenced = false →
    Runs .balTrip s fun t =>
      Keeps [.balance, .faults, .logs, .pins] s t ∧ t.balance.pin = true ∧ t.balance.latch = true ∧ t.has .bala 3 = true ∧
      t.balance.stage.gateOn = false ∧ StickyKept s t ∧
      (2 ≤ (s.balance.trips64.filter fun d => s.ring.deals < d + 64).length →
        ConverterFenced t ∧ t.has .bala 9 = true)) ∧
  exec .balTripInactive s = .next { s with balance := { s.balance with pin := false } })

/-- A new die trip (R380, R382, R444): every bleed switch and every selection opens, every job ends, every load channel turns
off, a Dealer's pack opens, with THERM bit 0; the third within 10 min fences the balancing units with THERM bit 2. The hourly
ageing measurement (R350 to R352) sets the ceilings' factors and reports a monitor at its limit once a boot. -/
def Obligations.DieTripAndAgeing : Prop := ∀ s : State, s.running = true → s.faults.length = 18 →
  (∀ k, s.balance.dieTrip = false → Runs (.dieTrip k) s fun t =>
    Keeps [.balance, .logs, .faults, .pins, .outputs, .meas, .services] s t ∧ t.balance.dieTrip = true ∧
    t.balance.closed = List.replicate 18 false ∧ t.balance.stage = .unselected ∧ t.balance.jobs = [] ∧
    t.has .therm 0 = true ∧ StickyKept s t ∧ (∀ i, i < 6 → (t.chan i).isOn = false) ∧
    (s.isDealer = true → t.services.pack = .opened ∧ t.pins.ready = false) ∧
    (2 ≤ (s.balance.dieTrips.filter fun x => !(s.passed x 600000)).length →
      t.balance.fenceA = true ∧ t.balance.fenceB = true ∧ t.balance.acvFenced = true ∧ t.has .therm 2 = true)) ∧
  ∀ a b dc ds : Nat, Runs (.ageingMeasurement a b dc ds) s fun t =>
    Keeps [.nv, .balance, .faults, .logs, .pins] s t ∧ t.nv = { s.nv with runHours := s.nv.runHours + 1 } ∧ StickyKept s t ∧
    t.balance.ageing = [some (if a ≤ 4096 then 1 else 4096 / (a : Rat)), some (if b ≤ 4096 then 1 else 4096 / (b : Rat)),
      some (1 - 2 * ((max dc ds : Nat) : Rat) / 100000)] ∧
    (57344 ≤ a * 10 → s.balance.aged.getD 0 false = false → t.has .balp 2 = true) ∧
    (10000 ≤ dc → s.balance.aged.getD 2 false = false → t.has .bala 4 = true)

/-- The fan (R408 to R417): a due purge starts where no purge runs and the lowest state does not defer it, and takes its steps
at the ends of its ramps and of its hold; the direction changes only where R410 lets it; an edge of the tachometer is taken in
its direction, a transition of both inputs is invalid and the sixteenth within 1 s is a tachometer fault with FAN bit 0; a
stalled fan is reported with FAN bit 1. -/
def Obligations.FanRuns : Prop := ∀ s : State, s.isHand = false → s.running = true →
  (s.cfg.purgeH ≠ 0 → exec .purgeDue s = .next { s with fan := { s.fan with due := true } }) ∧
  (s.fanRuns = true → s.fan.due = true → s.fan.purge = none → s.supply.lowest = false →
    exec .purgeStart s = .next { s with fan := { s.fan with
      due := false, target := 0, purge := some (if s.fan.duty = 0 then .reverse else .rampDown) } }) ∧
  (s.fan.frozen = false → s.dev.fatal = false → Runs .fanRampEnd s fun t =>
    Keeps [.fan] s t ∧ t.fan.duty = s.fan.target ∧ t.fan.reverse = s.fan.reverse ∧
    (s.fan.purge = some .rampDown → t.fan.purge = some .reverse) ∧ (s.fan.purge = some .rampUp → t.fan.purge = some .hold) ∧
    (s.fan.purge = some .rampBack → s.fan.reverse = true → t.fan.purge = some .forward) ∧
    (s.fan.purge = some .rampBack → s.fan.reverse = false → t.fan.purge = none)) ∧
  (s.fan.purge = some .hold → s.fan.frozen = false →
    exec .purgeHoldEnd s = .next { s with fan := { s.fan with purge := some .rampBack, target := 0 } }) ∧
  (s.dev.fatal = false → s.dirMayChange = true →
    (s.fan.purge = some .reverse → exec .fanDirChange s = .next { s with
      fan := { s.fan with reverse := true, purge := some .rampUp, target := 480 } }) ∧
    (s.fan.purge = some .forward → Runs .fanDirChange s fun t =>
      Keeps [.fan] s t ∧ t.fan.reverse = false ∧ t.fan.purge = none)) ∧
  (s.dirMayChange = false → exec .fanDirChange s = .next s) ∧
  (∀ a b x,
    (quadrature a b = (quadrature s.fan.tachA s.fan.tachB + 1) % 4 → exec (.tachEdge a b x) s = .next { s with
      fan := tachEdge true x s.now { s.fan with tachA := a, tachB := b } }) ∧
    (quadrature s.fan.tachA s.fan.tachB = (quadrature a b + 1) % 4 → exec (.tachEdge a b x) s = .next { s with
      fan := tachEdge false x s.now { s.fan with tachA := a, tachB := b } }) ∧
    (quadrature a b = (quadrature s.fan.tachA s.fan.tachB + 2) % 4 → s.fan.tachFault = false → s.faults.length = 18 →
      15 ≤ (s.fan.invalid.filter fun y => x < y + 1000000).length → Runs (.tachEdge a b x) s fun t =>
        Keeps [.fan, .faults, .logs, .pins] s t ∧ t.fan.tachFault = true ∧ t.has .fan 0 = true ∧ StickyKept s t)) ∧
  exec .tachFaultClear s = .next { s with fan := { s.fan with tachFault := false, invalid := [] } } ∧
  exec .standstill s = .next { s with fan := { s.fan with stage := .standstill, times := [] } } ∧
  (s.fan.stall = false → 144 ≤ s.fan.duty → s.faults.length = 18 → Runs .fanStall s fun t =>
    Keeps [.fan, .faults, .logs, .pins] s t ∧ t.fan = { s.fan with stall := true } ∧ t.has .fan 1 = true ∧ StickyKept s t)

/-! ### Vehicle interfaces and logs (chapters 15 and 18) -/

/-- The streamers (R457, R463 to R468): at its start a publication takes the place of what has not begun, RAIVO bit 3 telling of
what is discarded; a frame that ends makes room for the next; an echoed byte that differs from the byte sent sets RAIVO bit 4.

The CAN node's error states (R451, R455): a frame received lowers the receive counter; an error raises its counter, by 8 for a transmit error, and
error-passive is entered at 128 with RAIVO bit 1; a transmit counter above 255 is bus-off with RAIVO bit 2, the sixteenth within
an hour with RAIVO bit 7; recovery is error-active with both counters 0. The steps of the counters are the model's (log 21). -/
def Obligations.VehicleStreamsAndCan : Prop :=
  (∀ s : State, s.faults.length = 18 →
  (s.running = true → Runs .publicationStart s fun t =>
    Keeps [.vehicle, .faults, .logs, .pins] s t ∧ StickyKept s t ∧
    (∀ fs, s.vehicle.canOut.staged = some fs → s.vehicle.canOut.busy = false → s.vehicle.canFree = true → fs ≠ [] →
      t.vehicle.canOut.queue = fs ∧ t.vehicle.canOut.busy = true ∧ t.vehicle.canOut.staged = none) ∧
    (∀ fs, s.vehicle.rsOut.staged = some fs → s.vehicle.rsOut.busy = false → s.vehicle.rsOut.stopped = false → fs ≠ [] →
      t.vehicle.rsOut.queue = fs ∧ t.vehicle.rsOut.busy = true ∧ t.vehicle.rsOut.staged = none) ∧
    (∀ fs f x rest, s.vehicle.canOut.staged = some fs → s.vehicle.canOut.busy = true →
      s.vehicle.canOut.queue = f :: x :: rest → t.vehicle.canOut.queue = f :: fs ∧ t.has .raivo 3 = true)) ∧
  (s.vehicle.canOut.busy = true → Runs .canFrameComplete s fun t =>
    Keeps [.vehicle] s t ∧ t.vehicle.canOut.queue = s.vehicle.canOut.queue.drop 1 ∧
    t.vehicle.tecCount = s.vehicle.tecCount - 1 ∧ t.vehicle.recCount = s.vehicle.recCount ∧
    (t.vehicle.canOut.busy = true ↔ s.vehicle.canFree = true ∧ s.vehicle.canOut.queue.drop 1 ≠ [])) ∧
  (s.vehicle.rsOut.busy = true → ∀ echo, Runs (.rs485FrameComplete echo) s fun t =>
    Keeps [.vehicle, .faults, .logs, .pins] s t ∧ t.vehicle.rsOut.queue = s.vehicle.rsOut.queue.drop 1 ∧
    t.vehicle.canOut = s.vehicle.canOut ∧ StickyKept s t ∧
    ∀ f rest, s.vehicle.rsOut.queue = f :: rest →
      (∀ i, i < echo.length → i < f.bytes.length → echo.getD i 0 ≠ f.bytes.getD i 0 → t.has .raivo 4 = true) ∧
      (echo = f.bytes → t.faults = s.faults))) ∧
  (∀ s : State, s.running = true → s.cfg.canMode.isSome = true →
  s.faults.length = 18 →
  (∀ i d, s.vehicle.canFree = true → Runs (.canFrameReceived i d) s fun t =>
    Keeps [.vehicle, .dev] s t ∧ t.vehicle.tecCount = s.vehicle.tecCount ∧ t.vehicle.canOut = s.vehicle.canOut ∧
    (s.vehicle.recCount ≤ 127 → t.vehicle.recCount = s.vehicle.recCount - 1) ∧
    (127 < s.vehicle.recCount → 119 ≤ t.vehicle.recCount ∧ t.vehicle.recCount ≤ 127)) ∧
  (s.vehicle.can ≠ .busOff → (s.vehicle.canOut.stopped = false ∨ s.vehicle.canOut.busy = true) →
    (∀ k n, (k = CanErrorKind.receive ∧ n = 1) ∨ (k = CanErrorKind.receiveDominant ∧ n = 8) → Runs (.canError k) s fun t =>
      Keeps [.vehicle, .faults, .logs, .pins] s t ∧ StickyKept s t ∧ t.vehicle.recCount = s.vehicle.recCount + n ∧
      t.vehicle.tecCount = s.vehicle.tecCount ∧
      (s.vehicle.can = .active → 128 ≤ s.vehicle.recCount + n → t.vehicle.can = .passive ∧ t.has .raivo 1 = true)) ∧
    (s.vehicle.canOut.busy = true → Runs (.canError .transmit) s fun t =>
      Keeps [.vehicle, .faults, .logs, .pins] s t ∧ StickyKept s t ∧ t.vehicle.tecCount = s.vehicle.tecCount + 8 ∧
      (255 < s.vehicle.tecCount + 8 → t.vehicle.can = .busOff ∧ t.has .raivo 2 = true ∧
        (15 ≤ (s.vehicle.busOffs.filter fun x => !s.passed x 3600000).length → t.has .raivo 7 = true)))) ∧
  (s.vehicle.can = .busOff → Runs .busOffRecovery s fun t =>
    Keeps [.vehicle] s t ∧ t.vehicle.can = .active ∧ t.vehicle.tecCount = 0 ∧ t.vehicle.recCount = 0 ∧
    t.vehicle.canOut.queue = s.vehicle.canOut.queue))

/-- The event log in flash (R532 to R537, Table 18-2): the oldest waiting record stands in the write slot with its SEQ and CHECK
and every other byte of flash is as before; a write that fails its verification loses the record and sets RAIVO bit 5; the erase
of a due sector leaves it erased and every other byte as before, a failed one sets RAIVO bit 5 and stays due. -/
def Obligations.LogIsWrittenToFlash : Prop := ∀ s : State, Memory.wf s.flash = true → s.flashCore = true →
  (∀ r rest, s.logs.queue = r :: rest → s.logs.lost = 0 → slotErased s.flash s.writeSlot = true →
    (Runs (.logWrite true) s fun t =>
      Keeps [.logs, .flash, .keeper] s t ∧ t.logs.queue = rest ∧ t.keeper.seq = s.keeper.seq + 1 ∧
      Memory.bytes t.flash s.writeSlot 16 = recordBytes s.keeper.seq r ∧
      ∀ x, x < s.writeSlot ∨ s.writeSlot + 16 ≤ x → Memory.read t.flash x = Memory.read s.flash x) ∧
    (s.faults.length = 18 → Runs (.logWrite false) s fun t =>
      Keeps [.logs, .flash, .keeper, .dev, .faults, .pins] s t ∧ t.logs.queue = rest ∧ t.keeper.seq = s.keeper.seq ∧
      t.has .raivo 5 = true ∧ StickyKept s t ∧
      ∀ x, x < s.writeSlot + 8 ∨ s.writeSlot + 16 ≤ x → Memory.read t.flash x = Memory.read s.flash x)) ∧
  (s.logs.eraseDue = true →
    (Runs (.sectorErase true) s fun t =>
      Keeps [.flash, .logs, .nv] s t ∧ t.logs.eraseDue = false ∧
      ∀ x, Memory.read t.flash x = if s.spare ≤ x ∧ x < s.spare + 4096 then 0xFF else Memory.read s.flash x) ∧
    (s.faults.length = 18 → Runs (.sectorErase false) s fun t =>
      Keeps [.flash, .logs, .dev, .faults, .pins] s t ∧ t.logs.eraseDue = true ∧ t.has .raivo 5 = true ∧ StickyKept s t ∧
      ∀ x, x < s.spare ∨ s.spare + 4096 ≤ x → Memory.read t.flash x = Memory.read s.flash x))

/-- The records at fixed times (R94, R420, R480, R509, R538, R542): each adds its records to those that wait for flash, in the
order they are made. The energy record also keeps counter and demand flag; the service state goes to the older of two copies.

The shock log (R540 to R542): an event opens and closes; each closed event enters the summary, and it makes a record while
fewer than 16 have been made within the hour. -/
def Obligations.RecordsAndShocks : Prop :=
  (∀ s : State, s.running = true → s.core = true →
  (s.logs.queue.length < 64 → Runs .energyRecord s fun t =>
    Keeps [.logs, .nv, .balance] s t ∧ t.nv.energy = s.keeper.energy ∧ t.nv.demand = s.keeper.demand ∧
    t.nv.powered = s.keeper.powered ∧ t.balance.jobsLogged = 0 ∧
    ∃ r, t.logs.queue = s.logs.queue ++ [r] ∧ r.rtype = 0x09 ∧ r.seconds = s.seconds ∧
      r.payload.take 4 = bytesBE 4 s.keeper.energy.toNat) ∧
  (s.logs.queue.length + (pairEntries s.countEntries).length ≤ 64 → Runs .countsRecord s fun t =>
    Keeps [.logs] s t ∧ t.logs.queue = s.logs.queue ++
      (pairEntries s.countEntries).map fun p => { rtype := 0x06, seconds := s.seconds, payload := p }) ∧
  (s.isDealer = true → s.logs.queue.length + 2 * s.stringList.length ≤ 64 → Runs .packTotals s fun t =>
    Keeps [.logs] s t ∧ t.logs.queue.length = s.logs.queue.length + 2 * s.stringList.length ∧
    t.logs.queue.take s.logs.queue.length = s.logs.queue) ∧
  (s.isDealer = true → Runs .serviceStateRecord s fun t =>
    Keeps [.services, .nv] s t ∧ t.services = { s.services with recordNo := s.services.recordNo + 1 } ∧
    ∃ r : ServiceRecord, r.strings = s.services.strings ∧ r.sohC = s.services.sohC ∧ r.time = s.now ∧
      r.number = s.services.recordNo + 1 ∧
      t.nv = (if r.number % 2 = 1 then { s.nv with recordA := some r } else { s.nv with recordB := some r })) ∧
  (s.logs.queue.length + 4 ≤ 64 → ∀ x y z, Runs (.shockSummary x y z) s fun t =>
    Keeps [.logs] s t ∧ t.logs.peaks = List.replicate 3 0 ∧ t.logs.byTime = List.replicate 4 0 ∧
    ∃ rs, t.logs.queue = s.logs.queue ++ rs ∧ rs.length = 4 ∧ ∀ r ∈ rs, r.rtype = 0x12)) ∧
  (∀ s : State, s.running = true →
  (s.bist.fenced.contains 10 = false → exec .shockEventOpen s = .next { s with logs := { s.logs with shockOpen := true } }) ∧
  ∀ x y z d sat_, s.core = true → s.logs.shockOpen = true → Runs (.shockEventClose x y z d sat_) s fun t =>
    Keeps [.logs] s t ∧ t.logs.shockOpen = false ∧
    t.logs.peaks = s.logs.peaks.zipWith max [x.natAbs, y.natAbs, z.natAbs] ∧
    t.logs.byTime = s.logs.byTime.modify (durationBin d) (· + 1) ∧
    ((s.logs.shocks.filter fun k => !s.passed k 3600000).length < 16 → s.logs.queue.length < 64 →
      ∃ r, t.logs.queue = s.logs.queue ++ [r] ∧ r.rtype = 0x11) ∧
    (16 ≤ (s.logs.shocks.filter fun k => !s.passed k 3600000).length → t.logs.queue = s.logs.queue))

/-! ### The service port and images (chapter 18) -/

/-- The service port (R547 to R552, Table 18-7): one request at a time, any other being answered with status 5; IDENT and a
read of the own log are answered at once, a remote read waits for its records or for its timeout with status 6; a known function
with a wrong length is answered with status 3, a frame whose CRC fails not at all; without its key the port closes. -/
def Obligations.ServicePortAnswers : Prop := ∀ s : State,
  (s.serves = true → s.service.request.isSome = true →
    ∀ c f g, (c = Instr.ident g ∧ f = 0x01) ∨ (∃ p q n, c = .logRead g p q n ∧ f = 0x02) ∨
        (∃ a b n x, c = .imageLoad g a b n x ∧ f = 0x03) ∨ (∃ a, c = .imageCommit g a ∧ f = 0x04) →
      Runs c s fun t =>
        Keeps [.service, .logs] s t ∧
        t.service = { s.service with response := some { function := f, tag := g, status := 5, payload := [] } }) ∧
  (s.serves = true → s.service.request = none → ∀ g,
    (Runs (.ident g) s fun t => Keeps [.service, .logs, .dev] s t ∧
      ∃ q, t.service = { s.service with response := some { function := 0x01, tag := g, status := 0, payload := s.identity q } }) ∧
    (∀ q n, Runs (.logRead g 0xFF q n) s fun t => Keeps [.service, .logs, .dev] s t ∧
      ∃ w : Word, t.service = { s.service with response := some { function := 0x02, tag := g, status := 0
                                                                  payload := bytesBE 2 w.toNat ++
        [BitVec.ofNat 8 (s.recordsFrom q (sat 64 n.toNat)).length] ++ (s.recordsFrom q (sat 64 n.toNat)).flatten } }) ∧
    (∀ p q n, p ≠ 0xFF → s.position ≠ some (p.setWidth 6) →
      (s.isDealer = false → Runs (.logRead g p q n) s fun t => Keeps [.service, .logs] s t ∧
        t.service.response = some { function := 0x02, tag := g, status := 2, payload := [] } ∧ t.service.request = none) ∧
      (s.isDealer = true → s.ring.count ≤ p.toNat → Runs (.logRead g p q n) s fun t => Keeps [.service, .logs] s t ∧
        t.service.response = some { function := 0x02, tag := g, status := 3, payload := [] } ∧ t.service.request = none) ∧
      (s.isDealer = true → p.toNat < s.ring.count → n ≠ 0 → Runs (.logRead g p q n) s fun t =>
        Keeps [.service, .portN, .portS] s t ∧
        t.service.request = some { function := 0x02, tag := g, position := BitVec.ofNat 8 p.toNat }))) ∧
  (∀ r, s.serves = true → s.service.request = some r → r.function = 0x02 → Runs .remoteTimeout s fun t =>
    Keeps [.service, .logs] s t ∧ t.service.request = none ∧
    t.service.response = some { function := 0x02, tag := r.tag, status := 6, payload := [] }) ∧
  (∀ bs : List Byte, 6 ≤ bs.length →
    ((crc16 (bs.take (bs.length - 2))).toNat ≠ ofBytesBE (bs.drop (bs.length - 2)) →
      exec (.invalidServiceRequest bs) s = .next s) ∧
    ((crc16 (bs.take (bs.length - 2))).toNat = ofBytesBE (bs.drop (bs.length - 2)) → bs.getD 0 0 = 0x01 →
      ofBytesBE ((bs.drop 2).take 2) ≠ 0 → s.serves = true → s.service.request = none →
      Runs (.invalidServiceRequest bs) s fun t => Keeps [.service, .logs] s t ∧ t.service.request = none ∧
        t.service.response = some { function := 0x01, tag := bs.getD 1 0, status := 3, payload := [] })) ∧
  exec .requestGapTimeout s = .next s ∧
  ∀ k, s.running = true → s.service.open_ = true → keyReads k = false →
    exec (.serviceKeyRemoved k) s = .next { s with
      service := { s.service with open_ := false, request := none, pendCommit := none } }

/-- Loading and commit of an image (R554 to R558): the blocks of an accepted load stand in the inactive slot, which loads; the
check makes it verified or failed and answers the request that waits; a commit arms a verified slot while the pack is open and is
held pending while it is not. -/
def Obligations.ImagesAreLoadedAndCommitted : Prop := ∀ s : State,
  (∀ g sc n total x, s.serves = true → s.service.request = none → Memory.wf s.flash = true → loadOk sc n total [x] = true →
    s.takesImages = true → (sc = 1 → s.isDealer = true) → s.blockFits n total = true →
    Runs (.imageLoad g sc n total [x]) s fun t =>
      Keeps [.logs, .service, .nv, .flash] s t ∧ slotOf t.nv t.inactive = .loading ∧ t.nv.activeB = s.nv.activeB ∧
      t.service.nextBlock = n + 1 ∧ t.service.total = total ∧
      Memory.bytes t.flash (slotBase s.inactive + 64 * n) 64 = x ∧ (n = 0 → t.nv.armedB = none) ∧
      (n + 1 < total → t.service.request = none ∧
        ∃ p, t.service.response = some { function := 0x03, tag := g, status := 0, payload := p }) ∧
      (n + 1 = total → t.service.request = some { function := 0x03, tag := g, position := 0xFF })) ∧
  (s.running = true → s.core = true → s.loaded = true → Runs .imageVerified s fun t =>
    Keeps [.nv, .logs, .service, .dev, .portN, .portS] s t ∧
    slotOf t.nv s.inactive = (if s.checkImage s.inactive = .ok then .verified else .failed) ∧ t.nv.activeB = s.nv.activeB ∧
    ∀ r, s.service.request = some r → r.function = 0x03 → t.service.request = none ∧
      ∃ p, t.service.response = some { function := 0x03, tag := r.tag
                                       status := if s.checkImage s.inactive = .ok then 0 else 7, payload := p }) ∧
  (∀ g, s.serves = true → s.service.request = none → s.takesImages = true → slotOf s.nv s.inactive = .verified →
    (s.mayArm = true → Runs (.imageCommit g 0) s fun t =>
      Keeps [.logs, .service, .nv] s t ∧ t.nv = { s.nv with armedB := some s.inactive } ∧
      t.service.response = some { function := 0x04, tag := g, status := 0, payload := [1, 0, 0] }) ∧
    (s.mayArm = false → Runs (.imageCommit g 0) s fun t =>
      Keeps [.logs, .service] s t ∧ t.service.pendCommit = some false ∧
      t.service.response = some { function := 0x04, tag := g, status := 4, payload := [0, 1, 0] }))

/-- SERVICE frames (R261, R552, R555 to R557, Table 9-15): a Hand writes a block that it expects, arms on the digest of its
verified image, tells its progress, and answers a LOG_REQUEST with LOG_RECORDS; the Dealer notes what a Hand reports and answers
the LOG READ that waits. -/
def Obligations.ServiceFramesAreHandled : Prop := ∀ s : State,
  (∀ p f, Reaches s p .service f → subtype f.payload = 1 → s.isDealer = false → s.core = true → s.takesImages = true →
    (s.blockFits (pw f.payload 1).toNat (pw f.payload 2).toNat = true → Memory.wf s.flash = true →
      Runs (.imageBlock p f) s fun t =>
        Taken s t p f ∧ slotOf t.nv s.inactive = .loading ∧ t.service.nextBlock = (pw f.payload 1).toNat + 1 ∧
        Memory.bytes t.flash (slotBase s.inactive + 64 * (pw f.payload 1).toNat) 64 =
          padTo 64 (imageBytes ((f.payload.drop 3).take 32))) ∧
    (pw f.payload 1 = pw f.payload 2 → slotOf s.nv s.inactive = .verified →
      imageBytes ((f.payload.drop 3).take 16) = s.imageDigest s.inactive →
      Runs (.imageBlock p f) s fun t => Taken s t p f ∧ t.nv = { s.nv with armedB := some s.inactive } ∧ t.flash = s.flash)) ∧
  (∀ p f, Delivers s p .service f → subtype f.payload = 2 → s.isDealer = true → s.core = true →
    Runs (.imageStatus p f) s fun t =>
      Keeps [.portN, .portS, .service, .logs] s t ∧ Taken s t p f ∧
      (f.src.toNat, (pw f.payload 1).toNat, field (pw f.payload 2) 17 16) ∈ t.service.reported) ∧
  (s.running = true → s.isDealer = false → s.core = true → slotOf s.nv s.inactive = .loading →
    (s.port s.ring.primary).serviceSent < 2 → (s.port s.ring.primary).up = true → (s.port s.ring.primary).fenced = false →
    Runs .imageStatusSend s fun t =>
      Keeps [.portN, .portS] s t ∧
      (t.port s.ring.primary).serviceQ = (s.port s.ring.primary).serviceQ ++
        [s.ownFrame s.ring.primary .service [callWord 2 0 0, word s.service.nextBlock, word 0]]) ∧
  (∀ p f, Delivers s p .service f → subtype f.payload = 3 → s.isDealer = false → s.core = true → s.ring.refused = false →
    (s.port s.ring.primary).serviceSent < 2 → (s.port s.ring.primary).up = true → (s.port s.ring.primary).fenced = false →
    Runs (.logRequest p f) s fun t =>
      Keeps [.portN, .portS, .dev] s t ∧ Taken s t p f ∧
      ∃ w : Word, (t.port s.ring.primary).serviceQ = (s.port s.ring.primary).serviceQ ++
        [s.ownFrame s.ring.primary .service ([callWord 4 0 0, w,
          word (s.recordsFrom ((pw f.payload 1).setWidth 16) (sat 7 (pw f.payload 2).toNat)).length] ++
          (s.recordsFrom ((pw f.payload 1).setWidth 16) (sat 7 (pw f.payload 2).toNat)).flatMap imageWords)]) ∧
  (∀ p f r, Delivers s p .service f → subtype f.payload = 4 → s.isDealer = true → s.serves = true →
    s.service.request = some r → r.function = 0x02 → r.position.toNat = f.src.toNat →
    Runs (.logRecords p f) s fun t =>
      Keeps [.portN, .portS, .service, .logs] s t ∧ Taken s t p f ∧ t.service.request = none ∧
      ∃ q, t.service.response = some { function := 0x02, tag := r.tag, status := 0, payload := q })

/-! ### The whole machine -/

/-- A step runs the command at the front of the queue on the state with the rest of the queue; on an empty queue one period of
the keeper timebase passes (log 22). -/
def Obligations.StepTakesTheFront : Prop :=
  (∀ (s : State) (c : Instr) (rest : List Instr), s.pending = c :: rest → step s = exec c { s with pending := rest }) ∧
  ∀ s : State, s.pending = [] → ∃ t, step s = .next t ∧ t.pending = [] ∧ t.keeper.time = s.keeper.time + 1 ∧
    t.flash = s.flash ∧ t.nv = s.nv

/-- No command faults or is refused, and none touches the queue of the commands that wait (log 22). -/
def Obligations.EveryCommandAnswers : Prop := ∀ (c : Instr) (s : State), Runs c s fun t => t.pending = s.pending

/-- The machine after reset has its invariant. -/
def Obligations.InvariantAtReset : Prop := State.reset.Inv

/-- Every step keeps the invariant: flash in its canonical form, a status word for each block, at most 64 records waiting
(R537), at most 512 trace entries (R543), at most 32 fuses blown (R554). -/
def Obligations.StepKeepsInvariant : Prop := ∀ s t : State, s.Inv → step s = .next t → t.Inv

/-- A sticky bit once set stays set until reset (R478), and the fatal state lasts until reset (R492): no command but those that
may end in a reset clears either. -/
def Obligations.StickyBitsStay : Prop := ∀ (c : Instr) (s t : State), c.mayReset = false → exec c s = .next t →
  StickyKept s t ∧ (s.dev.fatal = true → t.dev.fatal = true)

/-- The lock-out in both copies of the Dealer (R511, R512): only a valid clear, a release of LOCK_CLR that fails no condition,
clears it; no other command does, a reset, a loss of power and what the ring brings among them. While it is set an open pack stays
open. Beacons are ruled out on a device other than the Dealer only, whose copies follow their LOCK (R511). -/
def Obligations.LockoutHoldsThePackOpen : Prop := ∀ (c : Instr) (s t : State),
  (∀ ms, c = .lockClrRelease ms → s.clearVerdict ms ≠ 0) → (∀ p f x y, c = .beaconReceived p f x y → s.isDealer = true) →
  exec c s = .next t →
  s.keeper.lockout = true → s.nv.lockout = true →
    t.keeper.lockout = true ∧ t.nv.lockout = true ∧ (s.services.pack = .opened → t.services.pack = .opened)

/-- Flash changes by the log, its erases, image blocks, storage watches, STORAGE entry and boots only; the anti-rollback fuses
change by FUSE_BLOW only (R560) and the life-cycle state at a boot only (R562). -/
def Obligations.NonVolatileIsGuarded : Prop := ∀ (c : Instr) (s t : State), exec c s = .next t →
  (c.mayWriteFlash = false → t.flash = s.flash) ∧
  (c ≠ .fuseBlow → t.nv.fuses = s.nv.fuses) ∧
  ((∀ u mv, c ≠ .firmwareStart u mv) → t.nv.lifeCycle = s.nv.lifeCycle)

/-- Flash in its canonical form: what is written reads back, every other byte is as before, and writing, programming and
erasing keep the form (log 2). -/
def Obligations.FlashReadsBack : Prop := ∀ m : List Host.Cell, Memory.wf m = true →
  (∀ x v, Memory.wf (Memory.write m x v) = true ∧
    ∀ y, Memory.read (Memory.write m x v) y = if y = x then v else Memory.read m y) ∧
  (∀ x bs, Memory.wf (Memory.program m x bs) = true ∧ Memory.bytes (Memory.program m x bs) x bs.length = bs) ∧
  ∀ x n, Memory.wf (Memory.erase m x n) = true ∧
    ∀ y, Memory.read (Memory.erase m x n) y = if x ≤ y ∧ y < x + n then 0xFF else Memory.read m y

/-- Control words (R250, Tables 9-5, 9-6): the word of every control symbol reads as that symbol, where CREDIT and IDLE carry
any freed counts, and a word that reads as a symbol is the word of that symbol, so no two words spell one symbol. A fingerprint
gives back every level it was made of (Table 3-12). -/
def Obligations.WordsRoundTrip : Prop :=
  (∀ c : Control, readControl c.toWord = some c) ∧
  (∀ (w : Word) (c : Control), readControl w = some c → c.toWord = w) ∧
  ∀ (ks : List Nat) (i : Nat), ks.length = 13 → (∀ k ∈ ks, k ≤ 31) → i < 13 → printLevel (fingerWords ks) i = ks.getD i 0

/-- Words the manual writes out: IDLE and MARKER (chapter 09, section 3), the check value of CRC-24 (R246) and of CRC-16 (R461), the example
fingerprint (chapter 03, section 6), the example slot word (chapter 07), word 0 of the example TRUMP (chapter 17) and the status
word of the example of chapter 16. -/
def Obligations.WordsOfTheManual : Prop :=
  (Control.idle 0 0).toWord = 0x12C1F ∧ Control.marker.toWord = 0x16AAA ∧
  crc24 ((bytesBE 9 0x313233343536373839).flatMap bitsOf) = 0x21CF02 ∧
  fingerWords [10, 11, 10, 9, 5, 16, 21, 17, 4, 17, 18, 12, 21] = [0x14B52, 0x12C2B, 0x04919, 0x0CAAB] ∧
  crc16 (bytesBE 9 0x313233343536373839) = 0x29B1 ∧
  slotGood 3 false 0x319000D6 = true ∧ slotTemp 0x319000D6 = 0x06400 ∧
  (trumpWords 1 9 0 0 0 0).getD 0 0 = 0x01480 ∧ statusWord .out 0x4041 = 0x24041
end

