-- ==== Sys2Proof/Laws/Keeps.lean ====
section
/-!
SUPPORT. Frames: for every shared operation the groups of the state it can change, as one rewriting
of `Keeps` each.
-/
namespace Sys2Proof.Machine

/-- Every group of `a` is in `b`. -/
def covers (a b : List Group) : Bool := a.all b.contains

theorem Keeps.refl (G : List Group) (s : State) : Keeps G s s := by
  intro g _; cases g <;> rfl

theorem Group.same_trans {g : Group} {s t u : State} (h : g.same s t) (k : g.same t u) : g.same s u := by
  cases g <;> exact k.trans h

theorem Group.same_symm {g : Group} {s t : State} (h : g.same s t) : g.same t s := by
  cases g <;> exact h.symm

theorem Keeps.trans {G : List Group} {s t u : State} (h : Keeps G s t) (k : Keeps G t u) : Keeps G s u :=
  fun g hg => Group.same_trans (h g hg) (k g hg)

theorem Keeps.mono {F G : List Group} {s t : State} (h : Keeps F s t) (c : covers F G = true) : Keeps G s t := by
  intro g hg
  refine h g fun hf => hg ?_
  simpa using List.all_eq_true.mp c g hf

theorem keeps_iff {F G : List Group} {s u v : State} (h : Keeps F u v) (c : covers F G = true) :
    Keeps G s v ↔ Keeps G s u :=
  ⟨fun k g hg => Group.same_trans (k g hg) (Group.same_symm (h.mono c g hg)), fun k => k.trans (h.mono c)⟩

theorem keeps_ite {G : List Group} {s u v : State} {p : Prop} [Decidable p] (h : Keeps G s u) (k : Keeps G s v) :
    Keeps G s (if p then u else v) := by split <;> assumption

theorem keeps_foldl {α : Type} {G : List Group} {s u : State} {f : State → α → State} (l : List α)
    (hf : ∀ t x, Keeps G t (f t x)) (h : Keeps G s u) : Keeps G s (l.foldl f u) := by
  induction l generalizing u with
  | nil => exact h
  | cons x l ih => exact ih (h.trans (hf u x))

theorem covers_trans {F G H : List Group} (h : covers F G = true) (k : covers G H = true) : covers F H = true := by
  simp only [covers, List.all_eq_true, List.contains_iff_mem] at *
  exact fun x hx => k x (h x hx)

/-- Proves that `u.updX` keeps what it does not name. -/
theorem keeps_flash {G : List Group} {s u : State} (c : covers [.flash] G = true) (m : List Host.Cell) :
    Keeps G s { u with flash := m } ↔ Keeps G s u :=
  keeps_iff (F := [.flash]) (by intro g hg; cases g <;> first | rfl | simp at hg) c

theorem keeps_match_prod {α : Type} {G : List Group} {s : State} {p : α × State} {f : α → State → State}
    (h : Keeps G s (f p.1 p.2)) : Keeps G s (match p with | (a, t) => f a t) := h

/-- A source that is not of class F. -/
def calm (b : Block) (i : Nat) : Bool := !(maskF b).getLsbD i

/-- A block none of whose sources is of class F. -/
def calmBlock (b : Block) : Bool := maskF b == 0

theorem calm_of_block {b : Block} {i : Nat} (h : calmBlock b = true) : calm b i = true := by
  have h : maskF b = 0 := by simpa [calmBlock] using h
  simp [calm, h]

theorem calm_portBlock (p : Port) (i : Nat) : calm (portBlock p) i = true := by
  cases p <;> exact calm_of_block (by decide)

theorem classOf_calm {b : Block} {i : Nat} (h : calm b i = true) : classOf b i ≠ .f := by
  have h : (maskF b).getLsbD i = false := by simpa [calm] using h
  unfold classOf
  rw [h]
  split
  · simp_all
  · split <;> decide

set_option linter.unusedSimpArgs false
set_option linter.unusedVariables false

variable {G : List Group} {s u : State}

/-! ### Ops -/

theorem State.updDev_keeps (c : covers [.dev] G = true) (x1) :
    Keeps G s (u.updDev x1) ↔ Keeps G s u :=
  keeps_iff (F := [.dev]) (by intro g hg; cases g <;> first | rfl | simp at hg) c

theorem State.updKeeper_keeps (c : covers [.keeper] G = true) (x1) :
    Keeps G s (u.updKeeper x1) ↔ Keeps G s u :=
  keeps_iff (F := [.keeper]) (by intro g hg; cases g <;> first | rfl | simp at hg) c

theorem State.updNv_keeps (c : covers [.nv] G = true) (x1) :
    Keeps G s (u.updNv x1) ↔ Keeps G s u :=
  keeps_iff (F := [.nv]) (by intro g hg; cases g <;> first | rfl | simp at hg) c

theorem State.updStraps_keeps (c : covers [.straps] G = true) (x1) :
    Keeps G s (u.updStraps x1) ↔ Keeps G s u :=
  keeps_iff (F := [.straps]) (by intro g hg; cases g <;> first | rfl | simp at hg) c

theorem State.updMeas_keeps (c : covers [.meas] G = true) (x1) :
    Keeps G s (u.updMeas x1) ↔ Keeps G s u :=
  keeps_iff (F := [.meas]) (by intro g hg; cases g <;> first | rfl | simp at hg) c

theorem State.updProbes_keeps (c : covers [.probes] G = true) (x1) :
    Keeps G s (u.updProbes x1) ↔ Keeps G s u :=
  keeps_iff (F := [.probes]) (by intro g hg; cases g <;> first | rfl | simp at hg) c

theorem State.updClocks_keeps (c : covers [.clocks] G = true) (x1) :
    Keeps G s (u.updClocks x1) ↔ Keeps G s u :=
  keeps_iff (F := [.clocks]) (by intro g hg; cases g <;> first | rfl | simp at hg) c

theorem State.updRing_keeps (c : covers [.ring] G = true) (x1) :
    Keeps G s (u.updRing x1) ↔ Keeps G s u :=
  keeps_iff (F := [.ring]) (by intro g hg; cases g <;> first | rfl | simp at hg) c

theorem State.updDealer_keeps (c : covers [.dealer] G = true) (x1) :
    Keeps G s (u.updDealer x1) ↔ Keeps G s u :=
  keeps_iff (F := [.dealer]) (by intro g hg; cases g <;> first | rfl | simp at hg) c

theorem State.updServices_keeps (c : covers [.services] G = true) (x1) :
    Keeps G s (u.updServices x1) ↔ Keeps G s u :=
  keeps_iff (F := [.services]) (by intro g hg; cases g <;> first | rfl | simp at hg) c

theorem State.updBalance_keeps (c : covers [.balance] G = true) (x1) :
    Keeps G s (u.updBalance x1) ↔ Keeps G s u :=
  keeps_iff (F := [.balance]) (by intro g hg; cases g <;> first | rfl | simp at hg) c

theorem State.updOutputs_keeps (c : covers [.outputs] G = true) (x1) :
    Keeps G s (u.updOutputs x1) ↔ Keeps G s u :=
  keeps_iff (F := [.outputs]) (by intro g hg; cases g <;> first | rfl | simp at hg) c

theorem State.updFan_keeps (c : covers [.fan] G = true) (x1) :
    Keeps G s (u.updFan x1) ↔ Keeps G s u :=
  keeps_iff (F := [.fan]) (by intro g hg; cases g <;> first | rfl | simp at hg) c

theorem State.updSupply_keeps (c : covers [.supply] G = true) (x1) :
    Keeps G s (u.updSupply x1) ↔ Keeps G s u :=
  keeps_iff (F := [.supply]) (by intro g hg; cases g <;> first | rfl | simp at hg) c

theorem State.updLife_keeps (c : covers [.life] G = true) (x1) :
    Keeps G s (u.updLife x1) ↔ Keeps G s u :=
  keeps_iff (F := [.life]) (by intro g hg; cases g <;> first | rfl | simp at hg) c

theorem State.updSafety_keeps (c : covers [.safety] G = true) (x1) :
    Keeps G s (u.updSafety x1) ↔ Keeps G s u :=
  keeps_iff (F := [.safety]) (by intro g hg; cases g <;> first | rfl | simp at hg) c

theorem State.updVehicle_keeps (c : covers [.vehicle] G = true) (x1) :
    Keeps G s (u.updVehicle x1) ↔ Keeps G s u :=
  keeps_iff (F := [.vehicle]) (by intro g hg; cases g <;> first | rfl | simp at hg) c

theorem State.updPins_keeps (c : covers [.pins] G = true) (x1) :
    Keeps G s (u.updPins x1) ↔ Keeps G s u :=
  keeps_iff (F := [.pins]) (by intro g hg; cases g <;> first | rfl | simp at hg) c

theorem State.updLogs_keeps (c : covers [.logs] G = true) (x1) :
    Keeps G s (u.updLogs x1) ↔ Keeps G s u :=
  keeps_iff (F := [.logs]) (by intro g hg; cases g <;> first | rfl | simp at hg) c

theorem State.updService_keeps (c : covers [.service] G = true) (x1) :
    Keeps G s (u.updService x1) ↔ Keeps G s u :=
  keeps_iff (F := [.service]) (by intro g hg; cases g <;> first | rfl | simp at hg) c

theorem State.updBist_keeps (c : covers [.bist] G = true) (x1) :
    Keeps G s (u.updBist x1) ↔ Keeps G s u :=
  keeps_iff (F := [.bist]) (by intro g hg; cases g <;> first | rfl | simp at hg) c

theorem State.updPort_keeps (c : covers [.portN, .portS] G = true) (x1 x2) :
    Keeps G s (u.updPort x1 x2) ↔ Keeps G s u :=
  by cases x1 <;> exact keeps_iff (F := [.portN, .portS]) (by intro g hg; cases g <;> first | rfl | simp at hg) c

theorem State.updBlock_keeps (c : covers [.faults] G = true) (x1 x2) :
    Keeps G s (u.updBlock x1 x2) ↔ Keeps G s u :=
  keeps_iff (F := [.faults]) (by intro g hg; cases g <;> first | rfl | simp at hg) c

theorem State.pushLog_keeps (c : covers [.logs] G = true) (x1 x2) :
    Keeps G s (u.pushLog x1 x2) ↔ Keeps G s u := by
  refine keeps_iff (F := [.logs]) ?_ c
  unfold State.pushLog
  repeat' (first | with_reducible exact Keeps.refl _ _ | with_reducible assumption | simp (disch := first | decide | exact calm_of_block (by decide) | exact calm_portBlock _ _) only [State.updLogs_keeps, keeps_flash] | with_reducible apply keeps_ite | (with_reducible refine keeps_foldl _ ?_ ?_; (first | (rintro t ⟨_, _⟩) | intro t _)) | split)

theorem State.log_keeps (c : covers [.logs] G = true) (x1 x2) :
    Keeps G s (u.log x1 x2) ↔ Keeps G s u := by
  refine keeps_iff (F := [.logs]) ?_ c
  unfold State.log
  repeat' (first | with_reducible exact Keeps.refl _ _ | with_reducible assumption | simp (disch := first | decide | exact calm_of_block (by decide) | exact calm_portBlock _ _) only [State.pushLog_keeps, keeps_flash] | with_reducible apply keeps_ite | (with_reducible refine keeps_foldl _ ?_ ?_; (first | (rintro t ⟨_, _⟩) | intro t _)) | split)

theorem State.trace_keeps (c : covers [.logs] G = true) (x1 x2) :
    Keeps G s (u.trace x1 x2) ↔ Keeps G s u := by
  refine keeps_iff (F := [.logs]) ?_ c
  unfold State.trace
  repeat' (first | with_reducible exact Keeps.refl _ _ | with_reducible assumption | simp (disch := first | decide | exact calm_of_block (by decide) | exact calm_portBlock _ _) only [State.updLogs_keeps, keeps_flash] | with_reducible apply keeps_ite | (with_reducible refine keeps_foldl _ ?_ ?_; (first | (rintro t ⟨_, _⟩) | intro t _)) | split)

theorem State.queue_keeps (c : covers [.portN, .portS] G = true) (x1 x2) :
    Keeps G s (u.queue x1 x2) ↔ Keeps G s u := by
  refine keeps_iff (F := [.portN, .portS]) ?_ c
  unfold State.queue
  repeat' (first | with_reducible exact Keeps.refl _ _ | with_reducible assumption | simp (disch := first | decide | exact calm_of_block (by decide) | exact calm_portBlock _ _) only [State.updPort_keeps, keeps_flash] | with_reducible apply keeps_ite | (with_reducible refine keeps_foldl _ ?_ ?_; (first | (rintro t ⟨_, _⟩) | intro t _)) | split)

theorem State.send_keeps (c : covers [.portN, .portS] G = true) (x1 x2 x3) :
    Keeps G s (u.send x1 x2 x3) ↔ Keeps G s u := by
  refine keeps_iff (F := [.portN, .portS]) ?_ c
  unfold State.send
  repeat' (first | with_reducible exact Keeps.refl _ _ | with_reducible assumption | simp (disch := first | decide | exact calm_of_block (by decide) | exact calm_portBlock _ _) only [State.queue_keeps, keeps_flash] | with_reducible apply keeps_ite | (with_reducible refine keeps_foldl _ ?_ ?_; (first | (rintro t ⟨_, _⟩) | intro t _)) | split)

theorem State.sendTrumpWords_keeps (c : covers [.logs, .portN, .portS] G = true) (x1) :
    Keeps G s (u.sendTrumpWords x1) ↔ Keeps G s u := by
  refine keeps_iff (F := [.logs, .portN, .portS]) ?_ c
  unfold State.sendTrumpWords
  repeat' (first | with_reducible exact Keeps.refl _ _ | with_reducible assumption | simp (disch := first | decide | exact calm_of_block (by decide) | exact calm_portBlock _ _) only [State.trace_keeps, State.send_keeps, keeps_flash] | with_reducible apply keeps_ite | (with_reducible refine keeps_foldl _ ?_ ?_; (first | (rintro t ⟨_, _⟩) | intro t _)) | split)

theorem State.settle_keeps (c : covers [.outputs, .meas] G = true) :
    Keeps G s (u.settle) ↔ Keeps G s u := by
  refine keeps_iff (F := [.outputs, .meas]) ?_ c
  unfold State.settle
  repeat' (first | with_reducible exact Keeps.refl _ _ | with_reducible assumption | simp (disch := first | decide | exact calm_of_block (by decide) | exact calm_portBlock _ _) only [State.updOutputs_keeps, State.updMeas_keeps, keeps_flash] | with_reducible apply keeps_ite | (with_reducible refine keeps_foldl _ ?_ ?_; (first | (rintro t ⟨_, _⟩) | intro t _)) | split)

theorem State.updChan_keeps (c : covers [.outputs, .meas] G = true) (x1 x2) :
    Keeps G s (u.updChan x1 x2) ↔ Keeps G s u := by
  refine keeps_iff (F := [.outputs, .meas]) ?_ c
  unfold State.updChan
  repeat' (first | with_reducible exact Keeps.refl _ _ | with_reducible assumption | simp (disch := first | decide | exact calm_of_block (by decide) | exact calm_portBlock _ _) only [State.settle_keeps, State.updOutputs_keeps, keeps_flash] | with_reducible apply keeps_ite | (with_reducible refine keeps_foldl _ ?_ ?_; (first | (rintro t ⟨_, _⟩) | intro t _)) | split)

theorem State.traceOut_keeps (c : covers [.logs] G = true) (x1 x2 x3) :
    Keeps G s (u.traceOut x1 x2 x3) ↔ Keeps G s u := by
  refine keeps_iff (F := [.logs]) ?_ c
  unfold State.traceOut
  repeat' (first | with_reducible exact Keeps.refl _ _ | with_reducible assumption | simp (disch := first | decide | exact calm_of_block (by decide) | exact calm_portBlock _ _) only [State.trace_keeps, keeps_flash] | with_reducible apply keeps_ite | (with_reducible refine keeps_foldl _ ?_ ?_; (first | (rintro t ⟨_, _⟩) | intro t _)) | split)

theorem State.commandOff_keeps (c : covers [.logs, .outputs, .meas] G = true) (x1 x2) :
    Keeps G s (u.commandOff x1 x2) ↔ Keeps G s u := by
  refine keeps_iff (F := [.logs, .outputs, .meas]) ?_ c
  unfold State.commandOff
  repeat' (first | with_reducible exact Keeps.refl _ _ | with_reducible assumption | simp (disch := first | decide | exact calm_of_block (by decide) | exact calm_portBlock _ _) only [State.traceOut_keeps, State.updChan_keeps, keeps_flash] | with_reducible apply keeps_ite | (with_reducible refine keeps_foldl _ ?_ ?_; (first | (rintro t ⟨_, _⟩) | intro t _)) | split)

theorem State.ruleOff_keeps (c : covers [.logs, .outputs, .meas] G = true) (x1 x2 x3) :
    Keeps G s (u.ruleOff x1 x2 x3) ↔ Keeps G s u := by
  refine keeps_iff (F := [.logs, .outputs, .meas]) ?_ c
  unfold State.ruleOff
  repeat' (first | with_reducible exact Keeps.refl _ _ | with_reducible assumption | simp (disch := first | decide | exact calm_of_block (by decide) | exact calm_portBlock _ _) only [State.traceOut_keeps, State.updChan_keeps, keeps_flash] | with_reducible apply keeps_ite | (with_reducible refine keeps_foldl _ ?_ ?_; (first | (rintro t ⟨_, _⟩) | intro t _)) | split)

theorem State.gateOn_keeps (c : covers [.logs, .outputs, .meas] G = true) (x1 x2) :
    Keeps G s (u.gateOn x1 x2) ↔ Keeps G s u := by
  refine keeps_iff (F := [.logs, .outputs, .meas]) ?_ c
  unfold State.gateOn
  repeat' (first | with_reducible exact Keeps.refl _ _ | with_reducible assumption | simp (disch := first | decide | exact calm_of_block (by decide) | exact calm_portBlock _ _) only [State.updChan_keeps, State.traceOut_keeps, keeps_flash] | with_reducible apply keeps_ite | (with_reducible refine keeps_foldl _ ?_ ?_; (first | (rintro t ⟨_, _⟩) | intro t _)) | split)

theorem State.commandOn_keeps (c : covers [.outputs, .meas, .logs] G = true) (x1) :
    Keeps G s (u.commandOn x1) ↔ Keeps G s u := by
  refine keeps_iff (F := [.outputs, .meas, .logs]) ?_ c
  unfold State.commandOn
  repeat' (first | with_reducible exact Keeps.refl _ _ | with_reducible assumption | simp (disch := first | decide | exact calm_of_block (by decide) | exact calm_portBlock _ _) only [State.updChan_keeps, State.gateOn_keeps, keeps_flash] | with_reducible apply keeps_ite | (with_reducible refine keeps_foldl _ ?_ ?_; (first | (rintro t ⟨_, _⟩) | intro t _)) | split)

theorem State.coilsOff_keeps (c : covers [.logs, .outputs, .meas] G = true) (x1) :
    Keeps G s (u.coilsOff x1) ↔ Keeps G s u := by
  refine keeps_iff (F := [.logs, .outputs, .meas]) ?_ c
  unfold State.coilsOff
  repeat' (first | with_reducible exact Keeps.refl _ _ | with_reducible assumption | simp (disch := first | decide | exact calm_of_block (by decide) | exact calm_portBlock _ _) only [State.commandOff_keeps, keeps_flash] | with_reducible apply keeps_ite | (with_reducible refine keeps_foldl _ ?_ ?_; (first | (rintro t ⟨_, _⟩) | intro t _)) | split)

theorem State.traceSticky_keeps (c : covers [.logs] G = true) (x1 x2 x3) :
    Keeps G s (u.traceSticky x1 x2 x3) ↔ Keeps G s u := by
  refine keeps_iff (F := [.logs]) ?_ c
  unfold State.traceSticky
  repeat' (first | with_reducible exact Keeps.refl _ _ | with_reducible assumption | simp (disch := first | decide | exact calm_of_block (by decide) | exact calm_portBlock _ _) only [State.trace_keeps, keeps_flash] | with_reducible apply keeps_ite | (with_reducible refine keeps_foldl _ ?_ ?_; (first | (rintro t ⟨_, _⟩) | intro t _)) | split)

theorem State.raiseBits_keeps (c : covers [.faults, .logs] G = true) (x1 x2 x3) :
    Keeps G s (u.raiseBits x1 x2 x3) ↔ Keeps G s u := by
  refine keeps_iff (F := [.faults, .logs]) ?_ c
  unfold State.raiseBits
  repeat' (first | with_reducible exact Keeps.refl _ _ | with_reducible assumption | simp (disch := first | decide | exact calm_of_block (by decide) | exact calm_portBlock _ _) only [State.traceSticky_keeps, State.updBlock_keeps, keeps_flash] | with_reducible apply keeps_ite | (with_reducible refine keeps_foldl _ ?_ ?_; (first | (rintro t ⟨_, _⟩) | intro t _)) | split)

theorem State.faultPin_keeps (c : covers [.pins] G = true) (x1) :
    Keeps G s (u.faultPin x1) ↔ Keeps G s u := by
  refine keeps_iff (F := [.pins]) ?_ c
  unfold State.faultPin
  repeat' (first | with_reducible exact Keeps.refl _ _ | with_reducible assumption | simp (disch := first | decide | exact calm_of_block (by decide) | exact calm_portBlock _ _) only [State.updPins_keeps, keeps_flash] | with_reducible apply keeps_ite | (with_reducible refine keeps_foldl _ ?_ ?_; (first | (rintro t ⟨_, _⟩) | intro t _)) | split)

theorem State.endReaction_keeps (c : covers [.logs, .faults] G = true) (x1) :
    Keeps G s (u.endReaction x1) ↔ Keeps G s u := by
  refine keeps_iff (F := [.logs, .faults]) ?_ c
  unfold State.endReaction
  repeat' (first | with_reducible exact Keeps.refl _ _ | with_reducible assumption | simp (disch := first | decide | exact calm_of_block (by decide) | exact calm_portBlock _ _) only [State.log_keeps, State.updBlock_keeps, keeps_flash] | with_reducible apply keeps_ite | (with_reducible refine keeps_foldl _ ?_ ?_; (first | (rintro t ⟨_, _⟩) | intro t _)) | split)

theorem State.logLockout_keeps (c : covers [.logs] G = true) (x1 x2 x3) :
    Keeps G s (u.logLockout x1 x2 x3) ↔ Keeps G s u := by
  refine keeps_iff (F := [.logs]) ?_ c
  unfold State.logLockout
  repeat' (first | with_reducible exact Keeps.refl _ _ | with_reducible assumption | simp (disch := first | decide | exact calm_of_block (by decide) | exact calm_portBlock _ _) only [State.log_keeps, keeps_flash] | with_reducible apply keeps_ite | (with_reducible refine keeps_foldl _ ?_ ?_; (first | (rintro t ⟨_, _⟩) | intro t _)) | split)

theorem State.lockPin_keeps (c : covers [.pins] G = true) :
    Keeps G s (u.lockPin) ↔ Keeps G s u := by
  refine keeps_iff (F := [.pins]) ?_ c
  unfold State.lockPin
  repeat' (first | with_reducible exact Keeps.refl _ _ | with_reducible assumption | simp (disch := first | decide | exact calm_of_block (by decide) | exact calm_portBlock _ _) only [State.updPins_keeps, keeps_flash] | with_reducible apply keeps_ite | (with_reducible refine keeps_foldl _ ?_ ?_; (first | (rintro t ⟨_, _⟩) | intro t _)) | split)

theorem State.setLockout_keeps (c : covers [.logs, .keeper, .nv, .pins] G = true) (x1) :
    Keeps G s (u.setLockout x1) ↔ Keeps G s u := by
  refine keeps_iff (F := [.logs, .keeper, .nv, .pins]) ?_ c
  unfold State.setLockout
  repeat' (first | with_reducible exact Keeps.refl _ _ | with_reducible assumption | simp (disch := first | decide | exact calm_of_block (by decide) | exact calm_portBlock _ _) only [State.logLockout_keeps, State.lockPin_keeps, State.updNv_keeps, State.updKeeper_keeps, keeps_flash] | with_reducible apply keeps_ite | (with_reducible refine keeps_foldl _ ?_ ?_; (first | (rintro t ⟨_, _⟩) | intro t _)) | split)

theorem State.setPack_keeps (c : covers [.logs, .services] G = true) (x1) :
    Keeps G s (u.setPack x1) ↔ Keeps G s u := by
  refine keeps_iff (F := [.logs, .services]) ?_ c
  unfold State.setPack
  repeat' (first | with_reducible exact Keeps.refl _ _ | with_reducible assumption | simp (disch := first | decide | exact calm_of_block (by decide) | exact calm_portBlock _ _) only [State.trace_keeps, State.updServices_keeps, keeps_flash] | with_reducible apply keeps_ite | (with_reducible refine keeps_foldl _ ?_ ?_; (first | (rintro t ⟨_, _⟩) | intro t _)) | split)

theorem State.stringsOpen_keeps (c : covers [.services] G = true) :
    Keeps G s (u.stringsOpen) ↔ Keeps G s u := by
  refine keeps_iff (F := [.services]) ?_ c
  unfold State.stringsOpen
  repeat' (first | with_reducible exact Keeps.refl _ _ | with_reducible assumption | simp (disch := first | decide | exact calm_of_block (by decide) | exact calm_portBlock _ _) only [State.updServices_keeps, keeps_flash] | with_reducible apply keeps_ite | (with_reducible refine keeps_foldl _ ?_ ?_; (first | (rintro t ⟨_, _⟩) | intro t _)) | split)

theorem State.openPack_keeps (c : covers [.logs, .outputs, .meas, .services, .pins] G = true) (x1) :
    Keeps G s (u.openPack x1) ↔ Keeps G s u := by
  refine keeps_iff (F := [.logs, .outputs, .meas, .services, .pins]) ?_ c
  unfold State.openPack
  repeat' (first | with_reducible exact Keeps.refl _ _ | with_reducible assumption | simp (disch := first | decide | exact calm_of_block (by decide) | exact calm_portBlock _ _) only [State.updServices_keeps, State.updPins_keeps, State.stringsOpen_keeps, State.setPack_keeps, State.coilsOff_keeps, keeps_flash] | with_reducible apply keeps_ite | (with_reducible refine keeps_foldl _ ?_ ?_; (first | (rintro t ⟨_, _⟩) | intro t _)) | split)

theorem State.trip_keeps (c : covers [.logs, .outputs, .meas, .services, .pins, .keeper, .nv] G = true) (x1) :
    Keeps G s (u.trip x1) ↔ Keeps G s u := by
  refine keeps_iff (F := [.logs, .outputs, .meas, .services, .pins, .keeper, .nv]) ?_ c
  unfold State.trip
  repeat' (first | with_reducible exact Keeps.refl _ _ | with_reducible assumption | simp (disch := first | decide | exact calm_of_block (by decide) | exact calm_portBlock _ _) only [State.openPack_keeps, State.setLockout_keeps, keeps_flash] | with_reducible apply keeps_ite | (with_reducible refine keeps_foldl _ ?_ ?_; (first | (rintro t ⟨_, _⟩) | intro t _)) | split)

theorem State.headOpens_keeps (c : covers [.logs, .outputs, .meas, .safety] G = true) :
    Keeps G s (u.headOpens) ↔ Keeps G s u := by
  refine keeps_iff (F := [.logs, .outputs, .meas, .safety]) ?_ c
  unfold State.headOpens
  repeat' (first | with_reducible exact Keeps.refl _ _ | with_reducible assumption | simp (disch := first | decide | exact calm_of_block (by decide) | exact calm_portBlock _ _) only [State.updSafety_keeps, State.coilsOff_keeps, keeps_flash] | with_reducible apply keeps_ite | (with_reducible refine keeps_foldl _ ?_ ?_; (first | (rintro t ⟨_, _⟩) | intro t _)) | split)

theorem State.fatalOutputs_keeps (c : covers [.outputs, .meas, .balance, .fan, .pins] G = true) :
    Keeps G s (u.fatalOutputs) ↔ Keeps G s u := by
  refine keeps_iff (F := [.outputs, .meas, .balance, .fan, .pins]) ?_ c
  unfold State.fatalOutputs
  repeat' (first | with_reducible exact Keeps.refl _ _ | with_reducible assumption | simp (disch := first | decide | exact calm_of_block (by decide) | exact calm_portBlock _ _) only [State.updOutputs_keeps, State.settle_keeps, State.updBalance_keeps, State.updFan_keeps, State.updPins_keeps, keeps_flash] | with_reducible apply keeps_ite | (with_reducible refine keeps_foldl _ ?_ ?_; (first | (rintro t ⟨_, _⟩) | intro t _)) | split)

theorem State.fatalDealer_keeps (c : covers [.logs, .services, .keeper, .vehicle, .pins] G = true) :
    Keeps G s (u.fatalDealer) ↔ Keeps G s u := by
  refine keeps_iff (F := [.logs, .services, .keeper, .vehicle, .pins]) ?_ c
  unfold State.fatalDealer
  repeat' (first | with_reducible exact Keeps.refl _ _ | with_reducible assumption | simp (disch := first | decide | exact calm_of_block (by decide) | exact calm_portBlock _ _) only [State.stringsOpen_keeps, State.setPack_keeps, State.updKeeper_keeps, State.updVehicle_keeps, State.updPins_keeps, keeps_flash] | with_reducible apply keeps_ite | (with_reducible refine keeps_foldl _ ?_ ?_; (first | (rintro t ⟨_, _⟩) | intro t _)) | split)

theorem State.enterFatal_keeps (c : covers [.logs, .dev, .outputs, .meas, .balance, .fan, .pins, .portN, .portS, .services, .keeper, .vehicle, .ring] G = true) (x1 x2) :
    Keeps G s (u.enterFatal x1 x2) ↔ Keeps G s u := by
  refine keeps_iff (F := [.logs, .dev, .outputs, .meas, .balance, .fan, .pins, .portN, .portS, .services, .keeper, .vehicle, .ring]) ?_ c
  unfold State.enterFatal
  repeat' (first | with_reducible exact Keeps.refl _ _ | with_reducible assumption | simp (disch := first | decide | exact calm_of_block (by decide) | exact calm_portBlock _ _) only [State.logLockout_keeps, State.log_keeps, State.updDev_keeps, State.fatalOutputs_keeps, State.updPort_keeps, State.fatalDealer_keeps, State.updRing_keeps, State.sendTrumpWords_keeps, keeps_flash] | with_reducible apply keeps_ite | (with_reducible refine keeps_foldl _ ?_ ?_; (first | (rintro t ⟨_, _⟩) | intro t _)) | split)

theorem State.raiseAlso_keeps (c : covers [.faults, .logs, .pins, .dev, .outputs, .meas, .balance, .fan, .portN, .portS,
    .services, .keeper, .vehicle, .ring] G = true) (b i l) : Keeps G s (u.raiseAlso b i l) ↔ Keeps G s u := by
  refine keeps_iff (F := [.faults, .logs, .pins, .dev, .outputs, .meas, .balance, .fan, .portN, .portS,
    .services, .keeper, .vehicle, .ring]) ?_ c
  unfold State.raiseAlso
  dsimp only
  split <;> simp (disch := decide) only [State.enterFatal_keeps, State.faultPin_keeps, State.raiseBits_keeps, Keeps.refl]

theorem State.raiseAlso_keeps_calm {b : Block} {i : Nat} (h : calm b i = true) (c : covers [.faults, .logs, .pins] G = true) (l) :
    Keeps G s (u.raiseAlso b i l) ↔ Keeps G s u := by
  refine keeps_iff (F := [.faults, .logs, .pins]) ?_ c
  unfold State.raiseAlso
  dsimp only
  rw [if_neg (classOf_calm h)]
  simp (disch := decide) only [State.faultPin_keeps, State.raiseBits_keeps, Keeps.refl]

theorem State.raise_keeps (c : covers [.faults, .logs, .pins, .dev, .outputs, .meas, .balance, .fan, .portN, .portS,
    .services, .keeper, .vehicle, .ring] G = true) (b i) : Keeps G s (u.raise b i) ↔ Keeps G s u :=
  State.raiseAlso_keeps c _ _ _

theorem State.raise_keeps_calm {b : Block} {i : Nat} (h : calm b i = true) (c : covers [.faults, .logs, .pins] G = true) :
    Keeps G s (u.raise b i) ↔ Keeps G s u := State.raiseAlso_keeps_calm h c _

theorem State.raiseIf_keeps (c : covers [.faults, .logs, .pins, .dev, .outputs, .meas, .balance, .fan, .portN, .portS,
    .services, .keeper, .vehicle, .ring] G = true) (x b i) : Keeps G s (u.raiseIf x b i) ↔ Keeps G s u := by
  unfold State.raiseIf
  split
  · exact State.raise_keeps c _ _
  · exact Iff.rfl

theorem State.raiseIf_keeps_calm {b : Block} {i : Nat} (h : calm b i = true) (c : covers [.faults, .logs, .pins] G = true) (x) :
    Keeps G s (u.raiseIf x b i) ↔ Keeps G s u := by
  unfold State.raiseIf
  split
  · exact State.raise_keeps_calm h c
  · exact Iff.rfl

theorem State.fenceChan_keeps (c : covers [.logs, .outputs, .meas, .faults, .pins] G = true) (x1 x2) :
    Keeps G s (u.fenceChan x1 x2) ↔ Keeps G s u := by
  refine keeps_iff (F := [.logs, .outputs, .meas, .faults, .pins]) ?_ c
  unfold State.fenceChan
  repeat' (first | with_reducible exact Keeps.refl _ _ | with_reducible assumption | simp (disch := first | decide | exact calm_of_block (by decide) | exact calm_portBlock _ _) only [State.ruleOff_keeps, State.raiseAlso_keeps, State.raiseAlso_keeps_calm, State.updChan_keeps, keeps_flash] | with_reducible apply keeps_ite | (with_reducible refine keeps_foldl _ ?_ ?_; (first | (rintro t ⟨_, _⟩) | intro t _)) | split)

theorem State.bistFalls_keeps (c : covers [.pins] G = true) :
    Keeps G s (u.bistFalls) ↔ Keeps G s u := by
  refine keeps_iff (F := [.pins]) ?_ c
  unfold State.bistFalls
  repeat' (first | with_reducible exact Keeps.refl _ _ | with_reducible assumption | simp (disch := first | decide | exact calm_of_block (by decide) | exact calm_portBlock _ _) only [State.updPins_keeps, keeps_flash] | with_reducible apply keeps_ite | (with_reducible refine keeps_foldl _ ?_ ?_; (first | (rintro t ⟨_, _⟩) | intro t _)) | split)

theorem State.drawWord_keeps (c : covers [.dev] G = true) : Keeps G s u.drawWord.2 ↔ Keeps G s u :=
  State.updDev_keeps c _

theorem State.resetDomains_keeps (c : covers [.dev, .keeper, .straps, .meas, .probes, .clocks, .portN, .portS, .ring, .dealer, .services, .balance, .outputs, .fan, .supply, .safety, .vehicle, .pins, .logs, .service, .bist, .faults] G = true) (x y) :
    Keeps G s (u.resetDomains x y) ↔ Keeps G s u :=
  keeps_iff (F := [.dev, .keeper, .straps, .meas, .probes, .clocks, .portN, .portS, .ring, .dealer, .services, .balance, .outputs, .fan, .supply, .safety, .vehicle, .pins, .logs, .service, .bist, .faults]) (by intro g hg; cases g <;> first | rfl | simp at hg) c

/-! ### Link -/

theorem State.freeSlot_keeps (c : covers [.portN, .portS] G = true) (x1) :
    Keeps G s (u.freeSlot x1) ↔ Keeps G s u := by
  refine keeps_iff (F := [.portN, .portS]) ?_ c
  unfold State.freeSlot
  repeat' (first | with_reducible exact Keeps.refl _ _ | with_reducible assumption | simp (disch := first | decide | exact calm_of_block (by decide) | exact calm_portBlock _ _) only [State.updPort_keeps, keeps_flash] | with_reducible apply keeps_ite | (with_reducible refine keeps_foldl _ ?_ ?_; (first | (rintro t ⟨_, _⟩) | intro t _)) | split)

theorem State.freeSlots_keeps (c : covers [.portN, .portS] G = true) (x1) :
    Keeps G s (u.freeSlots x1) ↔ Keeps G s u := by
  refine keeps_iff (F := [.portN, .portS]) ?_ c
  unfold State.freeSlots
  repeat' (first | with_reducible exact Keeps.refl _ _ | with_reducible assumption | simp (disch := first | decide | exact calm_of_block (by decide) | exact calm_portBlock _ _) only [State.freeSlot_keeps, keeps_flash] | with_reducible apply keeps_ite | (with_reducible refine keeps_foldl _ ?_ ?_; (first | (rintro t ⟨_, _⟩) | intro t _)) | split)

theorem startHead_keeps (c : covers [.portN, .portS] G = true) {p f d v} (h : startHead u p f d = some v) :
    Keeps G s v ↔ Keeps G s u := by
  unfold startHead at h
  dsimp only at h
  split at h
  · cases h
  · split at h
    · cases h
      exact (State.freeSlot_keeps c _).trans (State.updPort_keeps c _ _)
    · cases h

theorem atBoundary_keeps (c : covers [.portN, .portS] G = true) {p v} (h : atBoundary u p = some v) :
    Keeps G s v ↔ Keeps G s u := by
  unfold atBoundary at h
  dsimp only at h
  simp only [Option.or_eq_some_iff, Option.bind_eq_some_iff, Option.map_eq_some_iff] at h
  obtain ⟨_, _, h⟩ | ⟨-, ⟨_, _, _, _, h⟩ | ⟨-, ⟨_, _, h⟩ | ⟨-, _, _, h⟩⟩⟩ := h
  · exact startHead_keeps c h
  · exact h ▸ State.updPort_keeps c _ _
  · exact startHead_keeps c h
  · exact startHead_keeps c h

theorem State.sendBeacon_keeps (c : covers [.portN, .portS] G = true) (x1 x2) :
    Keeps G s (u.sendBeacon x1 x2) ↔ Keeps G s u := by
  refine keeps_iff (F := [.portN, .portS]) ?_ c
  unfold State.sendBeacon
  repeat' (first | with_reducible exact Keeps.refl _ _ | with_reducible assumption | simp (disch := first | decide | exact calm_of_block (by decide) | exact calm_portBlock _ _) only [State.updPort_keeps, keeps_flash] | with_reducible apply keeps_ite | (with_reducible refine keeps_foldl _ ?_ ?_; (first | (rintro t ⟨_, _⟩) | intro t _)) | split)

theorem State.retransmit_keeps (c : covers [.portN, .portS, .faults, .logs, .pins] G = true) (x1 x2) :
    Keeps G s (u.retransmit x1 x2) ↔ Keeps G s u := by
  refine keeps_iff (F := [.portN, .portS, .faults, .logs, .pins]) ?_ c
  unfold State.retransmit
  repeat' (first | with_reducible exact Keeps.refl _ _ | with_reducible assumption | simp (disch := first | decide | exact calm_of_block (by decide) | exact calm_portBlock _ _) only [State.updPort_keeps, State.raise_keeps, State.raise_keeps_calm, keeps_flash] | with_reducible apply keeps_ite | (with_reducible refine keeps_foldl _ ?_ ?_; (first | (rintro t ⟨_, _⟩) | intro t _)) | split)

theorem State.traceLink_keeps (c : covers [.logs] G = true) (x1 x2 x3) :
    Keeps G s (u.traceLink x1 x2 x3) ↔ Keeps G s u := by
  refine keeps_iff (F := [.logs]) ?_ c
  unfold State.traceLink
  repeat' (first | with_reducible exact Keeps.refl _ _ | with_reducible assumption | simp (disch := first | decide | exact calm_of_block (by decide) | exact calm_portBlock _ _) only [State.trace_keeps, keeps_flash] | with_reducible apply keeps_ite | (with_reducible refine keeps_foldl _ ?_ ?_; (first | (rintro t ⟨_, _⟩) | intro t _)) | split)

theorem State.switchPrimary_keeps (c : covers [.faults, .logs, .pins, .ring, .clocks] G = true) (x1) :
    Keeps G s (u.switchPrimary x1) ↔ Keeps G s u := by
  refine keeps_iff (F := [.faults, .logs, .pins, .ring, .clocks]) ?_ c
  unfold State.switchPrimary
  repeat' (first | with_reducible exact Keeps.refl _ _ | with_reducible assumption | simp (disch := first | decide | exact calm_of_block (by decide) | exact calm_portBlock _ _) only [State.raise_keeps, State.raise_keeps_calm, State.trace_keeps, State.updClocks_keeps, State.updRing_keeps, keeps_flash] | with_reducible apply keeps_ite | (with_reducible refine keeps_foldl _ ?_ ?_; (first | (rintro t ⟨_, _⟩) | intro t _)) | split)

theorem State.linkDown_keeps (c : covers [.portN, .portS, .logs, .faults, .pins, .ring, .clocks] G = true) (x1) :
    Keeps G s (u.linkDown x1) ↔ Keeps G s u := by
  refine keeps_iff (F := [.portN, .portS, .logs, .faults, .pins, .ring, .clocks]) ?_ c
  unfold State.linkDown
  repeat' (first | with_reducible exact Keeps.refl _ _ | with_reducible assumption | simp (disch := first | decide | exact calm_of_block (by decide) | exact calm_portBlock _ _) only [State.freeSlots_keeps, State.traceLink_keeps, State.updPort_keeps, State.raise_keeps, State.raise_keeps_calm, State.switchPrimary_keeps, keeps_flash] | with_reducible apply keeps_ite | (with_reducible refine keeps_foldl _ ?_ ?_; (first | (rintro t ⟨_, _⟩) | intro t _)) | split)

theorem State.countFail_keeps (c : covers [.portN, .portS, .logs, .faults, .pins, .ring, .clocks] G = true) (x1 x2) :
    Keeps G s (u.countFail x1 x2) ↔ Keeps G s u := by
  refine keeps_iff (F := [.portN, .portS, .logs, .faults, .pins, .ring, .clocks]) ?_ c
  unfold State.countFail
  repeat' (first | with_reducible exact Keeps.refl _ _ | with_reducible assumption | simp (disch := first | decide | exact calm_of_block (by decide) | exact calm_portBlock _ _) only [State.updPort_keeps, State.linkDown_keeps, keeps_flash] | with_reducible apply keeps_ite | (with_reducible refine keeps_foldl _ ?_ ?_; (first | (rintro t ⟨_, _⟩) | intro t _)) | split)

theorem State.endFeed_keeps (c : covers [.portN, .portS] G = true) (x1) :
    Keeps G s (u.endFeed x1) ↔ Keeps G s u := by
  refine keeps_iff (F := [.portN, .portS]) ?_ c
  unfold State.endFeed
  repeat' (first | with_reducible exact Keeps.refl _ _ | with_reducible assumption | simp (disch := first | decide | exact calm_of_block (by decide) | exact calm_portBlock _ _) only [State.updPort_keeps, keeps_flash] | with_reducible apply keeps_ite | (with_reducible refine keeps_foldl _ ?_ ?_; (first | (rintro t ⟨_, _⟩) | intro t _)) | split)

theorem State.meldDeadline_keeps (c : covers [.portN, .portS, .faults, .logs, .pins] G = true) (x1) :
    Keeps G s (u.meldDeadline x1) ↔ Keeps G s u := by
  refine keeps_iff (F := [.portN, .portS, .faults, .logs, .pins]) ?_ c
  unfold State.meldDeadline
  repeat' (first | with_reducible exact Keeps.refl _ _ | with_reducible assumption | simp (disch := first | decide | exact calm_of_block (by decide) | exact calm_portBlock _ _) only [State.freeSlots_keeps, State.updPort_keeps, State.raise_keeps, State.raise_keeps_calm, keeps_flash] | with_reducible apply keeps_ite | (with_reducible refine keeps_foldl _ ?_ ?_; (first | (rintro t ⟨_, _⟩) | intro t _)) | split)

theorem State.fencePort_keeps (c : covers [.portN, .portS, .faults, .logs, .pins] G = true) (x1) :
    Keeps G s (u.fencePort x1) ↔ Keeps G s u := by
  refine keeps_iff (F := [.portN, .portS, .faults, .logs, .pins]) ?_ c
  unfold State.fencePort
  repeat' (first | with_reducible exact Keeps.refl _ _ | with_reducible assumption | simp (disch := first | decide | exact calm_of_block (by decide) | exact calm_portBlock _ _) only [State.freeSlots_keeps, State.updPort_keeps, State.raise_keeps, State.raise_keeps_calm, keeps_flash] | with_reducible apply keeps_ite | (with_reducible refine keeps_foldl _ ?_ ?_; (first | (rintro t ⟨_, _⟩) | intro t _)) | split)

theorem State.noteSeen_keeps (c : covers [.portN, .portS, .faults, .logs, .pins] G = true) (x1 x2) :
    Keeps G s (u.noteSeen x1 x2) ↔ Keeps G s u := by
  refine keeps_iff (F := [.portN, .portS, .faults, .logs, .pins]) ?_ c
  unfold State.noteSeen
  repeat' (first | with_reducible exact Keeps.refl _ _ | with_reducible assumption | simp (disch := first | decide | exact calm_of_block (by decide) | exact calm_portBlock _ _) only [State.fencePort_keeps, State.updPort_keeps, keeps_flash] | with_reducible apply keeps_ite | (with_reducible refine keeps_foldl _ ?_ ?_; (first | (rintro t ⟨_, _⟩) | intro t _)) | split)

theorem State.poisonCopy_keeps (c : covers [.portN, .portS] G = true) (x1 x2) :
    Keeps G s (u.poisonCopy x1 x2) ↔ Keeps G s u := by
  refine keeps_iff (F := [.portN, .portS]) ?_ c
  unfold State.poisonCopy
  repeat' (first | with_reducible exact Keeps.refl _ _ | with_reducible assumption | simp (disch := first | decide | exact calm_of_block (by decide) | exact calm_portBlock _ _) only [State.updPort_keeps, keeps_flash] | with_reducible apply keeps_ite | (with_reducible refine keeps_foldl _ ?_ ?_; (first | (rintro t ⟨_, _⟩) | intro t _)) | split)

theorem State.frameFailure_keeps (c : covers [.faults, .logs, .pins, .portN, .portS, .ring, .clocks] G = true) (x1 x2) :
    Keeps G s (u.frameFailure x1 x2) ↔ Keeps G s u := by
  refine keeps_iff (F := [.faults, .logs, .pins, .portN, .portS, .ring, .clocks]) ?_ c
  unfold State.frameFailure
  repeat' (first | with_reducible exact Keeps.refl _ _ | with_reducible assumption | simp (disch := first | decide | exact calm_of_block (by decide) | exact calm_portBlock _ _) only [State.raise_keeps, State.raise_keeps_calm, State.updPort_keeps, State.poisonCopy_keeps, State.noteSeen_keeps, State.countFail_keeps, keeps_flash] | with_reducible apply keeps_ite | (with_reducible refine keeps_foldl _ ?_ ?_; (first | (rintro t ⟨_, _⟩) | intro t _)) | split)

theorem State.sendCall_keeps (c : covers [.portN, .portS] G = true) (x1 x2) :
    Keeps G s (u.sendCall x1 x2) ↔ Keeps G s u := by
  refine keeps_iff (F := [.portN, .portS]) ?_ c
  unfold State.sendCall
  repeat' (first | with_reducible exact Keeps.refl _ _ | with_reducible assumption | simp (disch := first | decide | exact calm_of_block (by decide) | exact calm_portBlock _ _) only [State.send_keeps, keeps_flash] | with_reducible apply keeps_ite | (with_reducible refine keeps_foldl _ ?_ ?_; (first | (rintro t ⟨_, _⟩) | intro t _)) | split)

theorem State.linkCall_keeps (c : covers [.portN, .portS] G = true) (x1) :
    Keeps G s (u.linkCall x1) ↔ Keeps G s u := by
  refine keeps_iff (F := [.portN, .portS]) ?_ c
  unfold State.linkCall
  repeat' (first | with_reducible exact Keeps.refl _ _ | with_reducible assumption | simp (disch := first | decide | exact calm_of_block (by decide) | exact calm_portBlock _ _) only [State.sendCall_keeps, keeps_flash] | with_reducible apply keeps_ite | (with_reducible refine keeps_foldl _ ?_ ?_; (first | (rintro t ⟨_, _⟩) | intro t _)) | split)

theorem State.holdDown_keeps (c : covers [.portN, .portS, .faults, .logs, .pins] G = true) (x1 x2) :
    Keeps G s (u.holdDown x1 x2) ↔ Keeps G s u := by
  refine keeps_iff (F := [.portN, .portS, .faults, .logs, .pins]) ?_ c
  unfold State.holdDown
  repeat' (first | with_reducible exact Keeps.refl _ _ | with_reducible assumption | simp (disch := first | decide | exact calm_of_block (by decide) | exact calm_portBlock _ _) only [State.raise_keeps, State.raise_keeps_calm, State.updPort_keeps, keeps_flash] | with_reducible apply keeps_ite | (with_reducible refine keeps_foldl _ ?_ ?_; (first | (rintro t ⟨_, _⟩) | intro t _)) | split)

/-! ### Membership -/

theorem State.updPos_keeps (c : covers [.dealer] G = true) (x1 x2) :
    Keeps G s (u.updPos x1 x2) ↔ Keeps G s u := by
  refine keeps_iff (F := [.dealer]) ?_ c
  unfold State.updPos
  repeat' (first | with_reducible exact Keeps.refl _ _ | with_reducible assumption | simp (disch := first | decide | exact calm_of_block (by decide) | exact calm_portBlock _ _) only [State.updDealer_keeps, keeps_flash] | with_reducible apply keeps_ite | (with_reducible refine keeps_foldl _ ?_ ?_; (first | (rintro t ⟨_, _⟩) | intro t _)) | split)

theorem State.setPos_keeps (c : covers [.logs, .dealer] G = true) (x1 x2) :
    Keeps G s (u.setPos x1 x2) ↔ Keeps G s u := by
  refine keeps_iff (F := [.logs, .dealer]) ?_ c
  unfold State.setPos
  repeat' (first | with_reducible exact Keeps.refl _ _ | with_reducible assumption | simp (disch := first | decide | exact calm_of_block (by decide) | exact calm_portBlock _ _) only [State.trace_keeps, State.updPos_keeps, keeps_flash] | with_reducible apply keeps_ite | (with_reducible refine keeps_foldl _ ?_ ?_; (first | (rintro t ⟨_, _⟩) | intro t _)) | split)

theorem State.discoveryCall_keeps (c : covers [.portN, .portS] G = true) (x1) :
    Keeps G s (u.discoveryCall x1) ↔ Keeps G s u := by
  refine keeps_iff (F := [.portN, .portS]) ?_ c
  unfold State.discoveryCall
  repeat' (first | with_reducible exact Keeps.refl _ _ | with_reducible assumption | simp (disch := first | decide | exact calm_of_block (by decide) | exact calm_portBlock _ _) only [State.sendCall_keeps, keeps_flash] | with_reducible apply keeps_ite | (with_reducible refine keeps_foldl _ ?_ ?_; (first | (rintro t ⟨_, _⟩) | intro t _)) | split)

theorem State.endDiscovery_keeps (c : covers [.ring, .dealer, .logs] G = true) :
    Keeps G s (u.endDiscovery) ↔ Keeps G s u := by
  refine keeps_iff (F := [.ring, .dealer, .logs]) ?_ c
  unfold State.endDiscovery
  repeat' (first | with_reducible exact Keeps.refl _ _ | with_reducible assumption | simp (disch := first | decide | exact calm_of_block (by decide) | exact calm_portBlock _ _) only [State.updRing_keeps, State.updDealer_keeps, State.setPos_keeps, keeps_flash] | with_reducible apply keeps_ite | (with_reducible refine keeps_foldl _ ?_ ?_; (first | (rintro t ⟨_, _⟩) | intro t _)) | split)

theorem State.endSweep_keeps (c : covers [.dealer, .ring, .portN, .portS, .logs] G = true) :
    Keeps G s (u.endSweep) ↔ Keeps G s u := by
  refine keeps_iff (F := [.dealer, .ring, .portN, .portS, .logs]) ?_ c
  unfold State.endSweep
  repeat' (first | with_reducible exact Keeps.refl _ _ | with_reducible assumption | simp (disch := first | decide | exact calm_of_block (by decide) | exact calm_portBlock _ _) only [State.updDealer_keeps, State.updRing_keeps, State.discoveryCall_keeps, State.endDiscovery_keeps, keeps_flash] | with_reducible apply keeps_ite | (with_reducible refine keeps_foldl _ ?_ ?_; (first | (rintro t ⟨_, _⟩) | intro t _)) | split)

theorem State.startDiscovery_keeps (c : covers [.dealer, .portN, .portS] G = true) (x1) :
    Keeps G s (u.startDiscovery x1) ↔ Keeps G s u := by
  refine keeps_iff (F := [.dealer, .portN, .portS]) ?_ c
  unfold State.startDiscovery
  repeat' (first | with_reducible exact Keeps.refl _ _ | with_reducible assumption | simp (disch := first | decide | exact calm_of_block (by decide) | exact calm_portBlock _ _) only [State.updDealer_keeps, State.discoveryCall_keeps, keeps_flash] | with_reducible apply keeps_ite | (with_reducible refine keeps_foldl _ ?_ ?_; (first | (rintro t ⟨_, _⟩) | intro t _)) | split)

theorem State.takeCall_keeps (c : covers [.ring] G = true) (x1 x2 x3) :
    Keeps G s (u.takeCall x1 x2 x3) ↔ Keeps G s u := by
  refine keeps_iff (F := [.ring]) ?_ c
  unfold State.takeCall
  repeat' (first | with_reducible exact Keeps.refl _ _ | with_reducible assumption | simp (disch := first | decide | exact calm_of_block (by decide) | exact calm_portBlock _ _) only [State.updRing_keeps, keeps_flash] | with_reducible apply keeps_ite | (with_reducible refine keeps_foldl _ ?_ ?_; (first | (rintro t ⟨_, _⟩) | intro t _)) | split)

theorem State.discoveryCalled_keeps (c : covers [.dev, .keeper, .straps, .meas, .probes, .clocks, .portN, .portS, .ring, .dealer, .services, .balance, .outputs, .fan, .supply, .safety, .vehicle, .pins, .logs, .service, .bist, .faults] G = true) (x1 x2) :
    Keeps G s (u.discoveryCalled x1 x2) ↔ Keeps G s u := by
  refine keeps_iff (F := [.dev, .keeper, .straps, .meas, .probes, .clocks, .portN, .portS, .ring, .dealer, .services, .balance, .outputs, .fan, .supply, .safety, .vehicle, .pins, .logs, .service, .bist, .faults]) ?_ c
  unfold State.discoveryCalled
  repeat' (first | with_reducible exact Keeps.refl _ _ | with_reducible assumption | simp (disch := first | decide | exact calm_of_block (by decide) | exact calm_portBlock _ _) only [State.resetDomains_keeps, State.takeCall_keeps, State.updRing_keeps, State.send_keeps, State.discoveryCall_keeps, keeps_flash] | with_reducible apply keeps_ite | (with_reducible refine keeps_foldl _ ?_ ?_; (first | (rintro t ⟨_, _⟩) | intro t _)) | split)

theorem State.linkCalled_keeps (c : covers [.ring, .portN, .portS] G = true) (x1 x2) :
    Keeps G s (u.linkCalled x1 x2) ↔ Keeps G s u := by
  refine keeps_iff (F := [.ring, .portN, .portS]) ?_ c
  unfold State.linkCalled
  repeat' (first | with_reducible exact Keeps.refl _ _ | with_reducible assumption | simp (disch := first | decide | exact calm_of_block (by decide) | exact calm_portBlock _ _) only [State.takeCall_keeps, State.updRing_keeps, State.linkCall_keeps, keeps_flash] | with_reducible apply keeps_ite | (with_reducible refine keeps_foldl _ ?_ ?_; (first | (rintro t ⟨_, _⟩) | intro t _)) | split)

theorem State.handleCall_keeps (c : covers [.dealer, .ring, .portN, .portS, .logs, .dev, .keeper, .straps, .meas, .probes, .clocks, .services, .balance, .outputs, .fan, .supply, .safety, .vehicle, .pins, .service, .bist, .faults] G = true) (x1 x2) :
    Keeps G s (u.handleCall x1 x2) ↔ Keeps G s u := by
  refine keeps_iff (F := [.dealer, .ring, .portN, .portS, .logs, .dev, .keeper, .straps, .meas, .probes, .clocks, .services, .balance, .outputs, .fan, .supply, .safety, .vehicle, .pins, .service, .bist, .faults]) ?_ c
  unfold State.handleCall
  repeat' (first | with_reducible exact Keeps.refl _ _ | with_reducible assumption | simp (disch := first | decide | exact calm_of_block (by decide) | exact calm_portBlock _ _) only [State.endSweep_keeps, State.updDealer_keeps, State.discoveryCalled_keeps, State.linkCalled_keeps, keeps_flash] | with_reducible apply keeps_ite | (with_reducible refine keeps_foldl _ ?_ ?_; (first | (rintro t ⟨_, _⟩) | intro t _)) | split)

theorem State.judgeFactory_keeps (c : covers [.logs, .dealer, .faults, .pins] G = true) (x1 x2) :
    Keeps G s (u.judgeFactory x1 x2) ↔ Keeps G s u := by
  refine keeps_iff (F := [.logs, .dealer, .faults, .pins]) ?_ c
  unfold State.judgeFactory
  repeat' (first | with_reducible exact Keeps.refl _ _ | with_reducible assumption | simp (disch := first | decide | exact calm_of_block (by decide) | exact calm_portBlock _ _) only [State.setPos_keeps, State.raiseIf_keeps, State.raiseIf_keeps_calm, State.raise_keeps, State.raise_keeps_calm, keeps_flash] | with_reducible apply keeps_ite | (with_reducible refine keeps_foldl _ ?_ ?_; (first | (rintro t ⟨_, _⟩) | intro t _)) | split)

theorem State.handleAnswer_keeps (c : covers [.dealer, .logs, .faults, .pins, .ring, .portN, .portS] G = true) (x1 x2) :
    Keeps G s (u.handleAnswer x1 x2) ↔ Keeps G s u := by
  refine keeps_iff (F := [.dealer, .logs, .faults, .pins, .ring, .portN, .portS]) ?_ c
  unfold State.handleAnswer
  repeat' (first | with_reducible exact Keeps.refl _ _ | with_reducible assumption | simp (disch := first | decide | exact calm_of_block (by decide) | exact calm_portBlock _ _) only [State.updPos_keeps, State.judgeFactory_keeps, State.updDealer_keeps, State.endSweep_keeps, keeps_flash] | with_reducible apply keeps_ite | (with_reducible refine keeps_foldl _ ?_ ?_; (first | (rintro t ⟨_, _⟩) | intro t _)) | split)

theorem State.handleRejoin_keeps (c : covers [.dealer] G = true) (x1 x2) :
    Keeps G s (u.handleRejoin x1 x2) ↔ Keeps G s u := by
  refine keeps_iff (F := [.dealer]) ?_ c
  unfold State.handleRejoin
  repeat' (first | with_reducible exact Keeps.refl _ _ | with_reducible assumption | simp (disch := first | decide | exact calm_of_block (by decide) | exact calm_portBlock _ _) only [State.updPos_keeps, keeps_flash] | with_reducible apply keeps_ite | (with_reducible refine keeps_foldl _ ?_ ?_; (first | (rintro t ⟨_, _⟩) | intro t _)) | split)

theorem State.actRejoin_keeps (c : covers [.dealer, .logs, .faults, .pins] G = true) (x1) :
    Keeps G s (u.actRejoin x1) ↔ Keeps G s u := by
  refine keeps_iff (F := [.dealer, .logs, .faults, .pins]) ?_ c
  unfold State.actRejoin
  repeat' (first | with_reducible exact Keeps.refl _ _ | with_reducible assumption | simp (disch := first | decide | exact calm_of_block (by decide) | exact calm_portBlock _ _) only [State.updPos_keeps, State.judgeFactory_keeps, State.setPos_keeps, State.raise_keeps, State.raise_keeps_calm, keeps_flash] | with_reducible apply keeps_ite | (with_reducible refine keeps_foldl _ ?_ ?_; (first | (rintro t ⟨_, _⟩) | intro t _)) | split)

theorem State.newDeal_keeps (c : covers [.ring, .portN, .portS] G = true) (x1) :
    Keeps G s (u.newDeal x1) ↔ Keeps G s u := by
  refine keeps_iff (F := [.ring, .portN, .portS]) ?_ c
  unfold State.newDeal
  repeat' (first | with_reducible exact Keeps.refl _ _ | with_reducible assumption | simp (disch := first | decide | exact calm_of_block (by decide) | exact calm_portBlock _ _) only [State.updRing_keeps, State.updPort_keeps, keeps_flash] | with_reducible apply keeps_ite | (with_reducible refine keeps_foldl _ ?_ ?_; (first | (rintro t ⟨_, _⟩) | intro t _)) | split)

theorem State.phaseError_keeps (c : covers [.logs, .ring] G = true) (x1) :
    Keeps G s (u.phaseError x1) ↔ Keeps G s u := by
  refine keeps_iff (F := [.logs, .ring]) ?_ c
  unfold State.phaseError
  repeat' (first | with_reducible exact Keeps.refl _ _ | with_reducible assumption | simp (disch := first | decide | exact calm_of_block (by decide) | exact calm_portBlock _ _) only [State.updRing_keeps, State.trace_keeps, keeps_flash] | with_reducible apply keeps_ite | (with_reducible refine keeps_foldl _ ?_ ?_; (first | (rintro t ⟨_, _⟩) | intro t _)) | split)

theorem State.takePhase_keeps (c : covers [.logs, .ring] G = true) (x1 x2 x3) :
    Keeps G s (u.takePhase x1 x2 x3) ↔ Keeps G s u := by
  refine keeps_iff (F := [.logs, .ring]) ?_ c
  unfold State.takePhase
  repeat' (first | with_reducible exact Keeps.refl _ _ | with_reducible assumption | simp (disch := first | decide | exact calm_of_block (by decide) | exact calm_portBlock _ _) only [State.updRing_keeps, State.phaseError_keeps, keeps_flash] | with_reducible apply keeps_ite | (with_reducible refine keeps_foldl _ ?_ ?_; (first | (rintro t ⟨_, _⟩) | intro t _)) | split)

/-! ### Profiles -/

theorem State.updStr_keeps (c : covers [.services] G = true) (x1 x2) :
    Keeps G s (u.updStr x1 x2) ↔ Keeps G s u := by
  refine keeps_iff (F := [.services]) ?_ c
  unfold State.updStr
  repeat' (first | with_reducible exact Keeps.refl _ _ | with_reducible assumption | simp (disch := first | decide | exact calm_of_block (by decide) | exact calm_portBlock _ _) only [State.updServices_keeps, keeps_flash] | with_reducible apply keeps_ite | (with_reducible refine keeps_foldl _ ?_ ?_; (first | (rintro t ⟨_, _⟩) | intro t _)) | split)

/-! ### Balance -/

theorem State.traceJob_keeps (c : covers [.logs] G = true) (x1 x2) :
    Keeps G s (u.traceJob x1 x2) ↔ Keeps G s u := by
  refine keeps_iff (F := [.logs]) ?_ c
  unfold State.traceJob
  repeat' (first | with_reducible exact Keeps.refl _ _ | with_reducible assumption | simp (disch := first | decide | exact calm_of_block (by decide) | exact calm_portBlock _ _) only [State.trace_keeps, keeps_flash] | with_reducible apply keeps_ite | (with_reducible refine keeps_foldl _ ?_ ?_; (first | (rintro t ⟨_, _⟩) | intro t _)) | split)

theorem State.reportJob_keeps (c : covers [.logs, .faults, .pins, .balance] G = true) (x1) :
    Keeps G s (u.reportJob x1) ↔ Keeps G s u := by
  refine keeps_iff (F := [.logs, .faults, .pins, .balance]) ?_ c
  unfold State.reportJob
  repeat' (first | with_reducible exact Keeps.refl _ _ | with_reducible assumption | simp (disch := first | decide | exact calm_of_block (by decide) | exact calm_portBlock _ _) only [State.log_keeps, State.traceJob_keeps, State.raiseIf_keeps, State.raiseIf_keeps_calm, State.updBalance_keeps, keeps_flash] | with_reducible apply keeps_ite | (with_reducible refine keeps_foldl _ ?_ ?_; (first | (rintro t ⟨_, _⟩) | intro t _)) | split)

theorem State.endJob_keeps (c : covers [.balance, .logs, .faults, .pins] G = true) (x1) :
    Keeps G s (u.endJob x1) ↔ Keeps G s u := by
  refine keeps_iff (F := [.balance, .logs, .faults, .pins]) ?_ c
  unfold State.endJob
  repeat' (first | with_reducible exact Keeps.refl _ _ | with_reducible assumption | simp (disch := first | decide | exact calm_of_block (by decide) | exact calm_portBlock _ _) only [State.updBalance_keeps, State.reportJob_keeps, keeps_flash] | with_reducible apply keeps_ite | (with_reducible refine keeps_foldl _ ?_ ?_; (first | (rintro t ⟨_, _⟩) | intro t _)) | split)

theorem State.endJobs_keeps (c : covers [.balance, .logs, .faults, .pins] G = true) (x1) :
    Keeps G s (u.endJobs x1) ↔ Keeps G s u := by
  refine keeps_iff (F := [.balance, .logs, .faults, .pins]) ?_ c
  unfold State.endJobs
  repeat' (first | with_reducible exact Keeps.refl _ _ | with_reducible assumption | simp (disch := first | decide | exact calm_of_block (by decide) | exact calm_portBlock _ _) only [State.endJob_keeps, keeps_flash] | with_reducible apply keeps_ite | (with_reducible refine keeps_foldl _ ?_ ?_; (first | (rintro t ⟨_, _⟩) | intro t _)) | split)

theorem State.latchTrip_keeps (c : covers [.balance, .faults, .logs, .pins] G = true) :
    Keeps G s (u.latchTrip) ↔ Keeps G s u := by
  refine keeps_iff (F := [.balance, .faults, .logs, .pins]) ?_ c
  unfold State.latchTrip
  repeat' (first | with_reducible exact Keeps.refl _ _ | with_reducible assumption | simp (disch := first | decide | exact calm_of_block (by decide) | exact calm_portBlock _ _) only [State.raise_keeps, State.raise_keeps_calm, State.updBalance_keeps, State.endJobs_keeps, keeps_flash] | with_reducible apply keeps_ite | (with_reducible refine keeps_foldl _ ?_ ?_; (first | (rintro t ⟨_, _⟩) | intro t _)) | split)

theorem State.startJob_keeps (c : covers [.balance, .logs, .faults, .pins] G = true) (x1 x2 x3) :
    Keeps G s (u.startJob x1 x2 x3) ↔ Keeps G s u := by
  refine keeps_iff (F := [.balance, .logs, .faults, .pins]) ?_ c
  unfold State.startJob
  repeat' (first | with_reducible exact Keeps.refl _ _ | with_reducible assumption | simp (disch := first | decide | exact calm_of_block (by decide) | exact calm_portBlock _ _) only [State.updBalance_keeps, State.traceJob_keeps, State.latchTrip_keeps, keeps_flash] | with_reducible apply keeps_ite | (with_reducible refine keeps_foldl _ ?_ ?_; (first | (rintro t ⟨_, _⟩) | intro t _)) | split)

theorem State.scheduleActive_keeps (c : covers [.balance, .logs, .faults, .pins] G = true) :
    Keeps G s (u.scheduleActive) ↔ Keeps G s u := by
  refine keeps_iff (F := [.balance, .logs, .faults, .pins]) ?_ c
  unfold State.scheduleActive
  repeat' (first | with_reducible exact Keeps.refl _ _ | with_reducible assumption | simp (disch := first | decide | exact calm_of_block (by decide) | exact calm_portBlock _ _) only [State.startJob_keeps, State.endJobs_keeps, keeps_flash] | with_reducible apply keeps_ite | (with_reducible refine keeps_foldl _ ?_ ?_; (first | (rintro t ⟨_, _⟩) | intro t _)) | split)

theorem State.commandActive_keeps (c : covers [.balance] G = true) :
    Keeps G s (u.commandActive) ↔ Keeps G s u := by
  refine keeps_iff (F := [.balance]) ?_ c
  unfold State.commandActive
  repeat' (first | with_reducible exact Keeps.refl _ _ | with_reducible assumption | simp (disch := first | decide | exact calm_of_block (by decide) | exact calm_portBlock _ _) only [State.updBalance_keeps, keeps_flash] | with_reducible apply keeps_ite | (with_reducible refine keeps_foldl _ ?_ ?_; (first | (rintro t ⟨_, _⟩) | intro t _)) | split)

theorem State.fitBank_keeps (c : covers [.balance, .logs, .faults, .pins] G = true) (x n) :
    Keeps G s (State.fitBank x n u) ↔ Keeps G s u := by
  induction n generalizing u with
  | zero => exact Iff.rfl
  | succ n ih =>
    unfold State.fitBank
    dsimp only
    split
    · exact Iff.rfl
    · split
      · exact Iff.rfl
      · rw [ih]
        exact (State.updBalance_keeps (covers_trans (by decide) c) _).trans (State.endJobs_keeps c _)

theorem State.tryBleed_keeps (c : covers [.balance, .logs, .faults, .pins] G = true) (x0 x2) :
    Keeps G s (State.tryBleed x0 u x2) ↔ Keeps G s u := by
  refine keeps_iff (F := [.balance, .logs, .faults, .pins]) ?_ c
  unfold State.tryBleed
  repeat' (first | with_reducible exact Keeps.refl _ _ | with_reducible assumption | simp (disch := first | decide | exact calm_of_block (by decide) | exact calm_portBlock _ _) only [State.updBalance_keeps, State.startJob_keeps, keeps_flash] | with_reducible apply keeps_ite | (with_reducible refine keeps_foldl _ ?_ ?_; (first | (rintro t ⟨_, _⟩) | intro t _)) | split)

theorem State.scheduleBank_keeps (c : covers [.balance, .logs, .faults, .pins] G = true) (x1) :
    Keeps G s (u.scheduleBank x1) ↔ Keeps G s u := by
  refine keeps_iff (F := [.balance, .logs, .faults, .pins]) ?_ c
  unfold State.scheduleBank
  repeat' (first | with_reducible exact Keeps.refl _ _ | with_reducible assumption | simp (disch := first | decide | exact calm_of_block (by decide) | exact calm_portBlock _ _) only [State.fitBank_keeps, State.tryBleed_keeps, keeps_flash] | with_reducible apply keeps_ite | (with_reducible refine keeps_foldl _ ?_ ?_; (first | (rintro t ⟨_, _⟩) | intro t _)) | split)

theorem State.applySwitch_keeps (c : covers [.balance, .logs, .faults, .pins] G = true) (x1) :
    Keeps G s (u.applySwitch x1) ↔ Keeps G s u := by
  refine keeps_iff (F := [.balance, .logs, .faults, .pins]) ?_ c
  unfold State.applySwitch
  repeat' (first | with_reducible exact Keeps.refl _ _ | with_reducible assumption | simp (disch := first | decide | exact calm_of_block (by decide) | exact calm_portBlock _ _) only [State.updBalance_keeps, State.raise_keeps_calm, keeps_flash] | with_reducible apply keeps_ite | (with_reducible refine keeps_foldl _ ?_ ?_; (first | (rintro t ⟨_, _⟩) | intro t _)) | split)

theorem State.applyBanks_keeps (c : covers [.balance, .logs, .faults, .pins] G = true) :
    Keeps G s (u.applyBanks) ↔ Keeps G s u := by
  refine keeps_iff (F := [.balance, .logs, .faults, .pins]) ?_ c
  unfold State.applyBanks
  repeat' (first | with_reducible exact Keeps.refl _ _ | with_reducible assumption | simp (disch := first | decide | exact calm_of_block (by decide) | exact calm_portBlock _ _) only [State.updBalance_keeps, State.applySwitch_keeps, keeps_flash] | with_reducible apply keeps_ite | (with_reducible refine keeps_foldl _ ?_ ?_; (first | (rintro t ⟨_, _⟩) | intro t _)) | split)

theorem State.schedule_keeps (c : covers [.balance, .logs, .faults, .pins] G = true) :
    Keeps G s (u.schedule) ↔ Keeps G s u := by
  refine keeps_iff (F := [.balance, .logs, .faults, .pins]) ?_ c
  unfold State.schedule
  repeat' (first | with_reducible exact Keeps.refl _ _ | with_reducible assumption | simp (disch := first | decide | exact calm_of_block (by decide) | exact calm_portBlock _ _) only [State.updBalance_keeps, State.endJobs_keeps, State.scheduleActive_keeps, State.commandActive_keeps, State.scheduleBank_keeps, State.applyBanks_keeps, keeps_flash] | with_reducible apply keeps_ite | (with_reducible refine keeps_foldl _ ?_ ?_; (first | (rintro t ⟨_, _⟩) | intro t _)) | split)

theorem State.noteReasons_keeps (c : covers [.balance, .logs] G = true) (x1) :
    Keeps G s (u.noteReasons x1) ↔ Keeps G s u := by
  refine keeps_iff (F := [.balance, .logs]) ?_ c
  unfold State.noteReasons
  repeat' (first | with_reducible exact Keeps.refl _ _ | with_reducible assumption | simp (disch := first | decide | exact calm_of_block (by decide) | exact calm_portBlock _ _) only [State.trace_keeps, State.updBalance_keeps, keeps_flash] | with_reducible apply keeps_ite | (with_reducible refine keeps_foldl _ ?_ ?_; (first | (rintro t ⟨_, _⟩) | intro t _)) | split)

theorem State.logThrottle_keeps (c : covers [.logs] G = true) (x1 x2 x3) :
    Keeps G s (u.logThrottle x1 x2 x3) ↔ Keeps G s u := by
  refine keeps_iff (F := [.logs]) ?_ c
  unfold State.logThrottle
  repeat' (first | with_reducible exact Keeps.refl _ _ | with_reducible assumption | simp (disch := first | decide | exact calm_of_block (by decide) | exact calm_portBlock _ _) only [State.log_keeps, keeps_flash] | with_reducible apply keeps_ite | (with_reducible refine keeps_foldl _ ?_ ?_; (first | (rintro t ⟨_, _⟩) | intro t _)) | split)

theorem State.closeEpisodes_keeps (c : covers [.balance, .logs] G = true) :
    Keeps G s (u.closeEpisodes) ↔ Keeps G s u := by
  refine keeps_iff (F := [.balance, .logs]) ?_ c
  unfold State.closeEpisodes
  repeat' (first | with_reducible exact Keeps.refl _ _ | with_reducible assumption | simp (disch := first | decide | exact calm_of_block (by decide) | exact calm_portBlock _ _) only [State.updBalance_keeps, State.trace_keeps, State.logThrottle_keeps, keeps_flash] | with_reducible apply keeps_ite | (with_reducible refine keeps_foldl _ ?_ ?_; (first | (rintro t ⟨_, _⟩) | intro t _)) | split)

theorem State.fenceSwitch_keeps (c : covers [.balance, .logs, .faults, .pins] G = true) (x1 x2) :
    Keeps G s (u.fenceSwitch x1 x2) ↔ Keeps G s u := by
  refine keeps_iff (F := [.balance, .logs, .faults, .pins]) ?_ c
  unfold State.fenceSwitch
  repeat' (first | with_reducible exact Keeps.refl _ _ | with_reducible assumption | simp (disch := first | decide | exact calm_of_block (by decide) | exact calm_portBlock _ _) only [State.raise_keeps, State.raise_keeps_calm, State.endJobs_keeps, State.updBalance_keeps, keeps_flash] | with_reducible apply keeps_ite | (with_reducible refine keeps_foldl _ ?_ ?_; (first | (rintro t ⟨_, _⟩) | intro t _)) | split)

theorem State.fenceAcv_keeps (c : covers [.balance, .faults, .logs, .pins] G = true) (x1) :
    Keeps G s (u.fenceAcv x1) ↔ Keeps G s u := by
  refine keeps_iff (F := [.balance, .faults, .logs, .pins]) ?_ c
  unfold State.fenceAcv
  repeat' (first | with_reducible exact Keeps.refl _ _ | with_reducible assumption | simp (disch := first | decide | exact calm_of_block (by decide) | exact calm_portBlock _ _) only [State.endJobs_keeps, State.raise_keeps, State.raise_keeps_calm, State.updBalance_keeps, keeps_flash] | with_reducible apply keeps_ite | (with_reducible refine keeps_foldl _ ?_ ?_; (first | (rintro t ⟨_, _⟩) | intro t _)) | split)

theorem State.acvBoundary_keeps (c : covers [.balance, .faults, .logs, .pins] G = true) :
    Keeps G s (u.acvBoundary) ↔ Keeps G s u := by
  refine keeps_iff (F := [.balance, .faults, .logs, .pins]) ?_ c
  unfold State.acvBoundary
  repeat' (first | with_reducible exact Keeps.refl _ _ | with_reducible assumption | simp (disch := first | decide | exact calm_of_block (by decide) | exact calm_portBlock _ _) only [State.updBalance_keeps, State.fenceAcv_keeps, keeps_flash] | with_reducible apply keeps_ite | (with_reducible refine keeps_foldl _ ?_ ?_; (first | (rintro t ⟨_, _⟩) | intro t _)) | split)

theorem State.acvSelect_keeps (c : covers [.balance] G = true) :
    Keeps G s (u.acvSelect) ↔ Keeps G s u := by
  refine keeps_iff (F := [.balance]) ?_ c
  unfold State.acvSelect
  repeat' (first | with_reducible exact Keeps.refl _ _ | with_reducible assumption | simp (disch := first | decide | exact calm_of_block (by decide) | exact calm_portBlock _ _) only [State.updBalance_keeps, keeps_flash] | with_reducible apply keeps_ite | (with_reducible refine keeps_foldl _ ?_ ?_; (first | (rintro t ⟨_, _⟩) | intro t _)) | split)

theorem State.dieRelease_keeps (c : covers [.balance, .outputs, .meas] G = true) :
    Keeps G s (u.dieRelease) ↔ Keeps G s u := by
  refine keeps_iff (F := [.balance, .outputs, .meas]) ?_ c
  unfold State.dieRelease
  repeat' (first | with_reducible exact Keeps.refl _ _ | with_reducible assumption | simp (disch := first | decide | exact calm_of_block (by decide) | exact calm_portBlock _ _) only [State.updBalance_keeps, State.updChan_keeps, State.settle_keeps, keeps_flash] | with_reducible apply keeps_ite | (with_reducible refine keeps_foldl _ ?_ ?_; (first | (rintro t ⟨_, _⟩) | intro t _)) | split)

theorem State.logAgeing_keeps (c : covers [.logs] G = true) (x1 x2 x3) :
    Keeps G s (u.logAgeing x1 x2 x3) ↔ Keeps G s u := by
  refine keeps_iff (F := [.logs]) ?_ c
  unfold State.logAgeing
  repeat' (first | with_reducible exact Keeps.refl _ _ | with_reducible assumption | simp (disch := first | decide | exact calm_of_block (by decide) | exact calm_portBlock _ _) only [State.log_keeps, keeps_flash] | with_reducible apply keeps_ite | (with_reducible refine keeps_foldl _ ?_ ?_; (first | (rintro t ⟨_, _⟩) | intro t _)) | split)

/-! ### Services -/

theorem State.serveString_keeps (c : covers [.services] G = true) (x1) :
    Keeps G s (u.serveString x1) ↔ Keeps G s u := by
  refine keeps_iff (F := [.services]) ?_ c
  unfold State.serveString
  repeat' (first | with_reducible exact Keeps.refl _ _ | with_reducible assumption | simp (disch := first | decide | exact calm_of_block (by decide) | exact calm_portBlock _ _) only [State.updStr_keeps, State.updServices_keeps, keeps_flash] | with_reducible apply keeps_ite | (with_reducible refine keeps_foldl _ ?_ ?_; (first | (rintro t ⟨_, _⟩) | intro t _)) | split)

theorem State.publishLimits_keeps (c : covers [.services] G = true) :
    Keeps G s (u.publishLimits) ↔ Keeps G s u := by
  refine keeps_iff (F := [.services]) ?_ c
  unfold State.publishLimits
  repeat' (first | with_reducible exact Keeps.refl _ _ | with_reducible assumption | simp (disch := first | decide | exact calm_of_block (by decide) | exact calm_portBlock _ _) only [State.updServices_keeps, keeps_flash] | with_reducible apply keeps_ite | (with_reducible refine keeps_foldl _ ?_ ?_; (first | (rintro t ⟨_, _⟩) | intro t _)) | split)

theorem State.target_keeps (c : covers [.dealer] G = true) :
    Keeps G s (u.target) ↔ Keeps G s u := by
  refine keeps_iff (F := [.dealer]) ?_ c
  unfold State.target
  repeat' (first | with_reducible exact Keeps.refl _ _ | with_reducible assumption | simp (disch := first | decide | exact calm_of_block (by decide) | exact calm_portBlock _ _) only [State.updDealer_keeps, keeps_flash] | with_reducible apply keeps_ite | (with_reducible refine keeps_foldl _ ?_ ?_; (first | (rintro t ⟨_, _⟩) | intro t _)) | split)

theorem State.ringEpisode_keeps (c : covers [.logs, .dealer] G = true) (x1 x2) :
    Keeps G s (u.ringEpisode x1 x2) ↔ Keeps G s u := by
  refine keeps_iff (F := [.logs, .dealer]) ?_ c
  unfold State.ringEpisode
  repeat' (first | with_reducible exact Keeps.refl _ _ | with_reducible assumption | simp (disch := first | decide | exact calm_of_block (by decide) | exact calm_portBlock _ _) only [State.trace_keeps, State.updDealer_keeps, State.logThrottle_keeps, keeps_flash] | with_reducible apply keeps_ite | (with_reducible refine keeps_foldl _ ?_ ?_; (first | (rintro t ⟨_, _⟩) | intro t _)) | split)

theorem State.currentReason_keeps (c : covers [.dealer, .logs] G = true) :
    Keeps G s (u.currentReason) ↔ Keeps G s u := by
  refine keeps_iff (F := [.dealer, .logs]) ?_ c
  unfold State.currentReason
  repeat' (first | with_reducible exact Keeps.refl _ _ | with_reducible assumption | simp (disch := first | decide | exact calm_of_block (by decide) | exact calm_portBlock _ _) only [State.ringEpisode_keeps, State.updDealer_keeps, keeps_flash] | with_reducible apply keeps_ite | (with_reducible refine keeps_foldl _ ?_ ?_; (first | (rintro t ⟨_, _⟩) | intro t _)) | split)

theorem State.announce_keeps (c : covers [.ring, .dealer] G = true) (x1) :
    Keeps G s (u.announce x1) ↔ Keeps G s u := by
  refine keeps_iff (F := [.ring, .dealer]) ?_ c
  unfold State.announce
  repeat' (first | with_reducible exact Keeps.refl _ _ | with_reducible assumption | simp (disch := first | decide | exact calm_of_block (by decide) | exact calm_portBlock _ _) only [State.updRing_keeps, State.updDealer_keeps, keeps_flash] | with_reducible apply keeps_ite | (with_reducible refine keeps_foldl _ ?_ ?_; (first | (rintro t ⟨_, _⟩) | intro t _)) | split)

theorem State.pace_keeps (c : covers [.dealer, .ring, .faults, .logs, .pins] G = true) :
    Keeps G s (u.pace) ↔ Keeps G s u := by
  refine keeps_iff (F := [.dealer, .ring, .faults, .logs, .pins]) ?_ c
  unfold State.pace
  repeat' (first | with_reducible exact Keeps.refl _ _ | with_reducible assumption | simp (disch := first | decide | exact calm_of_block (by decide) | exact calm_portBlock _ _) only [State.updDealer_keeps, State.ringEpisode_keeps, State.raise_keeps, State.raise_keeps_calm, State.announce_keeps, keeps_flash] | with_reducible apply keeps_ite | (with_reducible refine keeps_foldl _ ?_ ?_; (first | (rintro t ⟨_, _⟩) | intro t _)) | split)

/-! ### Pack -/

theorem State.stringFails_keeps (c : covers [.services, .faults, .logs, .pins] G = true) (x1) :
    Keeps G s (u.stringFails x1) ↔ Keeps G s u := by
  refine keeps_iff (F := [.services, .faults, .logs, .pins]) ?_ c
  unfold State.stringFails
  repeat' (first | with_reducible exact Keeps.refl _ _ | with_reducible assumption | simp (disch := first | decide | exact calm_of_block (by decide) | exact calm_portBlock _ _) only [State.raise_keeps, State.raise_keeps_calm, State.updStr_keeps, keeps_flash] | with_reducible apply keeps_ite | (with_reducible refine keeps_foldl _ ?_ ?_; (first | (rintro t ⟨_, _⟩) | intro t _)) | split)

theorem State.stringPrecharge_keeps (c : covers [.services, .faults, .logs, .pins] G = true) (x1) :
    Keeps G s (u.stringPrecharge x1) ↔ Keeps G s u := by
  refine keeps_iff (F := [.services, .faults, .logs, .pins]) ?_ c
  unfold State.stringPrecharge
  repeat' (first | with_reducible exact Keeps.refl _ _ | with_reducible assumption | simp (disch := first | decide | exact calm_of_block (by decide) | exact calm_portBlock _ _) only [State.updStr_keeps, State.stringFails_keeps, keeps_flash] | with_reducible apply keeps_ite | (with_reducible refine keeps_foldl _ ?_ ?_; (first | (rintro t ⟨_, _⟩) | intro t _)) | split)

theorem State.stringStep_keeps (c : covers [.services, .faults, .logs, .pins] G = true) (x1) :
    Keeps G s (u.stringStep x1) ↔ Keeps G s u := by
  refine keeps_iff (F := [.services, .faults, .logs, .pins]) ?_ c
  unfold State.stringStep
  repeat' (first | with_reducible exact Keeps.refl _ _ | with_reducible assumption | simp (disch := first | decide | exact calm_of_block (by decide) | exact calm_portBlock _ _) only [State.updStr_keeps, State.stringPrecharge_keeps, State.stringFails_keeps, keeps_flash] | with_reducible apply keeps_ite | (with_reducible refine keeps_foldl _ ?_ ?_; (first | (rintro t ⟨_, _⟩) | intro t _)) | split)

theorem State.packFails_keeps (c : covers [.faults, .logs, .pins, .outputs, .meas, .services] G = true) :
    Keeps G s (u.packFails) ↔ Keeps G s u := by
  refine keeps_iff (F := [.faults, .logs, .pins, .outputs, .meas, .services]) ?_ c
  unfold State.packFails
  repeat' (first | with_reducible exact Keeps.refl _ _ | with_reducible assumption | simp (disch := first | decide | exact calm_of_block (by decide) | exact calm_portBlock _ _) only [State.updServices_keeps, State.openPack_keeps, State.raise_keeps, State.raise_keeps_calm, keeps_flash] | with_reducible apply keeps_ite | (with_reducible refine keeps_foldl _ ?_ ?_; (first | (rintro t ⟨_, _⟩) | intro t _)) | split)

theorem State.openSequenced_keeps (c : covers [.logs, .services, .pins] G = true) :
    Keeps G s (u.openSequenced) ↔ Keeps G s u := by
  refine keeps_iff (F := [.logs, .services, .pins]) ?_ c
  unfold State.openSequenced
  repeat' (first | with_reducible exact Keeps.refl _ _ | with_reducible assumption | simp (disch := first | decide | exact calm_of_block (by decide) | exact calm_portBlock _ _) only [State.publishLimits_keeps, State.updPins_keeps, State.updServices_keeps, State.setPack_keeps, keeps_flash] | with_reducible apply keeps_ite | (with_reducible refine keeps_foldl _ ?_ ?_; (first | (rintro t ⟨_, _⟩) | intro t _)) | split)

theorem State.packPrecharge_keeps (c : covers [.faults, .logs, .pins, .outputs, .meas, .services] G = true) :
    Keeps G s (u.packPrecharge) ↔ Keeps G s u := by
  refine keeps_iff (F := [.faults, .logs, .pins, .outputs, .meas, .services]) ?_ c
  unfold State.packPrecharge
  repeat' (first | with_reducible exact Keeps.refl _ _ | with_reducible assumption | simp (disch := first | decide | exact calm_of_block (by decide) | exact calm_portBlock _ _) only [State.packFails_keeps, State.setPack_keeps, State.updServices_keeps, keeps_flash] | with_reducible apply keeps_ite | (with_reducible refine keeps_foldl _ ?_ ?_; (first | (rintro t ⟨_, _⟩) | intro t _)) | split)

theorem State.coilStep_keeps (c : covers [.logs, .services, .faults, .pins, .outputs, .meas] G = true) (x1 x2) :
    Keeps G s (u.coilStep x1 x2) ↔ Keeps G s u := by
  refine keeps_iff (F := [.logs, .services, .faults, .pins, .outputs, .meas]) ?_ c
  unfold State.coilStep
  repeat' (first | with_reducible exact Keeps.refl _ _ | with_reducible assumption | simp (disch := first | decide | exact calm_of_block (by decide) | exact calm_portBlock _ _) only [State.updServices_keeps, State.setPack_keeps, State.packFails_keeps, keeps_flash] | with_reducible apply keeps_ite | (with_reducible refine keeps_foldl _ ?_ ?_; (first | (rintro t ⟨_, _⟩) | intro t _)) | split)

theorem State.openingStep_keeps (c : covers [.logs, .outputs, .meas, .services] G = true) :
    Keeps G s (u.openingStep) ↔ Keeps G s u := by
  refine keeps_iff (F := [.logs, .outputs, .meas, .services]) ?_ c
  unfold State.openingStep
  repeat' (first | with_reducible exact Keeps.refl _ _ | with_reducible assumption | simp (disch := first | decide | exact calm_of_block (by decide) | exact calm_portBlock _ _) only [State.updServices_keeps, State.commandOff_keeps, keeps_flash] | with_reducible apply keeps_ite | (with_reducible refine keeps_foldl _ ?_ ?_; (first | (rintro t ⟨_, _⟩) | intro t _)) | split)

theorem State.packStep_keeps (c : covers [.logs, .services, .outputs, .meas, .pins, .faults] G = true) :
    Keeps G s (u.packStep) ↔ Keeps G s u := by
  refine keeps_iff (F := [.logs, .services, .outputs, .meas, .pins, .faults]) ?_ c
  unfold State.packStep
  repeat' (first | with_reducible exact Keeps.refl _ _ | with_reducible assumption | simp (disch := first | decide | exact calm_of_block (by decide) | exact calm_portBlock _ _) only [State.setPack_keeps, State.openingStep_keeps, State.openPack_keeps, State.openSequenced_keeps, State.stringStep_keeps, State.coilStep_keeps, State.packPrecharge_keeps, keeps_flash] | with_reducible apply keeps_ite | (with_reducible refine keeps_foldl _ ?_ ?_; (first | (rintro t ⟨_, _⟩) | intro t _)) | split)

theorem State.coreLost_keeps (c : covers [.services, .logs, .outputs, .meas, .pins] G = true) :
    Keeps G s (u.coreLost) ↔ Keeps G s u := by
  refine keeps_iff (F := [.services, .logs, .outputs, .meas, .pins]) ?_ c
  unfold State.coreLost
  repeat' (first | with_reducible exact Keeps.refl _ _ | with_reducible assumption | simp (disch := first | decide | exact calm_of_block (by decide) | exact calm_portBlock _ _) only [State.updServices_keeps, State.openPack_keeps, keeps_flash] | with_reducible apply keeps_ite | (with_reducible refine keeps_foldl _ ?_ ?_; (first | (rintro t ⟨_, _⟩) | intro t _)) | split)

theorem State.outputCommand_keeps (c : covers [.outputs, .meas, .logs] G = true) :
    Keeps G s (u.outputCommand) ↔ Keeps G s u := by
  refine keeps_iff (F := [.outputs, .meas, .logs]) ?_ c
  unfold State.outputCommand
  repeat' (first | with_reducible exact Keeps.refl _ _ | with_reducible assumption | simp (disch := first | decide | exact calm_of_block (by decide) | exact calm_portBlock _ _) only [State.commandOn_keeps, State.commandOff_keeps, keeps_flash] | with_reducible apply keeps_ite | (with_reducible refine keeps_foldl _ ?_ ?_; (first | (rintro t ⟨_, _⟩) | intro t _)) | split)

theorem State.endOpening_keeps (c : covers [.logs, .services] G = true) :
    Keeps G s (u.endOpening) ↔ Keeps G s u := by
  refine keeps_iff (F := [.logs, .services]) ?_ c
  unfold State.endOpening
  repeat' (first | with_reducible exact Keeps.refl _ _ | with_reducible assumption | simp (disch := first | decide | exact calm_of_block (by decide) | exact calm_portBlock _ _) only [State.stringsOpen_keeps, State.setPack_keeps, keeps_flash] | with_reducible apply keeps_ite | (with_reducible refine keeps_foldl _ ?_ ?_; (first | (rintro t ⟨_, _⟩) | intro t _)) | split)

theorem State.degradedTimer_keeps (c : covers [.safety] G = true) :
    Keeps G s (u.degradedTimer) ↔ Keeps G s u := by
  refine keeps_iff (F := [.safety]) ?_ c
  unfold State.degradedTimer
  repeat' (first | with_reducible exact Keeps.refl _ _ | with_reducible assumption | simp (disch := first | decide | exact calm_of_block (by decide) | exact calm_portBlock _ _) only [State.updSafety_keeps, keeps_flash] | with_reducible apply keeps_ite | (with_reducible refine keeps_foldl _ ?_ ?_; (first | (rintro t ⟨_, _⟩) | intro t _)) | split)

theorem State.degradedClosure_keeps (c : covers [.safety, .logs, .outputs, .meas, .services, .pins, .keeper, .nv] G = true) :
    Keeps G s (u.degradedClosure) ↔ Keeps G s u := by
  refine keeps_iff (F := [.safety, .logs, .outputs, .meas, .services, .pins, .keeper, .nv]) ?_ c
  unfold State.degradedClosure
  repeat' (first | with_reducible exact Keeps.refl _ _ | with_reducible assumption | simp (disch := first | decide | exact calm_of_block (by decide) | exact calm_portBlock _ _) only [State.degradedTimer_keeps, State.trip_keeps, State.updSafety_keeps, keeps_flash] | with_reducible apply keeps_ite | (with_reducible refine keeps_foldl _ ?_ ?_; (first | (rintro t ⟨_, _⟩) | intro t _)) | split)

theorem State.closurePins_keeps (c : covers [.pins, .services] G = true) :
    Keeps G s (u.closurePins) ↔ Keeps G s u := by
  refine keeps_iff (F := [.pins, .services]) ?_ c
  unfold State.closurePins
  repeat' (first | with_reducible exact Keeps.refl _ _ | with_reducible assumption | simp (disch := first | decide | exact calm_of_block (by decide) | exact calm_portBlock _ _) only [State.updPins_keeps, State.updServices_keeps, keeps_flash] | with_reducible apply keeps_ite | (with_reducible refine keeps_foldl _ ?_ ?_; (first | (rintro t ⟨_, _⟩) | intro t _)) | split)

/-! ### Outputs -/

theorem State.stringCommand_keeps (c : covers [.safety, .outputs, .meas, .logs] G = true) :
    Keeps G s (u.stringCommand) ↔ Keeps G s u := by
  refine keeps_iff (F := [.safety, .outputs, .meas, .logs]) ?_ c
  unfold State.stringCommand
  repeat' (first | with_reducible exact Keeps.refl _ _ | with_reducible assumption | simp (disch := first | decide | exact calm_of_block (by decide) | exact calm_portBlock _ _) only [State.updSafety_keeps, State.commandOn_keeps, State.commandOff_keeps, keeps_flash] | with_reducible apply keeps_ite | (with_reducible refine keeps_foldl _ ?_ ?_; (first | (rintro t ⟨_, _⟩) | intro t _)) | split)

theorem State.overcurrent_keeps (c : covers [.logs, .outputs, .meas, .faults, .pins] G = true) (x1) :
    Keeps G s (u.overcurrent x1) ↔ Keeps G s u := by
  refine keeps_iff (F := [.logs, .outputs, .meas, .faults, .pins]) ?_ c
  unfold State.overcurrent
  repeat' (first | with_reducible exact Keeps.refl _ _ | with_reducible assumption | simp (disch := first | decide | exact calm_of_block (by decide) | exact calm_portBlock _ _) only [State.fenceChan_keeps, State.raise_keeps, State.raise_keeps_calm, State.updChan_keeps, State.ruleOff_keeps, keeps_flash] | with_reducible apply keeps_ite | (with_reducible refine keeps_foldl _ ?_ ?_; (first | (rintro t ⟨_, _⟩) | intro t _)) | split)

theorem State.dipChan_keeps (c : covers [.logs, .outputs, .meas, .faults, .pins] G = true) (x1) :
    Keeps G s (u.dipChan x1) ↔ Keeps G s u := by
  refine keeps_iff (F := [.logs, .outputs, .meas, .faults, .pins]) ?_ c
  unfold State.dipChan
  repeat' (first | with_reducible exact Keeps.refl _ _ | with_reducible assumption | simp (disch := first | decide | exact calm_of_block (by decide) | exact calm_portBlock _ _) only [State.raise_keeps, State.raise_keeps_calm, State.ruleOff_keeps, keeps_flash] | with_reducible apply keeps_ite | (with_reducible refine keeps_foldl _ ?_ ?_; (first | (rintro t ⟨_, _⟩) | intro t _)) | split)

theorem State.allChannelsOff_keeps (c : covers [.logs, .outputs, .meas] G = true) (x1) :
    Keeps G s (u.allChannelsOff x1) ↔ Keeps G s u := by
  refine keeps_iff (F := [.logs, .outputs, .meas]) ?_ c
  unfold State.allChannelsOff
  repeat' (first | with_reducible exact Keeps.refl _ _ | with_reducible assumption | simp (disch := first | decide | exact calm_of_block (by decide) | exact calm_portBlock _ _) only [State.commandOff_keeps, State.ruleOff_keeps, keeps_flash] | with_reducible apply keeps_ite | (with_reducible refine keeps_foldl _ ?_ ?_; (first | (rintro t ⟨_, _⟩) | intro t _)) | split)

theorem State.restartHeld_keeps (c : covers [.outputs, .meas] G = true) :
    Keeps G s (u.restartHeld) ↔ Keeps G s u := by
  refine keeps_iff (F := [.outputs, .meas]) ?_ c
  unfold State.restartHeld
  repeat' (first | with_reducible exact Keeps.refl _ _ | with_reducible assumption | simp (disch := first | decide | exact calm_of_block (by decide) | exact calm_portBlock _ _) only [State.updChan_keeps, State.settle_keeps, keeps_flash] | with_reducible apply keeps_ite | (with_reducible refine keeps_foldl _ ?_ ?_; (first | (rintro t ⟨_, _⟩) | intro t _)) | split)

theorem State.restartAfterLowest_keeps (c : covers [.logs, .outputs, .meas] G = true) :
    Keeps G s (u.restartAfterLowest) ↔ Keeps G s u := by
  refine keeps_iff (F := [.logs, .outputs, .meas]) ?_ c
  unfold State.restartAfterLowest
  repeat' (first | with_reducible exact Keeps.refl _ _ | with_reducible assumption | simp (disch := first | decide | exact calm_of_block (by decide) | exact calm_portBlock _ _) only [State.gateOn_keeps, keeps_flash] | with_reducible apply keeps_ite | (with_reducible refine keeps_foldl _ ?_ ?_; (first | (rintro t ⟨_, _⟩) | intro t _)) | split)

theorem State.drive_keeps (c : covers [.outputs, .meas, .logs] G = true) (x1 x2) :
    Keeps G s (u.drive x1 x2) ↔ Keeps G s u := by
  refine keeps_iff (F := [.outputs, .meas, .logs]) ?_ c
  unfold State.drive
  repeat' (first | with_reducible exact Keeps.refl _ _ | with_reducible assumption | simp (disch := first | decide | exact calm_of_block (by decide) | exact calm_portBlock _ _) only [State.commandOn_keeps, State.commandOff_keeps, keeps_flash] | with_reducible apply keeps_ite | (with_reducible refine keeps_foldl _ ?_ ?_; (first | (rintro t ⟨_, _⟩) | intro t _)) | split)

theorem State.lamps_keeps (c : covers [.outputs, .meas, .logs] G = true) :
    Keeps G s (u.lamps) ↔ Keeps G s u := by
  refine keeps_iff (F := [.outputs, .meas, .logs]) ?_ c
  unfold State.lamps
  repeat' (first | with_reducible exact Keeps.refl _ _ | with_reducible assumption | simp (disch := first | decide | exact calm_of_block (by decide) | exact calm_portBlock _ _) only [State.drive_keeps, keeps_flash] | with_reducible apply keeps_ite | (with_reducible refine keeps_foldl _ ?_ ?_; (first | (rintro t ⟨_, _⟩) | intro t _)) | split)

theorem State.heating_keeps (c : covers [.outputs, .meas, .logs] G = true) :
    Keeps G s (u.heating) ↔ Keeps G s u := by
  refine keeps_iff (F := [.outputs, .meas, .logs]) ?_ c
  unfold State.heating
  repeat' (first | with_reducible exact Keeps.refl _ _ | with_reducible assumption | simp (disch := first | decide | exact calm_of_block (by decide) | exact calm_portBlock _ _) only [State.drive_keeps, State.updOutputs_keeps, keeps_flash] | with_reducible apply keeps_ite | (with_reducible refine keeps_foldl _ ?_ ?_; (first | (rintro t ⟨_, _⟩) | intro t _)) | split)

/-! ### FanDrive -/

theorem State.fanBoundary_keeps (c : covers [.fan] G = true) :
    Keeps G s (u.fanBoundary) ↔ Keeps G s u := by
  refine keeps_iff (F := [.fan]) ?_ c
  unfold State.fanBoundary
  repeat' (first | with_reducible exact Keeps.refl _ _ | with_reducible assumption | simp (disch := first | decide | exact calm_of_block (by decide) | exact calm_portBlock _ _) only [State.updFan_keeps, keeps_flash] | with_reducible apply keeps_ite | (with_reducible refine keeps_foldl _ ?_ ?_; (first | (rintro t ⟨_, _⟩) | intro t _)) | split)

theorem State.freezeFan_keeps (c : covers [.dev, .fan] G = true) :
    Keeps G s (u.freezeFan) ↔ Keeps G s u := by
  refine keeps_iff (F := [.dev, .fan]) ?_ c
  unfold State.freezeFan
  repeat' (first | with_reducible exact Keeps.refl _ _ | with_reducible assumption | simp (disch := first | decide | exact calm_of_block (by decide) | exact calm_portBlock _ _) only [State.drawWord_keeps, State.updFan_keeps, keeps_flash] | with_reducible apply keeps_ite | (with_reducible refine keeps_foldl _ ?_ ?_; (first | (rintro t ⟨_, _⟩) | intro t _)) | split)

theorem State.thawFan_keeps (c : covers [.fan] G = true) :
    Keeps G s (u.thawFan) ↔ Keeps G s u := by
  refine keeps_iff (F := [.fan]) ?_ c
  unfold State.thawFan
  repeat' (first | with_reducible exact Keeps.refl _ _ | with_reducible assumption | simp (disch := first | decide | exact calm_of_block (by decide) | exact calm_portBlock _ _) only [State.updFan_keeps, keeps_flash] | with_reducible apply keeps_ite | (with_reducible refine keeps_foldl _ ?_ ?_; (first | (rintro t ⟨_, _⟩) | intro t _)) | split)

theorem State.fanCoreLost_keeps (c : covers [.fan] G = true) :
    Keeps G s (u.fanCoreLost) ↔ Keeps G s u := by
  refine keeps_iff (F := [.fan]) ?_ c
  unfold State.fanCoreLost
  repeat' (first | with_reducible exact Keeps.refl _ _ | with_reducible assumption | simp (disch := first | decide | exact calm_of_block (by decide) | exact calm_portBlock _ _) only [State.updFan_keeps, keeps_flash] | with_reducible apply keeps_ite | (with_reducible refine keeps_foldl _ ?_ ?_; (first | (rintro t ⟨_, _⟩) | intro t _)) | split)

/-! ### Logs -/

theorem State.advanceSlot_keeps (c : covers [.logs, .keeper] G = true) :
    Keeps G s (u.advanceSlot) ↔ Keeps G s u := by
  refine keeps_iff (F := [.logs, .keeper]) ?_ c
  unfold State.advanceSlot
  repeat' (first | with_reducible exact Keeps.refl _ _ | with_reducible assumption | simp (disch := first | decide | exact calm_of_block (by decide) | exact calm_portBlock _ _) only [State.updKeeper_keeps, State.updLogs_keeps, keeps_flash] | with_reducible apply keeps_ite | (with_reducible refine keeps_foldl _ ?_ ?_; (first | (rintro t ⟨_, _⟩) | intro t _)) | split)

theorem State.putRecord_keeps (c : covers [.flash, .keeper, .logs] G = true) (x1) :
    Keeps G s (u.putRecord x1) ↔ Keeps G s u := by
  refine keeps_iff (F := [.flash, .keeper, .logs]) ?_ c
  unfold State.putRecord
  repeat' (first | with_reducible exact Keeps.refl _ _ | with_reducible assumption | simp (disch := first | decide | exact calm_of_block (by decide) | exact calm_portBlock _ _) only [State.advanceSlot_keeps, State.updKeeper_keeps, keeps_flash] | with_reducible apply keeps_ite | (with_reducible refine keeps_foldl _ ?_ ?_; (first | (rintro t ⟨_, _⟩) | intro t _)) | split)

theorem State.spoilSlot_keeps (c : covers [.flash, .dev, .logs, .keeper] G = true) :
    Keeps G s (u.spoilSlot) ↔ Keeps G s u := by
  refine keeps_iff (F := [.flash, .dev, .logs, .keeper]) ?_ c
  unfold State.spoilSlot
  repeat' (first | with_reducible exact Keeps.refl _ _ | with_reducible assumption | simp (disch := first | decide | exact calm_of_block (by decide) | exact calm_portBlock _ _) only [State.advanceSlot_keeps, State.updDev_keeps, keeps_flash] | with_reducible apply keeps_ite | (with_reducible refine keeps_foldl _ ?_ ?_; (first | (rintro t ⟨_, _⟩) | intro t _)) | split)

theorem State.popRecord_keeps (c : covers [.logs] G = true) :
    Keeps G s (u.popRecord) ↔ Keeps G s u := by
  refine keeps_iff (F := [.logs]) ?_ c
  unfold State.popRecord
  repeat' (first | with_reducible exact Keeps.refl _ _ | with_reducible assumption | simp (disch := first | decide | exact calm_of_block (by decide) | exact calm_portBlock _ _) only [State.updLogs_keeps, State.pushLog_keeps, keeps_flash] | with_reducible apply keeps_ite | (with_reducible refine keeps_foldl _ ?_ ?_; (first | (rintro t ⟨_, _⟩) | intro t _)) | split)

theorem State.eraseSpare_keeps (c : covers [.flash, .logs, .nv] G = true) :
    Keeps G s (u.eraseSpare) ↔ Keeps G s u := by
  refine keeps_iff (F := [.flash, .logs, .nv]) ?_ c
  unfold State.eraseSpare
  repeat' (first | with_reducible exact Keeps.refl _ _ | with_reducible assumption | simp (disch := first | decide | exact calm_of_block (by decide) | exact calm_portBlock _ _) only [State.updNv_keeps, State.updLogs_keeps, keeps_flash] | with_reducible apply keeps_ite | (with_reducible refine keeps_foldl _ ?_ ?_; (first | (rintro t ⟨_, _⟩) | intro t _)) | split)

theorem State.flushLog_keeps (c : covers [.logs, .flash, .keeper, .nv] G = true) (n) :
    Keeps G s (State.flushLog n u) ↔ Keeps G s u := by
  induction n generalizing u with
  | zero => exact Iff.rfl
  | succ n ih =>
    unfold State.flushLog
    split
    · exact Iff.rfl
    · dsimp only
      rw [ih]
      split
      · rw [State.eraseSpare_keeps (covers_trans (by decide) c), State.putRecord_keeps (covers_trans (by decide) c),
          State.popRecord_keeps (covers_trans (by decide) c)]
      · rw [State.putRecord_keeps (covers_trans (by decide) c), State.popRecord_keeps (covers_trans (by decide) c)]

theorem State.skipTorn_keeps (c : covers [.logs, .keeper] G = true) (n) :
    Keeps G s (State.skipTorn n u) ↔ Keeps G s u := by
  induction n generalizing u with
  | zero => exact Iff.rfl
  | succ n ih =>
    unfold State.skipTorn
    dsimp only
    split
    · exact Iff.rfl
    · rw [ih, State.updKeeper_keeps (covers_trans (by decide) c), State.updLogs_keeps (covers_trans (by decide) c)]

theorem State.bootLog_keeps (c : covers [.keeper, .logs, .flash, .nv] G = true) :
    Keeps G s (u.bootLog) ↔ Keeps G s u := by
  refine keeps_iff (F := [.keeper, .logs, .flash, .nv]) ?_ c
  unfold State.bootLog
  repeat' (first | with_reducible exact Keeps.refl _ _ | with_reducible assumption | simp (disch := first | decide | exact calm_of_block (by decide) | exact calm_portBlock _ _) only [State.updKeeper_keeps, State.eraseSpare_keeps, State.skipTorn_keeps, keeps_flash] | with_reducible apply keeps_ite | (with_reducible refine keeps_foldl _ ?_ ?_; (first | (rintro t ⟨_, _⟩) | intro t _)) | split)

theorem State.logCounts_keeps (c : covers [.logs] G = true) :
    Keeps G s (u.logCounts) ↔ Keeps G s u := by
  refine keeps_iff (F := [.logs]) ?_ c
  unfold State.logCounts
  repeat' (first | with_reducible exact Keeps.refl _ _ | with_reducible assumption | simp (disch := first | decide | exact calm_of_block (by decide) | exact calm_portBlock _ _) only [State.log_keeps, keeps_flash] | with_reducible apply keeps_ite | (with_reducible refine keeps_foldl _ ?_ ?_; (first | (rintro t ⟨_, _⟩) | intro t _)) | split)

theorem State.logEnergy_keeps (c : covers [.logs, .nv, .balance] G = true) :
    Keeps G s (u.logEnergy) ↔ Keeps G s u := by
  refine keeps_iff (F := [.logs, .nv, .balance]) ?_ c
  unfold State.logEnergy
  repeat' (first | with_reducible exact Keeps.refl _ _ | with_reducible assumption | simp (disch := first | decide | exact calm_of_block (by decide) | exact calm_portBlock _ _) only [State.log_keeps, State.updBalance_keeps, State.updNv_keeps, keeps_flash] | with_reducible apply keeps_ite | (with_reducible refine keeps_foldl _ ?_ ?_; (first | (rintro t ⟨_, _⟩) | intro t _)) | split)

theorem State.saveDemand_keeps (c : covers [.nv] G = true) :
    Keeps G s (u.saveDemand) ↔ Keeps G s u := by
  refine keeps_iff (F := [.nv]) ?_ c
  unfold State.saveDemand
  repeat' (first | with_reducible exact Keeps.refl _ _ | with_reducible assumption | simp (disch := first | decide | exact calm_of_block (by decide) | exact calm_portBlock _ _) only [State.updNv_keeps, keeps_flash] | with_reducible apply keeps_ite | (with_reducible refine keeps_foldl _ ?_ ?_; (first | (rintro t ⟨_, _⟩) | intro t _)) | split)

theorem State.logTotal_keeps (c : covers [.logs] G = true) (x1 x2) :
    Keeps G s (u.logTotal x1 x2) ↔ Keeps G s u := by
  refine keeps_iff (F := [.logs]) ?_ c
  unfold State.logTotal
  repeat' (first | with_reducible exact Keeps.refl _ _ | with_reducible assumption | simp (disch := first | decide | exact calm_of_block (by decide) | exact calm_portBlock _ _) only [State.log_keeps, keeps_flash] | with_reducible apply keeps_ite | (with_reducible refine keeps_foldl _ ?_ ?_; (first | (rintro t ⟨_, _⟩) | intro t _)) | split)

theorem State.logTotals_keeps (c : covers [.logs] G = true) :
    Keeps G s (u.logTotals) ↔ Keeps G s u := by
  refine keeps_iff (F := [.logs]) ?_ c
  unfold State.logTotals
  repeat' (first | with_reducible exact Keeps.refl _ _ | with_reducible assumption | simp (disch := first | decide | exact calm_of_block (by decide) | exact calm_portBlock _ _) only [State.logTotal_keeps, keeps_flash] | with_reducible apply keeps_ite | (with_reducible refine keeps_foldl _ ?_ ?_; (first | (rintro t ⟨_, _⟩) | intro t _)) | split)

theorem State.saveServices_keeps (c : covers [.services, .nv] G = true) :
    Keeps G s (u.saveServices) ↔ Keeps G s u := by
  refine keeps_iff (F := [.services, .nv]) ?_ c
  unfold State.saveServices
  repeat' (first | with_reducible exact Keeps.refl _ _ | with_reducible assumption | simp (disch := first | decide | exact calm_of_block (by decide) | exact calm_portBlock _ _) only [State.updNv_keeps, State.updServices_keeps, keeps_flash] | with_reducible apply keeps_ite | (with_reducible refine keeps_foldl _ ?_ ?_; (first | (rintro t ⟨_, _⟩) | intro t _)) | split)

theorem State.logSummary_keeps (c : covers [.logs] G = true) (x1) :
    Keeps G s (u.logSummary x1) ↔ Keeps G s u := by
  refine keeps_iff (F := [.logs]) ?_ c
  unfold State.logSummary
  repeat' (first | with_reducible exact Keeps.refl _ _ | with_reducible assumption | simp (disch := first | decide | exact calm_of_block (by decide) | exact calm_portBlock _ _) only [State.log_keeps, State.updLogs_keeps, keeps_flash] | with_reducible apply keeps_ite | (with_reducible refine keeps_foldl _ ?_ ?_; (first | (rintro t ⟨_, _⟩) | intro t _)) | split)

theorem State.flushTrace_keeps (c : covers [.logs, .flash, .keeper, .nv] G = true) :
    Keeps G s (u.flushTrace) ↔ Keeps G s u := by
  refine keeps_iff (F := [.logs, .flash, .keeper, .nv]) ?_ c
  unfold State.flushTrace
  repeat' (first | with_reducible exact Keeps.refl _ _ | with_reducible assumption | simp (disch := first | decide | exact calm_of_block (by decide) | exact calm_portBlock _ _) only [State.updLogs_keeps, State.flushLog_keeps, keeps_flash] | with_reducible apply keeps_ite | (with_reducible refine keeps_foldl _ ?_ ?_; (first | (rintro t ⟨_, _⟩) | intro t _)) | split)

/-! ### Bist -/

theorem State.takeTurn_keeps (c : covers [.bist] G = true) :
    Keeps G s (u.takeTurn) ↔ Keeps G s u := by
  refine keeps_iff (F := [.bist]) ?_ c
  unfold State.takeTurn
  repeat' (first | with_reducible exact Keeps.refl _ _ | with_reducible assumption | simp (disch := first | decide | exact calm_of_block (by decide) | exact calm_portBlock _ _) only [State.updBist_keeps, keeps_flash] | with_reducible apply keeps_ite | (with_reducible refine keeps_foldl _ ?_ ?_; (first | (rintro t ⟨_, _⟩) | intro t _)) | split)

theorem State.segmentEffect_keeps (c : covers [.balance] G = true) :
    Keeps G s (u.segmentEffect) ↔ Keeps G s u := by
  refine keeps_iff (F := [.balance]) ?_ c
  unfold State.segmentEffect
  repeat' (first | with_reducible exact Keeps.refl _ _ | with_reducible assumption | simp (disch := first | decide | exact calm_of_block (by decide) | exact calm_portBlock _ _) only [State.updBalance_keeps, keeps_flash] | with_reducible apply keeps_ite | (with_reducible refine keeps_foldl _ ?_ ?_; (first | (rintro t ⟨_, _⟩) | intro t _)) | split)

theorem State.segmentRestore_keeps (c : covers [.balance] G = true) :
    Keeps G s (u.segmentRestore) ↔ Keeps G s u := by
  refine keeps_iff (F := [.balance]) ?_ c
  unfold State.segmentRestore
  repeat' (first | with_reducible exact Keeps.refl _ _ | with_reducible assumption | simp (disch := first | decide | exact calm_of_block (by decide) | exact calm_portBlock _ _) only [State.updBalance_keeps, keeps_flash] | with_reducible apply keeps_ite | (with_reducible refine keeps_foldl _ ?_ ?_; (first | (rintro t ⟨_, _⟩) | intro t _)) | split)

theorem State.abandonSegment_keeps (c : covers [.balance, .bist, .faults, .logs, .pins] G = true) :
    Keeps G s (u.abandonSegment) ↔ Keeps G s u := by
  refine keeps_iff (F := [.balance, .bist, .faults, .logs, .pins]) ?_ c
  unfold State.abandonSegment
  repeat' (first | with_reducible exact Keeps.refl _ _ | with_reducible assumption | simp (disch := first | decide | exact calm_of_block (by decide) | exact calm_portBlock _ _) only [State.raise_keeps, State.raise_keeps_calm, State.updBist_keeps, State.segmentRestore_keeps, keeps_flash] | with_reducible apply keeps_ite | (with_reducible refine keeps_foldl _ ?_ ?_; (first | (rintro t ⟨_, _⟩) | intro t _)) | split)

theorem State.coreGone_keeps (c : covers [.dev, .services, .logs, .outputs, .meas, .pins, .fan] G = true) :
    Keeps G s (u.coreGone) ↔ Keeps G s u := by
  refine keeps_iff (F := [.dev, .services, .logs, .outputs, .meas, .pins, .fan]) ?_ c
  unfold State.coreGone
  repeat' (first | with_reducible exact Keeps.refl _ _ | with_reducible assumption | simp (disch := first | decide | exact calm_of_block (by decide) | exact calm_portBlock _ _) only [State.updDev_keeps, State.coreLost_keeps, State.fanCoreLost_keeps, State.updOutputs_keeps, State.commandOff_keeps, keeps_flash] | with_reducible apply keeps_ite | (with_reducible refine keeps_foldl _ ?_ ?_; (first | (rintro t ⟨_, _⟩) | intro t _)) | split)

theorem State.fenceSlice_keeps (c : covers [.bist, .balance, .logs, .faults, .pins, .outputs, .meas, .fan, .dev, .services, .vehicle] G = true) (x1) :
    Keeps G s (u.fenceSlice x1) ↔ Keeps G s u := by
  refine keeps_iff (F := [.bist, .balance, .logs, .faults, .pins, .outputs, .meas, .fan, .dev, .services, .vehicle]) ?_ c
  unfold State.fenceSlice
  repeat' (first | with_reducible exact Keeps.refl _ _ | with_reducible assumption | simp (disch := first | decide | exact calm_of_block (by decide) | exact calm_portBlock _ _) only [State.updBist_keeps, State.endJobs_keeps, State.updBalance_keeps, State.fenceChan_keeps, State.updFan_keeps, State.coreGone_keeps, State.updVehicle_keeps, keeps_flash] | with_reducible apply keeps_ite | (with_reducible refine keeps_foldl _ ?_ ?_; (first | (rintro t ⟨_, _⟩) | intro t _)) | split)

theorem State.sliceDone_keeps (c : covers [.bist] G = true) :
    Keeps G s (u.sliceDone) ↔ Keeps G s u := by
  refine keeps_iff (F := [.bist]) ?_ c
  unfold State.sliceDone
  repeat' (first | with_reducible exact Keeps.refl _ _ | with_reducible assumption | simp (disch := first | decide | exact calm_of_block (by decide) | exact calm_portBlock _ _) only [State.updBist_keeps, keeps_flash] | with_reducible apply keeps_ite | (with_reducible refine keeps_foldl _ ?_ ?_; (first | (rintro t ⟨_, _⟩) | intro t _)) | split)

theorem State.bankResult_keeps (c : covers [.faults, .logs, .pins, .dev] G = true) (x1 x2) :
    Keeps G s (u.bankResult x1 x2) ↔ Keeps G s u := by
  refine keeps_iff (F := [.faults, .logs, .pins, .dev]) ?_ c
  unfold State.bankResult
  repeat' (first | with_reducible exact Keeps.refl _ _ | with_reducible assumption | simp (disch := first | decide | exact calm_of_block (by decide) | exact calm_portBlock _ _) only [State.raise_keeps, State.raise_keeps_calm, State.updDev_keeps, keeps_flash] | with_reducible apply keeps_ite | (with_reducible refine keeps_foldl _ ?_ ?_; (first | (rintro t ⟨_, _⟩) | intro t _)) | split)

theorem State.bufferResult_keeps (c : covers [.portN, .portS, .faults, .logs, .pins] G = true) (x1 x2) :
    Keeps G s (u.bufferResult x1 x2) ↔ Keeps G s u := by
  refine keeps_iff (F := [.portN, .portS, .faults, .logs, .pins]) ?_ c
  unfold State.bufferResult
  repeat' (first | with_reducible exact Keeps.refl _ _ | with_reducible assumption | simp (disch := first | decide | exact calm_of_block (by decide) | exact calm_portBlock _ _) only [State.raise_keeps, State.raise_keeps_calm, State.updPort_keeps, keeps_flash] | with_reducible apply keeps_ite | (with_reducible refine keeps_foldl _ ?_ ?_; (first | (rintro t ⟨_, _⟩) | intro t _)) | split)

theorem State.abandonTest_keeps (c : covers [.keeper, .dev, .straps, .meas, .probes, .clocks, .portN, .portS, .ring, .dealer, .services, .balance, .outputs, .fan, .supply, .safety, .vehicle, .pins, .logs, .service, .bist, .faults] G = true) :
    Keeps G s (u.abandonTest) ↔ Keeps G s u := by
  refine keeps_iff (F := [.keeper, .dev, .straps, .meas, .probes, .clocks, .portN, .portS, .ring, .dealer, .services, .balance, .outputs, .fan, .supply, .safety, .vehicle, .pins, .logs, .service, .bist, .faults]) ?_ c
  unfold State.abandonTest
  repeat' (first | with_reducible exact Keeps.refl _ _ | with_reducible assumption | simp (disch := first | decide | exact calm_of_block (by decide) | exact calm_portBlock _ _) only [State.resetDomains_keeps, State.updKeeper_keeps, keeps_flash] | with_reducible apply keeps_ite | (with_reducible refine keeps_foldl _ ?_ ?_; (first | (rintro t ⟨_, _⟩) | intro t _)) | split)

theorem State.beginTest_keeps (c : covers [.balance, .bist, .faults, .logs, .pins, .outputs, .meas, .dev, .dealer, .clocks, .keeper, .straps, .probes, .portN, .portS, .ring, .services, .fan, .supply, .safety, .vehicle, .service] G = true) (x1) :
    Keeps G s (u.beginTest x1) ↔ Keeps G s u := by
  refine keeps_iff (F := [.balance, .bist, .faults, .logs, .pins, .outputs, .meas, .dev, .dealer, .clocks, .keeper, .straps, .probes, .portN, .portS, .ring, .services, .fan, .supply, .safety, .vehicle, .service]) ?_ c
  unfold State.beginTest
  repeat' (first | with_reducible exact Keeps.refl _ _ | with_reducible assumption | simp (disch := first | decide | exact calm_of_block (by decide) | exact calm_portBlock _ _) only [State.abandonSegment_keeps, State.commandOff_keeps, State.updBalance_keeps, State.endJobs_keeps, State.updDev_keeps, State.updBist_keeps, State.updPins_keeps, State.updDealer_keeps, State.updClocks_keeps, State.abandonTest_keeps, keeps_flash] | with_reducible apply keeps_ite | (with_reducible refine keeps_foldl _ ?_ ?_; (first | (rintro t ⟨_, _⟩) | intro t _)) | split)

/-! ### Faults -/

theorem State.fenceCore_keeps (c : covers [.dev, .services, .logs, .outputs, .meas, .pins, .fan, .faults, .balance, .portN, .portS, .keeper, .vehicle, .ring] G = true) (x1 x2) :
    Keeps G s (u.fenceCore x1 x2) ↔ Keeps G s u := by
  refine keeps_iff (F := [.dev, .services, .logs, .outputs, .meas, .pins, .fan, .faults, .balance, .portN, .portS, .keeper, .vehicle, .ring]) ?_ c
  unfold State.fenceCore
  repeat' (first | with_reducible exact Keeps.refl _ _ | with_reducible assumption | simp (disch := first | decide | exact calm_of_block (by decide) | exact calm_portBlock _ _) only [State.raise_keeps, State.raise_keeps_calm, State.coreGone_keeps, keeps_flash] | with_reducible apply keeps_ite | (with_reducible refine keeps_foldl _ ?_ ?_; (first | (rintro t ⟨_, _⟩) | intro t _)) | split)

theorem State.endReactions_keeps (c : covers [.logs, .faults] G = true) :
    Keeps G s (u.endReactions) ↔ Keeps G s u := by
  refine keeps_iff (F := [.logs, .faults]) ?_ c
  unfold State.endReactions
  repeat' (first | with_reducible exact Keeps.refl _ _ | with_reducible assumption | simp (disch := first | decide | exact calm_of_block (by decide) | exact calm_portBlock _ _) only [State.endReaction_keeps, keeps_flash] | with_reducible apply keeps_ite | (with_reducible refine keeps_foldl _ ?_ ?_; (first | (rintro t ⟨_, _⟩) | intro t _)) | split)

theorem State.endAllReactions_keeps (c : covers [.logs, .faults] G = true) :
    Keeps G s (u.endAllReactions) ↔ Keeps G s u := by
  refine keeps_iff (F := [.logs, .faults]) ?_ c
  unfold State.endAllReactions
  repeat' (first | with_reducible exact Keeps.refl _ _ | with_reducible assumption | simp (disch := first | decide | exact calm_of_block (by decide) | exact calm_portBlock _ _) only [State.endReaction_keeps, keeps_flash] | with_reducible apply keeps_ite | (with_reducible refine keeps_foldl _ ?_ ?_; (first | (rintro t ⟨_, _⟩) | intro t _)) | split)

/-! ### Images -/

theorem State.logImage_keeps (c : covers [.logs] G = true) (x1 x2) :
    Keeps G s (u.logImage x1 x2) ↔ Keeps G s u := by
  refine keeps_iff (F := [.logs]) ?_ c
  unfold State.logImage
  repeat' (first | with_reducible exact Keeps.refl _ _ | with_reducible assumption | simp (disch := first | decide | exact calm_of_block (by decide) | exact calm_portBlock _ _) only [State.log_keeps, keeps_flash] | with_reducible apply keeps_ite | (with_reducible refine keeps_foldl _ ?_ ?_; (first | (rintro t ⟨_, _⟩) | intro t _)) | split)

/-! ### Power -/

theorem State.powerDown_keeps (c : covers [.dev, .keeper, .straps, .meas, .probes, .clocks, .portN, .portS, .ring, .dealer, .services, .balance, .outputs, .fan, .supply, .safety, .vehicle, .pins, .logs, .service, .bist, .faults] G = true) (x1) :
    Keeps G s (u.powerDown x1) ↔ Keeps G s u := by
  refine keeps_iff (F := [.dev, .keeper, .straps, .meas, .probes, .clocks, .portN, .portS, .ring, .dealer, .services, .balance, .outputs, .fan, .supply, .safety, .vehicle, .pins, .logs, .service, .bist, .faults]) ?_ c
  unfold State.powerDown
  repeat' (first | with_reducible exact Keeps.refl _ _ | with_reducible assumption | simp (disch := first | decide | exact calm_of_block (by decide) | exact calm_portBlock _ _) only [State.resetDomains_keeps, State.updDev_keeps, State.updPins_keeps, State.updSupply_keeps, keeps_flash] | with_reducible apply keeps_ite | (with_reducible refine keeps_foldl _ ?_ ?_; (first | (rintro t ⟨_, _⟩) | intro t _)) | split)

theorem State.beginBoot_keeps (c : covers [.supply, .dev, .keeper, .straps, .meas, .probes, .clocks, .portN, .portS, .ring, .dealer, .services, .balance, .outputs, .fan, .safety, .vehicle, .pins, .logs, .service, .bist, .faults] G = true) (x1) :
    Keeps G s (u.beginBoot x1) ↔ Keeps G s u := by
  refine keeps_iff (F := [.supply, .dev, .keeper, .straps, .meas, .probes, .clocks, .portN, .portS, .ring, .dealer, .services, .balance, .outputs, .fan, .safety, .vehicle, .pins, .logs, .service, .bist, .faults]) ?_ c
  unfold State.beginBoot
  repeat' (first | with_reducible exact Keeps.refl _ _ | with_reducible assumption | simp (disch := first | decide | exact calm_of_block (by decide) | exact calm_portBlock _ _) only [State.updSupply_keeps, State.resetDomains_keeps, keeps_flash] | with_reducible apply keeps_ite | (with_reducible refine keeps_foldl _ ?_ ?_; (first | (rintro t ⟨_, _⟩) | intro t _)) | split)

theorem State.relayCarrier_keeps (c : covers [.portN, .portS] G = true) (x1 x2) :
    Keeps G s (u.relayCarrier x1 x2) ↔ Keeps G s u := by
  refine keeps_iff (F := [.portN, .portS]) ?_ c
  unfold State.relayCarrier
  repeat' (first | with_reducible exact Keeps.refl _ _ | with_reducible assumption | simp (disch := first | decide | exact calm_of_block (by decide) | exact calm_portBlock _ _) only [State.updPort_keeps, keeps_flash] | with_reducible apply keeps_ite | (with_reducible refine keeps_foldl _ ?_ ?_; (first | (rintro t ⟨_, _⟩) | intro t _)) | split)

theorem State.enterLifeline_keeps (c : covers [.dev, .keeper, .straps, .meas, .probes, .clocks, .portN, .portS, .ring, .dealer, .services, .balance, .outputs, .fan, .supply, .safety, .vehicle, .pins, .logs, .service, .bist, .faults, .life] G = true) :
    Keeps G s (u.enterLifeline) ↔ Keeps G s u := by
  refine keeps_iff (F := [.dev, .keeper, .straps, .meas, .probes, .clocks, .portN, .portS, .ring, .dealer, .services, .balance, .outputs, .fan, .supply, .safety, .vehicle, .pins, .logs, .service, .bist, .faults, .life]) ?_ c
  unfold State.enterLifeline
  repeat' (first | with_reducible exact Keeps.refl _ _ | with_reducible assumption | simp (disch := first | decide | exact calm_of_block (by decide) | exact calm_portBlock _ _) only [State.powerDown_keeps, State.updLife_keeps, keeps_flash] | with_reducible apply keeps_ite | (with_reducible refine keeps_foldl _ ?_ ?_; (first | (rintro t ⟨_, _⟩) | intro t _)) | split)

theorem State.wake_keeps (c : covers [.supply, .dev, .keeper, .straps, .meas, .probes, .clocks, .portN, .portS, .ring, .dealer, .services, .balance, .outputs, .fan, .safety, .vehicle, .pins, .logs, .service, .bist, .faults, .life] G = true) (x1) :
    Keeps G s (u.wake x1) ↔ Keeps G s u := by
  refine keeps_iff (F := [.supply, .dev, .keeper, .straps, .meas, .probes, .clocks, .portN, .portS, .ring, .dealer, .services, .balance, .outputs, .fan, .safety, .vehicle, .pins, .logs, .service, .bist, .faults, .life]) ?_ c
  unfold State.wake
  repeat' (first | with_reducible exact Keeps.refl _ _ | with_reducible assumption | simp (disch := first | decide | exact calm_of_block (by decide) | exact calm_portBlock _ _) only [State.beginBoot_keeps, State.enterLifeline_keeps, keeps_flash] | with_reducible apply keeps_ite | (with_reducible refine keeps_foldl _ ?_ ?_; (first | (rintro t ⟨_, _⟩) | intro t _)) | split)

theorem State.carrierWake_keeps (c : covers [.supply, .dev, .keeper, .straps, .meas, .probes, .clocks, .portN, .portS, .ring, .dealer, .services, .balance, .outputs, .fan, .safety, .vehicle, .pins, .logs, .service, .bist, .faults, .life] G = true) (x1 x2) :
    Keeps G s (u.carrierWake x1 x2) ↔ Keeps G s u := by
  refine keeps_iff (F := [.supply, .dev, .keeper, .straps, .meas, .probes, .clocks, .portN, .portS, .ring, .dealer, .services, .balance, .outputs, .fan, .safety, .vehicle, .pins, .logs, .service, .bist, .faults, .life]) ?_ c
  unfold State.carrierWake
  repeat' (first | with_reducible exact Keeps.refl _ _ | with_reducible assumption | simp (disch := first | decide | exact calm_of_block (by decide) | exact calm_portBlock _ _) only [State.relayCarrier_keeps, State.beginBoot_keeps, State.enterLifeline_keeps, keeps_flash] | with_reducible apply keeps_ite | (with_reducible refine keeps_foldl _ ?_ ?_; (first | (rintro t ⟨_, _⟩) | intro t _)) | split)

theorem State.bootChecks_keeps (c : covers [.dev, .straps, .faults, .logs, .pins, .outputs, .meas, .balance, .fan, .portN, .portS, .services, .keeper, .vehicle, .ring] G = true) (x1) :
    Keeps G s (u.bootChecks x1) ↔ Keeps G s u := by
  refine keeps_iff (F := [.dev, .straps, .faults, .logs, .pins, .outputs, .meas, .balance, .fan, .portN, .portS, .services, .keeper, .vehicle, .ring]) ?_ c
  unfold State.bootChecks
  repeat' (first | with_reducible exact Keeps.refl _ _ | with_reducible assumption | simp (disch := first | decide | exact calm_of_block (by decide) | exact calm_portBlock _ _) only [State.updStraps_keeps, State.updDev_keeps, State.updKeeper_keeps, State.raise_keeps, State.raise_keeps_calm, keeps_flash] | with_reducible apply keeps_ite | (with_reducible refine keeps_foldl _ ?_ ?_; (first | (rintro t ⟨_, _⟩) | intro t _)) | split)

theorem State.raiseInvalid_keeps (c : covers [.faults, .logs, .pins] G = true) :
    Keeps G s (u.raiseInvalid) ↔ Keeps G s u := by
  refine keeps_iff (F := [.faults, .logs, .pins]) ?_ c
  unfold State.raiseInvalid
  repeat' (first | with_reducible exact Keeps.refl _ _ | with_reducible assumption | simp (disch := first | decide | exact calm_of_block (by decide) | exact calm_portBlock _ _) only [State.raise_keeps, State.raise_keeps_calm, keeps_flash] | with_reducible apply keeps_ite | (with_reducible refine keeps_foldl _ ?_ ?_; (first | (rintro t ⟨_, _⟩) | intro t _)) | split)

theorem State.bootRecords_keeps (c : covers [.logs, .keeper] G = true) (x1) :
    Keeps G s (u.bootRecords x1) ↔ Keeps G s u := by
  refine keeps_iff (F := [.logs, .keeper]) ?_ c
  unfold State.bootRecords
  repeat' (first | with_reducible exact Keeps.refl _ _ | with_reducible assumption | simp (disch := first | decide | exact calm_of_block (by decide) | exact calm_portBlock _ _) only [State.log_keeps, State.trace_keeps, State.updKeeper_keeps, keeps_flash] | with_reducible apply keeps_ite | (with_reducible refine keeps_foldl _ ?_ ?_; (first | (rintro t ⟨_, _⟩) | intro t _)) | split)

theorem State.restoreKeeper_keeps (c : covers [.keeper] G = true) :
    Keeps G s (u.restoreKeeper) ↔ Keeps G s u := by
  refine keeps_iff (F := [.keeper]) ?_ c
  unfold State.restoreKeeper
  repeat' (first | with_reducible exact Keeps.refl _ _ | with_reducible assumption | simp (disch := first | decide | exact calm_of_block (by decide) | exact calm_portBlock _ _) only [State.updKeeper_keeps, keeps_flash] | with_reducible apply keeps_ite | (with_reducible refine keeps_foldl _ ?_ ?_; (first | (rintro t ⟨_, _⟩) | intro t _)) | split)

theorem State.demandPending_keeps (c : covers [.keeper, .nv] G = true) :
    Keeps G s (u.demandPending) ↔ Keeps G s u := by
  refine keeps_iff (F := [.keeper, .nv]) ?_ c
  unfold State.demandPending
  repeat' (first | with_reducible exact Keeps.refl _ _ | with_reducible assumption | simp (disch := first | decide | exact calm_of_block (by decide) | exact calm_portBlock _ _) only [State.saveDemand_keeps, State.updKeeper_keeps, keeps_flash] | with_reducible apply keeps_ite | (with_reducible refine keeps_foldl _ ?_ ?_; (first | (rintro t ⟨_, _⟩) | intro t _)) | split)

theorem State.lockoutCopies_keeps (c : covers [.keeper, .nv, .faults, .logs, .pins] G = true) :
    Keeps G s (u.lockoutCopies) ↔ Keeps G s u := by
  refine keeps_iff (F := [.keeper, .nv, .faults, .logs, .pins]) ?_ c
  unfold State.lockoutCopies
  repeat' (first | with_reducible exact Keeps.refl _ _ | with_reducible assumption | simp (disch := first | decide | exact calm_of_block (by decide) | exact calm_portBlock _ _) only [State.updNv_keeps, State.updKeeper_keeps, State.logLockout_keeps, State.raise_keeps, State.raise_keeps_calm, State.demandPending_keeps, State.lockPin_keeps, keeps_flash] | with_reducible apply keeps_ite | (with_reducible refine keeps_foldl _ ?_ ?_; (first | (rintro t ⟨_, _⟩) | intro t _)) | split)

theorem State.restoreServices_keeps (c : covers [.services] G = true) :
    Keeps G s (u.restoreServices) ↔ Keeps G s u := by
  refine keeps_iff (F := [.services]) ?_ c
  unfold State.restoreServices
  repeat' (first | with_reducible exact Keeps.refl _ _ | with_reducible assumption | simp (disch := first | decide | exact calm_of_block (by decide) | exact calm_portBlock _ _) only [State.updServices_keeps, keeps_flash] | with_reducible apply keeps_ite | (with_reducible refine keeps_foldl _ ?_ ?_; (first | (rintro t ⟨_, _⟩) | intro t _)) | split)

theorem State.startChecks_keeps (c : covers [.faults, .logs, .pins, .straps, .keeper] G = true) (x1 x2) :
    Keeps G s (u.startChecks x1 x2) ↔ Keeps G s u := by
  refine keeps_iff (F := [.faults, .logs, .pins, .straps, .keeper]) ?_ c
  unfold State.startChecks
  repeat' (first | with_reducible exact Keeps.refl _ _ | with_reducible assumption | simp (disch := first | decide | exact calm_of_block (by decide) | exact calm_portBlock _ _) only [State.raiseIf_keeps, State.raiseIf_keeps_calm, State.updStraps_keeps, State.updKeeper_keeps, State.bistFalls_keeps, State.updPins_keeps, keeps_flash] | with_reducible apply keeps_ite | (with_reducible refine keeps_foldl _ ?_ ?_; (first | (rintro t ⟨_, _⟩) | intro t _)) | split)

theorem State.chooseSlot_keeps (c : covers [.keeper, .faults, .logs, .pins, .nv, .dev] G = true) :
    Keeps G s (u.chooseSlot) ↔ Keeps G s u := by
  refine keeps_iff (F := [.keeper, .faults, .logs, .pins, .nv, .dev]) ?_ c
  unfold State.chooseSlot
  repeat' (first | with_reducible exact Keeps.refl _ _ | with_reducible assumption | simp (disch := first | decide | exact calm_of_block (by decide) | exact calm_portBlock _ _) only [State.raise_keeps, State.raise_keeps_calm, State.updKeeper_keeps, State.updNv_keeps, State.updDev_keeps, keeps_flash] | with_reducible apply keeps_ite | (with_reducible refine keeps_foldl _ ?_ ?_; (first | (rintro t ⟨_, _⟩) | intro t _)) | split)

theorem State.imageRecords_keeps (c : covers [.logs] G = true) (x1) :
    Keeps G s (u.imageRecords x1) ↔ Keeps G s u := by
  refine keeps_iff (F := [.logs]) ?_ c
  unfold State.imageRecords
  repeat' (first | with_reducible exact Keeps.refl _ _ | with_reducible assumption | simp (disch := first | decide | exact calm_of_block (by decide) | exact calm_portBlock _ _) only [State.logImage_keeps, keeps_flash] | with_reducible apply keeps_ite | (with_reducible refine keeps_foldl _ ?_ ?_; (first | (rintro t ⟨_, _⟩) | intro t _)) | split)

theorem State.probeRecords_keeps (c : covers [.logs, .nv] G = true) :
    Keeps G s (u.probeRecords) ↔ Keeps G s u := by
  refine keeps_iff (F := [.logs, .nv]) ?_ c
  unfold State.probeRecords
  repeat' (first | with_reducible exact Keeps.refl _ _ | with_reducible assumption | simp (disch := first | decide | exact calm_of_block (by decide) | exact calm_portBlock _ _) only [State.log_keeps, State.updNv_keeps, keeps_flash] | with_reducible apply keeps_ite | (with_reducible refine keeps_foldl _ ?_ ?_; (first | (rintro t ⟨_, _⟩) | intro t _)) | split)

theorem State.beginEntry_keeps (c : covers [.dev, .dealer] G = true) :
    Keeps G s (u.beginEntry) ↔ Keeps G s u := by
  refine keeps_iff (F := [.dev, .dealer]) ?_ c
  unfold State.beginEntry
  repeat' (first | with_reducible exact Keeps.refl _ _ | with_reducible assumption | simp (disch := first | decide | exact calm_of_block (by decide) | exact calm_portBlock _ _) only [State.updDealer_keeps, State.updDev_keeps, keeps_flash] | with_reducible apply keeps_ite | (with_reducible refine keeps_foldl _ ?_ ?_; (first | (rintro t ⟨_, _⟩) | intro t _)) | split)

theorem State.logNow_keeps (c : covers [.logs, .flash, .keeper, .nv] G = true) (x1 x2) :
    Keeps G s (u.logNow x1 x2) ↔ Keeps G s u := by
  refine keeps_iff (F := [.logs, .flash, .keeper, .nv]) ?_ c
  unfold State.logNow
  repeat' (first | with_reducible exact Keeps.refl _ _ | with_reducible assumption | simp (disch := first | decide | exact calm_of_block (by decide) | exact calm_portBlock _ _) only [State.flushLog_keeps, State.log_keeps, keeps_flash] | with_reducible apply keeps_ite | (with_reducible refine keeps_foldl _ ?_ ?_; (first | (rintro t ⟨_, _⟩) | intro t _)) | split)

theorem State.entryRecords_keeps (c : covers [.logs, .faults, .flash, .keeper, .nv, .balance, .services] G = true) (x1) :
    Keeps G s (u.entryRecords x1) ↔ Keeps G s u := by
  refine keeps_iff (F := [.logs, .faults, .flash, .keeper, .nv, .balance, .services]) ?_ c
  unfold State.entryRecords
  repeat' (first | with_reducible exact Keeps.refl _ _ | with_reducible assumption | simp (disch := first | decide | exact calm_of_block (by decide) | exact calm_portBlock _ _) only [State.flushLog_keeps, State.endAllReactions_keeps, State.trace_keeps, State.logNow_keeps, State.saveServices_keeps, State.logSummary_keeps, State.logTotals_keeps, State.saveDemand_keeps, State.logEnergy_keeps, State.flushTrace_keeps, keeps_flash] | with_reducible apply keeps_ite | (with_reducible refine keeps_foldl _ ?_ ?_; (first | (rintro t ⟨_, _⟩) | intro t _)) | split)

theorem State.traceAlert_keeps (c : covers [.logs] G = true) (x1 x2) :
    Keeps G s (u.traceAlert x1 x2) ↔ Keeps G s u := by
  refine keeps_iff (F := [.logs]) ?_ c
  unfold State.traceAlert
  repeat' (first | with_reducible exact Keeps.refl _ _ | with_reducible assumption | simp (disch := first | decide | exact calm_of_block (by decide) | exact calm_portBlock _ _) only [State.trace_keeps, keeps_flash] | with_reducible apply keeps_ite | (with_reducible refine keeps_foldl _ ?_ ?_; (first | (rintro t ⟨_, _⟩) | intro t _)) | split)

theorem State.enterLowest_keeps (c : covers [.supply, .logs, .balance, .faults, .pins, .dev, .fan, .portN, .portS] G = true) (x1) :
    Keeps G s (u.enterLowest x1) ↔ Keeps G s u := by
  refine keeps_iff (F := [.supply, .logs, .balance, .faults, .pins, .dev, .fan, .portN, .portS]) ?_ c
  unfold State.enterLowest
  repeat' (first | with_reducible exact Keeps.refl _ _ | with_reducible assumption | simp (disch := first | decide | exact calm_of_block (by decide) | exact calm_portBlock _ _) only [State.traceAlert_keeps, State.updSupply_keeps, State.updBalance_keeps, State.freezeFan_keeps, State.endJobs_keeps, State.noteReasons_keeps, State.updPort_keeps, keeps_flash] | with_reducible apply keeps_ite | (with_reducible refine keeps_foldl _ ?_ ?_; (first | (rintro t ⟨_, _⟩) | intro t _)) | split)

theorem State.alert_keeps (c : covers [.supply, .faults, .logs, .pins, .balance, .dev, .fan, .portN, .portS] G = true) (x1) :
    Keeps G s (u.alert x1) ↔ Keeps G s u := by
  refine keeps_iff (F := [.supply, .faults, .logs, .pins, .balance, .dev, .fan, .portN, .portS]) ?_ c
  unfold State.alert
  repeat' (first | with_reducible exact Keeps.refl _ _ | with_reducible assumption | simp (disch := first | decide | exact calm_of_block (by decide) | exact calm_portBlock _ _) only [State.enterLowest_keeps, State.raise_keeps, State.raise_keeps_calm, State.updSupply_keeps, keeps_flash] | with_reducible apply keeps_ite | (with_reducible refine keeps_foldl _ ?_ ?_; (first | (rintro t ⟨_, _⟩) | intro t _)) | split)

theorem State.leaveLowest_keeps (c : covers [.supply, .logs, .portN, .portS, .fan, .outputs, .meas] G = true) :
    Keeps G s (u.leaveLowest) ↔ Keeps G s u := by
  refine keeps_iff (F := [.supply, .logs, .portN, .portS, .fan, .outputs, .meas]) ?_ c
  unfold State.leaveLowest
  repeat' (first | with_reducible exact Keeps.refl _ _ | with_reducible assumption | simp (disch := first | decide | exact calm_of_block (by decide) | exact calm_portBlock _ _) only [State.traceAlert_keeps, State.updSupply_keeps, State.restartAfterLowest_keeps, State.thawFan_keeps, State.updPort_keeps, keeps_flash] | with_reducible apply keeps_ite | (with_reducible refine keeps_foldl _ ?_ ?_; (first | (rintro t ⟨_, _⟩) | intro t _)) | split)

/-! ### Measure -/

theorem State.breach_keeps (c : covers [.logs, .outputs, .meas, .services, .pins, .keeper, .nv, .safety, .portN, .portS] G = true) (x1 x2 x3 x4 x5) :
    Keeps G s (u.breach x1 x2 x3 x4 x5) ↔ Keeps G s u := by
  refine keeps_iff (F := [.logs, .outputs, .meas, .services, .pins, .keeper, .nv, .safety, .portN, .portS]) ?_ c
  unfold State.breach
  repeat' (first | with_reducible exact Keeps.refl _ _ | with_reducible assumption | simp (disch := first | decide | exact calm_of_block (by decide) | exact calm_portBlock _ _) only [State.trip_keeps, State.headOpens_keeps, State.sendTrumpWords_keeps, keeps_flash] | with_reducible apply keeps_ite | (with_reducible refine keeps_foldl _ ?_ ?_; (first | (rintro t ⟨_, _⟩) | intro t _)) | split)

theorem State.checkCodes_keeps (c : covers [.logs, .outputs, .meas, .services, .pins, .keeper, .nv, .safety, .portN, .portS] G = true) (x1 x2 x3 x4 x5 x6) :
    Keeps G s (u.checkCodes x1 x2 x3 x4 x5 x6) ↔ Keeps G s u := by
  refine keeps_iff (F := [.logs, .outputs, .meas, .services, .pins, .keeper, .nv, .safety, .portN, .portS]) ?_ c
  unfold State.checkCodes
  repeat' (first | with_reducible exact Keeps.refl _ _ | with_reducible assumption | simp (disch := first | decide | exact calm_of_block (by decide) | exact calm_portBlock _ _) only [State.breach_keeps, keeps_flash] | with_reducible apply keeps_ite | (with_reducible refine keeps_foldl _ ?_ ?_; (first | (rintro t ⟨_, _⟩) | intro t _)) | split)

theorem State.checkCells_keeps (c : covers [.logs, .outputs, .meas, .services, .pins, .keeper, .nv, .safety, .portN, .portS] G = true) :
    Keeps G s (u.checkCells) ↔ Keeps G s u := by
  refine keeps_iff (F := [.logs, .outputs, .meas, .services, .pins, .keeper, .nv, .safety, .portN, .portS]) ?_ c
  unfold State.checkCells
  repeat' (first | with_reducible exact Keeps.refl _ _ | with_reducible assumption | simp (disch := first | decide | exact calm_of_block (by decide) | exact calm_portBlock _ _) only [State.checkCodes_keeps, keeps_flash] | with_reducible apply keeps_ite | (with_reducible refine keeps_foldl _ ?_ ?_; (first | (rintro t ⟨_, _⟩) | intro t _)) | split)

theorem State.checkNtc_keeps (c : covers [.logs, .outputs, .meas, .services, .pins, .keeper, .nv, .safety, .portN, .portS] G = true) :
    Keeps G s (u.checkNtc) ↔ Keeps G s u := by
  refine keeps_iff (F := [.logs, .outputs, .meas, .services, .pins, .keeper, .nv, .safety, .portN, .portS]) ?_ c
  unfold State.checkNtc
  repeat' (first | with_reducible exact Keeps.refl _ _ | with_reducible assumption | simp (disch := first | decide | exact calm_of_block (by decide) | exact calm_portBlock _ _) only [State.checkCodes_keeps, keeps_flash] | with_reducible apply keeps_ite | (with_reducible refine keeps_foldl _ ?_ ?_; (first | (rintro t ⟨_, _⟩) | intro t _)) | split)

theorem State.takeCell_keeps (c : covers [.meas, .faults, .logs, .pins] G = true) (x0 x2) :
    Keeps G s (State.takeCell x0 u x2) ↔ Keeps G s u := by
  refine keeps_iff (F := [.meas, .faults, .logs, .pins]) ?_ c
  unfold State.takeCell
  repeat' (first | with_reducible exact Keeps.refl _ _ | with_reducible assumption | simp (disch := first | decide | exact calm_of_block (by decide) | exact calm_portBlock _ _) only [State.updMeas_keeps, State.raiseIf_keeps, State.raiseIf_keeps_calm, keeps_flash] | with_reducible apply keeps_ite | (with_reducible refine keeps_foldl _ ?_ ?_; (first | (rintro t ⟨_, _⟩) | intro t _)) | split)

theorem State.checkRefp_keeps (c : covers [.meas, .faults, .logs, .pins, .dev, .outputs, .balance, .fan, .portN, .portS, .services, .keeper, .vehicle, .ring] G = true) (x1) :
    Keeps G s (u.checkRefp x1) ↔ Keeps G s u := by
  refine keeps_iff (F := [.meas, .faults, .logs, .pins, .dev, .outputs, .balance, .fan, .portN, .portS, .services, .keeper, .vehicle, .ring]) ?_ c
  unfold State.checkRefp
  repeat' (first | with_reducible exact Keeps.refl _ _ | with_reducible assumption | simp (disch := first | decide | exact calm_of_block (by decide) | exact calm_portBlock _ _) only [State.raiseIf_keeps, State.raiseIf_keeps_calm, State.updMeas_keeps, keeps_flash] | with_reducible apply keeps_ite | (with_reducible refine keeps_foldl _ ?_ ?_; (first | (rintro t ⟨_, _⟩) | intro t _)) | split)

theorem State.checkStack_keeps (c : covers [.meas, .faults, .logs, .pins] G = true) :
    Keeps G s (u.checkStack) ↔ Keeps G s u := by
  refine keeps_iff (F := [.meas, .faults, .logs, .pins]) ?_ c
  unfold State.checkStack
  repeat' (first | with_reducible exact Keeps.refl _ _ | with_reducible assumption | simp (disch := first | decide | exact calm_of_block (by decide) | exact calm_portBlock _ _) only [State.raiseIf_keeps, State.raiseIf_keeps_calm, State.updMeas_keeps, keeps_flash] | with_reducible apply keeps_ite | (with_reducible refine keeps_foldl _ ?_ ?_; (first | (rintro t ⟨_, _⟩) | intro t _)) | split)

theorem State.checkDie_keeps (c : covers [.meas, .faults, .logs, .pins] G = true) (x1) :
    Keeps G s (u.checkDie x1) ↔ Keeps G s u := by
  refine keeps_iff (F := [.meas, .faults, .logs, .pins]) ?_ c
  unfold State.checkDie
  repeat' (first | with_reducible exact Keeps.refl _ _ | with_reducible assumption | simp (disch := first | decide | exact calm_of_block (by decide) | exact calm_portBlock _ _) only [State.updMeas_keeps, State.raiseIf_keeps, State.raiseIf_keeps_calm, keeps_flash] | with_reducible apply keeps_ite | (with_reducible refine keeps_foldl _ ?_ ?_; (first | (rintro t ⟨_, _⟩) | intro t _)) | split)

theorem State.releaseComparators_keeps (c : covers [.balance] G = true) (x1) :
    Keeps G s (u.releaseComparators x1) ↔ Keeps G s u := by
  refine keeps_iff (F := [.balance]) ?_ c
  unfold State.releaseComparators
  repeat' (first | with_reducible exact Keeps.refl _ _ | with_reducible assumption | simp (disch := first | decide | exact calm_of_block (by decide) | exact calm_portBlock _ _) only [State.updBalance_keeps, keeps_flash] | with_reducible apply keeps_ite | (with_reducible refine keeps_foldl _ ?_ ?_; (first | (rintro t ⟨_, _⟩) | intro t _)) | split)

theorem State.faultNtc_keeps (c : covers [.meas, .faults, .logs, .pins] G = true) :
    Keeps G s (u.faultNtc) ↔ Keeps G s u := by
  refine keeps_iff (F := [.meas, .faults, .logs, .pins]) ?_ c
  unfold State.faultNtc
  repeat' (first | with_reducible exact Keeps.refl _ _ | with_reducible assumption | simp (disch := first | decide | exact calm_of_block (by decide) | exact calm_portBlock _ _) only [State.raise_keeps, State.raise_keeps_calm, State.updMeas_keeps, keeps_flash] | with_reducible apply keeps_ite | (with_reducible refine keeps_foldl _ ?_ ?_; (first | (rintro t ⟨_, _⟩) | intro t _)) | split)

theorem State.takeCurrent_keeps (c : covers [.meas, .faults, .logs, .pins] G = true) (x1) :
    Keeps G s (u.takeCurrent x1) ↔ Keeps G s u := by
  refine keeps_iff (F := [.meas, .faults, .logs, .pins]) ?_ c
  unfold State.takeCurrent
  repeat' (first | with_reducible exact Keeps.refl _ _ | with_reducible assumption | simp (disch := first | decide | exact calm_of_block (by decide) | exact calm_portBlock _ _) only [State.updMeas_keeps, State.raiseIf_keeps, State.raiseIf_keeps_calm, keeps_flash] | with_reducible apply keeps_ite | (with_reducible refine keeps_foldl _ ?_ ?_; (first | (rintro t ⟨_, _⟩) | intro t _)) | split)

theorem State.meldSent_keeps (c : covers [.balance, .ring] G = true) :
    Keeps G s (u.meldSent) ↔ Keeps G s u := by
  refine keeps_iff (F := [.balance, .ring]) ?_ c
  unfold State.meldSent
  repeat' (first | with_reducible exact Keeps.refl _ _ | with_reducible assumption | simp (disch := first | decide | exact calm_of_block (by decide) | exact calm_portBlock _ _) only [State.updBalance_keeps, State.updRing_keeps, keeps_flash] | with_reducible apply keeps_ite | (with_reducible refine keeps_foldl _ ?_ ?_; (first | (rintro t ⟨_, _⟩) | intro t _)) | split)

theorem State.assemble_keeps (c : covers [.dealer, .balance, .ring, .portN, .portS] G = true) (x1 x2) :
    Keeps G s (u.assemble x1 x2) ↔ Keeps G s u := by
  refine keeps_iff (F := [.dealer, .balance, .ring, .portN, .portS]) ?_ c
  unfold State.assemble
  repeat' (first | with_reducible exact Keeps.refl _ _ | with_reducible assumption | simp (disch := first | decide | exact calm_of_block (by decide) | exact calm_portBlock _ _) only [State.meldSent_keeps, State.updPos_keeps, State.queue_keeps, keeps_flash] | with_reducible apply keeps_ite | (with_reducible refine keeps_foldl _ ?_ ?_; (first | (rintro t ⟨_, _⟩) | intro t _)) | split)

theorem State.legacyMelds_keeps (c : covers [.dealer, .portN, .portS] G = true) :
    Keeps G s (u.legacyMelds) ↔ Keeps G s u := by
  refine keeps_iff (F := [.dealer, .portN, .portS]) ?_ c
  unfold State.legacyMelds
  repeat' (first | with_reducible exact Keeps.refl _ _ | with_reducible assumption | simp (disch := first | decide | exact calm_of_block (by decide) | exact calm_portBlock _ _) only [State.updDealer_keeps, State.queue_keeps, keeps_flash] | with_reducible apply keeps_ite | (with_reducible refine keeps_foldl _ ?_ ?_; (first | (rintro t ⟨_, _⟩) | intro t _)) | split)

theorem State.publishedWord_keeps (c : covers [.dev] G = true) (r w) : Keeps G s (u.publishedWord r w).2 ↔ Keeps G s u := by
  unfold State.publishedWord
  split
  · exact Iff.rfl
  · exact State.drawWord_keeps c

theorem State.takeReadings_keeps (c : covers [.meas, .faults, .logs, .pins, .outputs, .services, .keeper, .nv, .safety, .portN, .portS, .dev, .balance, .fan, .vehicle, .ring] G = true) (x1) :
    Keeps G s (u.takeReadings x1) ↔ Keeps G s u := by
  refine keeps_iff (F := [.meas, .faults, .logs, .pins, .outputs, .services, .keeper, .nv, .safety, .portN, .portS, .dev, .balance, .fan, .vehicle, .ring]) ?_ c
  unfold State.takeReadings
  repeat' (first | with_reducible exact Keeps.refl _ _ | with_reducible assumption | simp (disch := first | decide | exact calm_of_block (by decide) | exact calm_portBlock _ _) only [State.updMeas_keeps, State.takeCell_keeps, State.faultNtc_keeps, State.takeCurrent_keeps, State.checkNtc_keeps, State.checkCells_keeps, State.checkDie_keeps, State.checkRefp_keeps, State.checkStack_keeps, State.releaseComparators_keeps, State.endJobs_keeps, State.updDev_keeps, keeps_flash] | with_reducible apply keeps_ite | (with_reducible refine keeps_foldl _ ?_ ?_; (first | (rintro t ⟨_, _⟩) | intro t _)) | split)

theorem State.afterAperture_keeps (c : covers [.meas, .balance] G = true) :
    Keeps G s (u.afterAperture) ↔ Keeps G s u := by
  refine keeps_iff (F := [.meas, .balance]) ?_ c
  unfold State.afterAperture
  repeat' (first | with_reducible exact Keeps.refl _ _ | with_reducible assumption | simp (disch := first | decide | exact calm_of_block (by decide) | exact calm_portBlock _ _) only [State.updBalance_keeps, State.updMeas_keeps, keeps_flash] | with_reducible apply keeps_ite | (with_reducible refine keeps_foldl _ ?_ ?_; (first | (rintro t ⟨_, _⟩) | intro t _)) | split)

theorem State.wireResult_keeps (c : covers [.meas, .faults, .logs, .pins, .balance] G = true) (x0 x1 x3) :
    Keeps G s (State.wireResult x0 x1 u x3) ↔ Keeps G s u := by
  refine keeps_iff (F := [.meas, .faults, .logs, .pins, .balance]) ?_ c
  unfold State.wireResult
  repeat' (first | with_reducible exact Keeps.refl _ _ | with_reducible assumption | simp (disch := first | decide | exact calm_of_block (by decide) | exact calm_portBlock _ _) only [State.endJobs_keeps, State.raise_keeps, State.raise_keeps_calm, State.updMeas_keeps, keeps_flash] | with_reducible apply keeps_ite | (with_reducible refine keeps_foldl _ ?_ ?_; (first | (rintro t ⟨_, _⟩) | intro t _)) | split)

theorem State.liveRead_keeps (c : covers [.straps, .faults, .logs, .pins] G = true) (x0 x2) :
    Keeps G s (State.liveRead x0 u x2) ↔ Keeps G s u := by
  refine keeps_iff (F := [.straps, .faults, .logs, .pins]) ?_ c
  unfold State.liveRead
  repeat' (first | with_reducible exact Keeps.refl _ _ | with_reducible assumption | simp (disch := first | decide | exact calm_of_block (by decide) | exact calm_portBlock _ _) only [State.updStraps_keeps, State.raiseIf_keeps, State.raiseIf_keeps_calm, State.raise_keeps, State.raise_keeps_calm, keeps_flash] | with_reducible apply keeps_ite | (with_reducible refine keeps_foldl _ ?_ ?_; (first | (rintro t ⟨_, _⟩) | intro t _)) | split)

/-! ### Lifeline -/

theorem State.carrierOut_keeps (c : covers [.portN, .portS] G = true) (x1 x2 x3) :
    Keeps G s (u.carrierOut x1 x2 x3) ↔ Keeps G s u := by
  refine keeps_iff (F := [.portN, .portS]) ?_ c
  unfold State.carrierOut
  repeat' (first | with_reducible exact Keeps.refl _ _ | with_reducible assumption | simp (disch := first | decide | exact calm_of_block (by decide) | exact calm_portBlock _ _) only [State.updPort_keeps, keeps_flash] | with_reducible apply keeps_ite | (with_reducible refine keeps_foldl _ ?_ ?_; (first | (rintro t ⟨_, _⟩) | intro t _)) | split)

theorem State.startFeed_keeps (c : covers [.portN, .portS] G = true) (x1) :
    Keeps G s (u.startFeed x1) ↔ Keeps G s u := by
  refine keeps_iff (F := [.portN, .portS]) ?_ c
  unfold State.startFeed
  repeat' (first | with_reducible exact Keeps.refl _ _ | with_reducible assumption | simp (disch := first | decide | exact calm_of_block (by decide) | exact calm_portBlock _ _) only [State.updPort_keeps, keeps_flash] | with_reducible apply keeps_ite | (with_reducible refine keeps_foldl _ ?_ ?_; (first | (rintro t ⟨_, _⟩) | intro t _)) | split)

theorem State.countUnacked_keeps (c : covers [.life] G = true) :
    Keeps G s (u.countUnacked) ↔ Keeps G s u := by
  refine keeps_iff (F := [.life]) ?_ c
  unfold State.countUnacked
  repeat' (first | with_reducible exact Keeps.refl _ _ | with_reducible assumption | simp (disch := first | decide | exact calm_of_block (by decide) | exact calm_portBlock _ _) only [State.updLife_keeps, keeps_flash] | with_reducible apply keeps_ite | (with_reducible refine keeps_foldl _ ?_ ?_; (first | (rintro t ⟨_, _⟩) | intro t _)) | split)

theorem State.sendReport_keeps (c : covers [.life, .dev, .portN, .portS] G = true) (x1) :
    Keeps G s (u.sendReport x1) ↔ Keeps G s u := by
  refine keeps_iff (F := [.life, .dev, .portN, .portS]) ?_ c
  unfold State.sendReport
  repeat' (first | with_reducible exact Keeps.refl _ _ | with_reducible assumption | simp (disch := first | decide | exact calm_of_block (by decide) | exact calm_portBlock _ _) only [State.countUnacked_keeps, State.drawWord_keeps, State.updLife_keeps, State.updPort_keeps, keeps_flash] | with_reducible apply keeps_ite | (with_reducible refine keeps_foldl _ ?_ ?_; (first | (rintro t ⟨_, _⟩) | intro t _)) | split)

/-! ### Probes -/

theorem State.updSlot_keeps (c : covers [.probes] G = true) (x1 x2) :
    Keeps G s (u.updSlot x1 x2) ↔ Keeps G s u := by
  refine keeps_iff (F := [.probes]) ?_ c
  unfold State.updSlot
  repeat' (first | with_reducible exact Keeps.refl _ _ | with_reducible assumption | simp (disch := first | decide | exact calm_of_block (by decide) | exact calm_portBlock _ _) only [State.updProbes_keeps, keeps_flash] | with_reducible apply keeps_ite | (with_reducible refine keeps_foldl _ ?_ ?_; (first | (rintro t ⟨_, _⟩) | intro t _)) | split)

theorem State.park_keeps (c : covers [.probes, .faults, .logs, .pins] G = true) (x1 x2) :
    Keeps G s (u.park x1 x2) ↔ Keeps G s u := by
  refine keeps_iff (F := [.probes, .faults, .logs, .pins]) ?_ c
  unfold State.park
  repeat' (first | with_reducible exact Keeps.refl _ _ | with_reducible assumption | simp (disch := first | decide | exact calm_of_block (by decide) | exact calm_portBlock _ _) only [State.raise_keeps, State.raise_keeps_calm, State.updProbes_keeps, keeps_flash] | with_reducible apply keeps_ite | (with_reducible refine keeps_foldl _ ?_ ?_; (first | (rintro t ⟨_, _⟩) | intro t _)) | split)

theorem State.probePass_keeps (c : covers [.probes, .faults, .logs, .pins] G = true) (x1) :
    Keeps G s (u.probePass x1) ↔ Keeps G s u := by
  refine keeps_iff (F := [.probes, .faults, .logs, .pins]) ?_ c
  unfold State.probePass
  repeat' (first | with_reducible exact Keeps.refl _ _ | with_reducible assumption | simp (disch := first | decide | exact calm_of_block (by decide) | exact calm_portBlock _ _) only [State.park_keeps, State.updSlot_keeps, State.raise_keeps, State.raise_keeps_calm, keeps_flash] | with_reducible apply keeps_ite | (with_reducible refine keeps_foldl _ ?_ ?_; (first | (rintro t ⟨_, _⟩) | intro t _)) | split)

theorem State.censusMissing_keeps (c : covers [.faults, .logs, .pins] G = true) :
    Keeps G s (u.censusMissing) ↔ Keeps G s u := by
  refine keeps_iff (F := [.faults, .logs, .pins]) ?_ c
  unfold State.censusMissing
  repeat' (first | with_reducible exact Keeps.refl _ _ | with_reducible assumption | simp (disch := first | decide | exact calm_of_block (by decide) | exact calm_portBlock _ _) only [State.raise_keeps, State.raise_keeps_calm, State.raiseIf_keeps, State.raiseIf_keeps_calm, keeps_flash] | with_reducible apply keeps_ite | (with_reducible refine keeps_foldl _ ?_ ?_; (first | (rintro t ⟨_, _⟩) | intro t _)) | split)

theorem State.wireFails_keeps (c : covers [.probes, .faults, .logs, .pins, .nv] G = true) :
    Keeps G s (u.wireFails) ↔ Keeps G s u := by
  refine keeps_iff (F := [.probes, .faults, .logs, .pins, .nv]) ?_ c
  unfold State.wireFails
  repeat' (first | with_reducible exact Keeps.refl _ _ | with_reducible assumption | simp (disch := first | decide | exact calm_of_block (by decide) | exact calm_portBlock _ _) only [State.updProbes_keeps, State.raise_keeps, State.raise_keeps_calm, State.probeRecords_keeps, keeps_flash] | with_reducible apply keeps_ite | (with_reducible refine keeps_foldl _ ?_ ?_; (first | (rintro t ⟨_, _⟩) | intro t _)) | split)

theorem State.endSlot_keeps (c : covers [.probes, .faults, .logs, .pins] G = true) (x1) :
    Keeps G s (u.endSlot x1) ↔ Keeps G s u := by
  refine keeps_iff (F := [.probes, .faults, .logs, .pins]) ?_ c
  unfold State.endSlot
  repeat' (first | with_reducible exact Keeps.refl _ _ | with_reducible assumption | simp (disch := first | decide | exact calm_of_block (by decide) | exact calm_portBlock _ _) only [State.raiseIf_keeps, State.raiseIf_keeps_calm, State.updSlot_keeps, keeps_flash] | with_reducible apply keeps_ite | (with_reducible refine keeps_foldl _ ?_ ?_; (first | (rintro t ⟨_, _⟩) | intro t _)) | split)

theorem State.checkProbes_keeps (c : covers [.logs, .outputs, .meas, .services, .pins, .keeper, .nv, .safety, .portN, .portS] G = true) :
    Keeps G s (u.checkProbes) ↔ Keeps G s u := by
  refine keeps_iff (F := [.logs, .outputs, .meas, .services, .pins, .keeper, .nv, .safety, .portN, .portS]) ?_ c
  unfold State.checkProbes
  repeat' (first | with_reducible exact Keeps.refl _ _ | with_reducible assumption | simp (disch := first | decide | exact calm_of_block (by decide) | exact calm_portBlock _ _) only [State.checkCodes_keeps, keeps_flash] | with_reducible apply keeps_ite | (with_reducible refine keeps_foldl _ ?_ ?_; (first | (rintro t ⟨_, _⟩) | intro t _)) | split)

theorem State.writeRecord_keeps (c : covers [.flash, .keeper, .logs, .nv] G = true) (x1 x2) :
    Keeps G s (u.writeRecord x1 x2) ↔ Keeps G s u := by
  refine keeps_iff (F := [.flash, .keeper, .logs, .nv]) ?_ c
  unfold State.writeRecord
  repeat' (first | with_reducible exact Keeps.refl _ _ | with_reducible assumption | simp (disch := first | decide | exact calm_of_block (by decide) | exact calm_portBlock _ _) only [State.putRecord_keeps, State.eraseSpare_keeps, keeps_flash] | with_reducible apply keeps_ite | (with_reducible refine keeps_foldl _ ?_ ?_; (first | (rintro t ⟨_, _⟩) | intro t _)) | split)

/-! ### L1 -/

theorem State.breachL1_keeps (c : covers [.logs, .outputs, .meas, .services, .pins, .keeper, .nv, .portN, .portS] G = true) (x1 x2 x3 x4 x5 x6) :
    Keeps G s (u.breachL1 x1 x2 x3 x4 x5 x6) ↔ Keeps G s u := by
  refine keeps_iff (F := [.logs, .outputs, .meas, .services, .pins, .keeper, .nv, .portN, .portS]) ?_ c
  unfold State.breachL1
  repeat' (first | with_reducible exact Keeps.refl _ _ | with_reducible assumption | simp (disch := first | decide | exact calm_of_block (by decide) | exact calm_portBlock _ _) only [State.trip_keeps, State.sendTrumpWords_keeps, keeps_flash] | with_reducible apply keeps_ite | (with_reducible refine keeps_foldl _ ?_ ?_; (first | (rintro t ⟨_, _⟩) | intro t _)) | split)

theorem State.checkL1_keeps (c : covers [.logs, .outputs, .meas, .services, .pins, .keeper, .nv, .portN, .portS] G = true) (x1 x2 x3 x4 x5 x6 x7 x8) :
    Keeps G s (u.checkL1 x1 x2 x3 x4 x5 x6 x7 x8) ↔ Keeps G s u := by
  refine keeps_iff (F := [.logs, .outputs, .meas, .services, .pins, .keeper, .nv, .portN, .portS]) ?_ c
  unfold State.checkL1
  repeat' (first | with_reducible exact Keeps.refl _ _ | with_reducible assumption | simp (disch := first | decide | exact calm_of_block (by decide) | exact calm_portBlock _ _) only [State.breachL1_keeps, keeps_flash] | with_reducible apply keeps_ite | (with_reducible refine keeps_foldl _ ?_ ?_; (first | (rintro t ⟨_, _⟩) | intro t _)) | split)

theorem State.checkReply_keeps (c : covers [.logs, .outputs, .meas, .services, .pins, .keeper, .nv, .portN, .portS] G = true) (x1 x2) :
    Keeps G s (u.checkReply x1 x2) ↔ Keeps G s u := by
  refine keeps_iff (F := [.logs, .outputs, .meas, .services, .pins, .keeper, .nv, .portN, .portS]) ?_ c
  unfold State.checkReply
  repeat' (first | with_reducible exact Keeps.refl _ _ | with_reducible assumption | simp (disch := first | decide | exact calm_of_block (by decide) | exact calm_portBlock _ _) only [State.checkL1_keeps, keeps_flash] | with_reducible apply keeps_ite | (with_reducible refine keeps_foldl _ ?_ ?_; (first | (rintro t ⟨_, _⟩) | intro t _)) | split)

/-! ### Sealing -/

theorem State.logSeal_keeps (c : covers [.logs] G = true) (x1 x2 x3 x4) :
    Keeps G s (u.logSeal x1 x2 x3 x4) ↔ Keeps G s u := by
  refine keeps_iff (F := [.logs]) ?_ c
  unfold State.logSeal
  repeat' (first | with_reducible exact Keeps.refl _ _ | with_reducible assumption | simp (disch := first | decide | exact calm_of_block (by decide) | exact calm_portBlock _ _) only [State.log_keeps, keeps_flash] | with_reducible apply keeps_ite | (with_reducible refine keeps_foldl _ ?_ ?_; (first | (rintro t ⟨_, _⟩) | intro t _)) | split)

theorem State.logSealOf_keeps (c : covers [.logs] G = true) (x1 x2) :
    Keeps G s (u.logSealOf x1 x2) ↔ Keeps G s u := by
  refine keeps_iff (F := [.logs]) ?_ c
  unfold State.logSealOf
  repeat' (first | with_reducible exact Keeps.refl _ _ | with_reducible assumption | simp (disch := first | decide | exact calm_of_block (by decide) | exact calm_portBlock _ _) only [State.logSeal_keeps, keeps_flash] | with_reducible apply keeps_ite | (with_reducible refine keeps_foldl _ ?_ ?_; (first | (rintro t ⟨_, _⟩) | intro t _)) | split)

theorem State.writeCensus_keeps (c : covers [.nv, .logs] G = true) :
    Keeps G s (u.writeCensus) ↔ Keeps G s u := by
  refine keeps_iff (F := [.nv, .logs]) ?_ c
  unfold State.writeCensus
  repeat' (first | with_reducible exact Keeps.refl _ _ | with_reducible assumption | simp (disch := first | decide | exact calm_of_block (by decide) | exact calm_portBlock _ _) only [State.logSeal_keeps, State.updNv_keeps, keeps_flash] | with_reducible apply keeps_ite | (with_reducible refine keeps_foldl _ ?_ ?_; (first | (rintro t ⟨_, _⟩) | intro t _)) | split)

theorem State.demandUntilBoot_keeps (c : covers [.keeper, .nv, .safety] G = true) :
    Keeps G s (u.demandUntilBoot) ↔ Keeps G s u := by
  refine keeps_iff (F := [.keeper, .nv, .safety]) ?_ c
  unfold State.demandUntilBoot
  repeat' (first | with_reducible exact Keeps.refl _ _ | with_reducible assumption | simp (disch := first | decide | exact calm_of_block (by decide) | exact calm_portBlock _ _) only [State.updSafety_keeps, State.demandPending_keeps, keeps_flash] | with_reducible apply keeps_ite | (with_reducible refine keeps_foldl _ ?_ ?_; (first | (rintro t ⟨_, _⟩) | intro t _)) | split)

theorem State.commitSeal_keeps (c : covers [.nv, .logs, .dealer, .keeper, .safety] G = true) (x1) :
    Keeps G s (u.commitSeal x1) ↔ Keeps G s u := by
  refine keeps_iff (F := [.nv, .logs, .dealer, .keeper, .safety]) ?_ c
  unfold State.commitSeal
  repeat' (first | with_reducible exact Keeps.refl _ _ | with_reducible assumption | simp (disch := first | decide | exact calm_of_block (by decide) | exact calm_portBlock _ _) only [State.updNv_keeps, State.writeCensus_keeps, State.logSealOf_keeps, State.demandUntilBoot_keeps, State.updDealer_keeps, keeps_flash] | with_reducible apply keeps_ite | (with_reducible refine keeps_foldl _ ?_ ?_; (first | (rintro t ⟨_, _⟩) | intro t _)) | split)

theorem State.tryCommit_keeps (c : covers [.nv, .logs, .dealer, .keeper, .safety] G = true) :
    Keeps G s (u.tryCommit) ↔ Keeps G s u := by
  refine keeps_iff (F := [.nv, .logs, .dealer, .keeper, .safety]) ?_ c
  unfold State.tryCommit
  repeat' (first | with_reducible exact Keeps.refl _ _ | with_reducible assumption | simp (disch := first | decide | exact calm_of_block (by decide) | exact calm_portBlock _ _) only [State.commitSeal_keeps, keeps_flash] | with_reducible apply keeps_ite | (with_reducible refine keeps_foldl _ ?_ ?_; (first | (rintro t ⟨_, _⟩) | intro t _)) | split)

theorem State.startSealing_keeps (c : covers [.logs, .nv, .dealer, .keeper, .safety] G = true) :
    Keeps G s (u.startSealing) ↔ Keeps G s u := by
  refine keeps_iff (F := [.logs, .nv, .dealer, .keeper, .safety]) ?_ c
  unfold State.startSealing
  repeat' (first | with_reducible exact Keeps.refl _ _ | with_reducible assumption | simp (disch := first | decide | exact calm_of_block (by decide) | exact calm_portBlock _ _) only [State.logSeal_keeps, State.logSealOf_keeps, State.updNv_keeps, State.updDealer_keeps, State.tryCommit_keeps, keeps_flash] | with_reducible apply keeps_ite | (with_reducible refine keeps_foldl _ ?_ ?_; (first | (rintro t ⟨_, _⟩) | intro t _)) | split)

theorem State.discardPending_keeps (c : covers [.nv, .logs] G = true) :
    Keeps G s (u.discardPending) ↔ Keeps G s u := by
  refine keeps_iff (F := [.nv, .logs]) ?_ c
  unfold State.discardPending
  repeat' (first | with_reducible exact Keeps.refl _ _ | with_reducible assumption | simp (disch := first | decide | exact calm_of_block (by decide) | exact calm_portBlock _ _) only [State.logSealOf_keeps, State.updNv_keeps, keeps_flash] | with_reducible apply keeps_ite | (with_reducible refine keeps_foldl _ ?_ ?_; (first | (rintro t ⟨_, _⟩) | intro t _)) | split)

theorem State.handleSealChunk_keeps (c : covers [.ring, .nv, .logs, .portN, .portS] G = true) (x1) :
    Keeps G s (u.handleSealChunk x1) ↔ Keeps G s u := by
  refine keeps_iff (F := [.ring, .nv, .logs, .portN, .portS]) ?_ c
  unfold State.handleSealChunk
  repeat' (first | with_reducible exact Keeps.refl _ _ | with_reducible assumption | simp (disch := first | decide | exact calm_of_block (by decide) | exact calm_portBlock _ _) only [State.updRing_keeps, State.logSealOf_keeps, State.updNv_keeps, State.send_keeps, keeps_flash] | with_reducible apply keeps_ite | (with_reducible refine keeps_foldl _ ?_ ?_; (first | (rintro t ⟨_, _⟩) | intro t _)) | split)

theorem State.handleSealConfirm_keeps (c : covers [.dealer, .nv, .logs, .keeper, .safety] G = true) (x1 x2) :
    Keeps G s (u.handleSealConfirm x1 x2) ↔ Keeps G s u := by
  refine keeps_iff (F := [.dealer, .nv, .logs, .keeper, .safety]) ?_ c
  unfold State.handleSealConfirm
  repeat' (first | with_reducible exact Keeps.refl _ _ | with_reducible assumption | simp (disch := first | decide | exact calm_of_block (by decide) | exact calm_portBlock _ _) only [State.tryCommit_keeps, State.updDealer_keeps, keeps_flash] | with_reducible apply keeps_ite | (with_reducible refine keeps_foldl _ ?_ ?_; (first | (rintro t ⟨_, _⟩) | intro t _)) | split)

theorem State.pendingAtBeacon_keeps (c : covers [.nv, .logs] G = true) (x1 x2 x3) :
    Keeps G s (u.pendingAtBeacon x1 x2 x3) ↔ Keeps G s u := by
  refine keeps_iff (F := [.nv, .logs]) ?_ c
  unfold State.pendingAtBeacon
  repeat' (first | with_reducible exact Keeps.refl _ _ | with_reducible assumption | simp (disch := first | decide | exact calm_of_block (by decide) | exact calm_portBlock _ _) only [State.writeCensus_keeps, State.logSealOf_keeps, State.updNv_keeps, State.discardPending_keeps, keeps_flash] | with_reducible apply keeps_ite | (with_reducible refine keeps_foldl _ ?_ ?_; (first | (rintro t ⟨_, _⟩) | intro t _)) | split)

theorem State.clearLockout_keeps (c : covers [.logs, .keeper, .nv, .pins, .dealer, .safety] G = true) (x1) :
    Keeps G s (u.clearLockout x1) ↔ Keeps G s u := by
  refine keeps_iff (F := [.logs, .keeper, .nv, .pins, .dealer, .safety]) ?_ c
  unfold State.clearLockout
  repeat' (first | with_reducible exact Keeps.refl _ _ | with_reducible assumption | simp (disch := first | decide | exact calm_of_block (by decide) | exact calm_portBlock _ _) only [State.logLockout_keeps, State.updNv_keeps, State.updKeeper_keeps, State.updDealer_keeps, State.lockPin_keeps, State.demandUntilBoot_keeps, keeps_flash] | with_reducible apply keeps_ite | (with_reducible refine keeps_foldl _ ?_ ?_; (first | (rintro t ⟨_, _⟩) | intro t _)) | split)

theorem State.traceClear_keeps (c : covers [.logs] G = true) (x1 x2) :
    Keeps G s (u.traceClear x1 x2) ↔ Keeps G s u := by
  refine keeps_iff (F := [.logs]) ?_ c
  unfold State.traceClear
  repeat' (first | with_reducible exact Keeps.refl _ _ | with_reducible assumption | simp (disch := first | decide | exact calm_of_block (by decide) | exact calm_portBlock _ _) only [State.trace_keeps, keeps_flash] | with_reducible apply keeps_ite | (with_reducible refine keeps_foldl _ ?_ ?_; (first | (rintro t ⟨_, _⟩) | intro t _)) | split)

/-! ### SafetyFn -/

theorem State.sendInterlock_keeps (c : covers [.safety, .logs, .portN, .portS] G = true) :
    Keeps G s (u.sendInterlock) ↔ Keeps G s u := by
  refine keeps_iff (F := [.safety, .logs, .portN, .portS]) ?_ c
  unfold State.sendInterlock
  repeat' (first | with_reducible exact Keeps.refl _ _ | with_reducible assumption | simp (disch := first | decide | exact calm_of_block (by decide) | exact calm_portBlock _ _) only [State.updSafety_keeps, State.sendTrumpWords_keeps, keeps_flash] | with_reducible apply keeps_ite | (with_reducible refine keeps_foldl _ ?_ ?_; (first | (rintro t ⟨_, _⟩) | intro t _)) | split)

theorem State.interlockChanged_keeps (c : covers [.logs, .outputs, .meas, .services, .pins, .keeper, .nv, .safety, .portN, .portS] G = true) (x1) :
    Keeps G s (u.interlockChanged x1) ↔ Keeps G s u := by
  refine keeps_iff (F := [.logs, .outputs, .meas, .services, .pins, .keeper, .nv, .safety, .portN, .portS]) ?_ c
  unfold State.interlockChanged
  repeat' (first | with_reducible exact Keeps.refl _ _ | with_reducible assumption | simp (disch := first | decide | exact calm_of_block (by decide) | exact calm_portBlock _ _) only [State.trip_keeps, State.headOpens_keeps, State.sendInterlock_keeps, keeps_flash] | with_reducible apply keeps_ite | (with_reducible refine keeps_foldl _ ?_ ?_; (first | (rintro t ⟨_, _⟩) | intro t _)) | split)

theorem State.judgeSource_keeps (c : covers [.safety, .faults, .logs, .pins] G = true) (x1 x2 x3 x4) :
    Keeps G s (u.judgeSource x1 x2 x3 x4) ↔ Keeps G s u := by
  refine keeps_iff (F := [.safety, .faults, .logs, .pins]) ?_ c
  unfold State.judgeSource
  repeat' (first | with_reducible exact Keeps.refl _ _ | with_reducible assumption | simp (disch := first | decide | exact calm_of_block (by decide) | exact calm_portBlock _ _) only [State.updSafety_keeps, State.raise_keeps, State.raise_keeps_calm, keeps_flash] | with_reducible apply keeps_ite | (with_reducible refine keeps_foldl _ ?_ ?_; (first | (rintro t ⟨_, _⟩) | intro t _)) | split)

theorem State.judgeSamples_keeps (c : covers [.safety, .faults, .logs, .pins] G = true) (x1 x2 x3) :
    Keeps G s (u.judgeSamples x1 x2 x3) ↔ Keeps G s u := by
  refine keeps_iff (F := [.safety, .faults, .logs, .pins]) ?_ c
  unfold State.judgeSamples
  repeat' (first | with_reducible exact Keeps.refl _ _ | with_reducible assumption | simp (disch := first | decide | exact calm_of_block (by decide) | exact calm_portBlock _ _) only [State.updSafety_keeps, State.raiseIf_keeps, State.raiseIf_keeps_calm, keeps_flash] | with_reducible apply keeps_ite | (with_reducible refine keeps_foldl _ ?_ ?_; (first | (rintro t ⟨_, _⟩) | intro t _)) | split)

/-! ### Vehicle -/

theorem State.stagePublication_keeps (c : covers [.vehicle] G = true) :
    Keeps G s (u.stagePublication) ↔ Keeps G s u := by
  refine keeps_iff (F := [.vehicle]) ?_ c
  unfold State.stagePublication
  repeat' (first | with_reducible exact Keeps.refl _ _ | with_reducible assumption | simp (disch := first | decide | exact calm_of_block (by decide) | exact calm_portBlock _ _) only [State.updVehicle_keeps, keeps_flash] | with_reducible apply keeps_ite | (with_reducible refine keeps_foldl _ ?_ ?_; (first | (rintro t ⟨_, _⟩) | intro t _)) | split)

theorem State.busOff_keeps (c : covers [.vehicle, .faults, .logs, .pins] G = true) :
    Keeps G s (u.busOff) ↔ Keeps G s u := by
  refine keeps_iff (F := [.vehicle, .faults, .logs, .pins]) ?_ c
  unfold State.busOff
  repeat' (first | with_reducible exact Keeps.refl _ _ | with_reducible assumption | simp (disch := first | decide | exact calm_of_block (by decide) | exact calm_portBlock _ _) only [State.updVehicle_keeps, State.raiseIf_keeps, State.raiseIf_keeps_calm, State.raise_keeps, State.raise_keeps_calm, keeps_flash] | with_reducible apply keeps_ite | (with_reducible refine keeps_foldl _ ?_ ?_; (first | (rintro t ⟨_, _⟩) | intro t _)) | split)

theorem State.canCounters_keeps (c : covers [.vehicle, .faults, .logs, .pins] G = true) (x1 x2) :
    Keeps G s (u.canCounters x1 x2) ↔ Keeps G s u := by
  refine keeps_iff (F := [.vehicle, .faults, .logs, .pins]) ?_ c
  unfold State.canCounters
  repeat' (first | with_reducible exact Keeps.refl _ _ | with_reducible assumption | simp (disch := first | decide | exact calm_of_block (by decide) | exact calm_portBlock _ _) only [State.raiseIf_keeps, State.raiseIf_keeps_calm, State.updVehicle_keeps, keeps_flash] | with_reducible apply keeps_ite | (with_reducible refine keeps_foldl _ ?_ ?_; (first | (rintro t ⟨_, _⟩) | intro t _)) | split)

/-! ### ServicePort -/

theorem State.sendService_keeps (c : covers [.portN, .portS, .service] G = true) (x1 x2) :
    Keeps G s (u.sendService x1 x2) ↔ Keeps G s u := by
  refine keeps_iff (F := [.portN, .portS, .service]) ?_ c
  unfold State.sendService
  repeat' (first | with_reducible exact Keeps.refl _ _ | with_reducible assumption | simp (disch := first | decide | exact calm_of_block (by decide) | exact calm_portBlock _ _) only [State.updPort_keeps, State.send_keeps, State.updService_keeps, keeps_flash] | with_reducible apply keeps_ite | (with_reducible refine keeps_foldl _ ?_ ?_; (first | (rintro t ⟨_, _⟩) | intro t _)) | split)

theorem State.releaseHeld_keeps (c : covers [.portN, .portS, .service] G = true) :
    Keeps G s (u.releaseHeld) ↔ Keeps G s u := by
  refine keeps_iff (F := [.portN, .portS, .service]) ?_ c
  unfold State.releaseHeld
  repeat' (first | with_reducible exact Keeps.refl _ _ | with_reducible assumption | simp (disch := first | decide | exact calm_of_block (by decide) | exact calm_portBlock _ _) only [State.sendService_keeps, State.updService_keeps, keeps_flash] | with_reducible apply keeps_ite | (with_reducible refine keeps_foldl _ ?_ ?_; (first | (rintro t ⟨_, _⟩) | intro t _)) | split)

theorem State.respond_keeps (c : covers [.logs, .service] G = true) (x1 x2 x3 x4) :
    Keeps G s (u.respond x1 x2 x3 x4) ↔ Keeps G s u := by
  refine keeps_iff (F := [.logs, .service]) ?_ c
  unfold State.respond
  repeat' (first | with_reducible exact Keeps.refl _ _ | with_reducible assumption | simp (disch := first | decide | exact calm_of_block (by decide) | exact calm_portBlock _ _) only [State.updService_keeps, State.trace_keeps, keeps_flash] | with_reducible apply keeps_ite | (with_reducible refine keeps_foldl _ ?_ ?_; (first | (rintro t ⟨_, _⟩) | intro t _)) | split)

theorem State.serve_keeps {f : State → State} (h : ∀ t, Keeps G t (f t)) (c : covers [.logs, .service] G = true) (x y) :
    Keeps G u (u.serve x y f) := by
  unfold State.serve
  split
  · exact Keeps.refl _ _
  · split
    · exact (State.respond_keeps c _ _ _ _).mpr (Keeps.refl _ _)
    · exact h u

theorem State.answer_keeps (c : covers [.logs, .service] G = true) (x1 x2) :
    Keeps G s (u.answer x1 x2) ↔ Keeps G s u := by
  refine keeps_iff (F := [.logs, .service]) ?_ c
  unfold State.answer
  repeat' (first | with_reducible exact Keeps.refl _ _ | with_reducible assumption | simp (disch := first | decide | exact calm_of_block (by decide) | exact calm_portBlock _ _) only [State.updService_keeps, State.respond_keeps, keeps_flash] | with_reducible apply keeps_ite | (with_reducible refine keeps_foldl _ ?_ ?_; (first | (rintro t ⟨_, _⟩) | intro t _)) | split)

theorem State.seqBounds_keeps (c : covers [.dev] G = true) : Keeps G s u.seqBounds.2 ↔ Keeps G s u := by
  unfold State.seqBounds
  split
  · exact Iff.rfl
  · exact (State.updDev_keeps c _).trans (State.updDev_keeps c _)

theorem State.firstReturned_keeps (c : covers [.dev] G = true) (x) : Keeps G s (u.firstReturned x).2 ↔ Keeps G s u := by
  unfold State.firstReturned
  split
  · exact Iff.rfl
  · exact State.updDev_keeps c _

theorem State.readOwn_keeps (c : covers [.dev, .logs, .service] G = true) (x1 x2 x3) :
    Keeps G s (u.readOwn x1 x2 x3) ↔ Keeps G s u := by
  refine keeps_iff (F := [.dev, .logs, .service]) ?_ c
  unfold State.readOwn
  repeat' (first | with_reducible exact Keeps.refl _ _ | with_reducible assumption | simp (disch := first | decide | exact calm_of_block (by decide) | exact calm_portBlock _ _) only [State.firstReturned_keeps, State.respond_keeps, keeps_flash] | with_reducible apply keeps_ite | (with_reducible refine keeps_foldl _ ?_ ?_; (first | (rintro t ⟨_, _⟩) | intro t _)) | split)

theorem State.readRemote_keeps (c : covers [.logs, .service, .portN, .portS] G = true) (x1 x2 x3 x4) :
    Keeps G s (u.readRemote x1 x2 x3 x4) ↔ Keeps G s u := by
  refine keeps_iff (F := [.logs, .service, .portN, .portS]) ?_ c
  unfold State.readRemote
  repeat' (first | with_reducible exact Keeps.refl _ _ | with_reducible assumption | simp (disch := first | decide | exact calm_of_block (by decide) | exact calm_portBlock _ _) only [State.respond_keeps, State.updService_keeps, State.sendService_keeps, keeps_flash] | with_reducible apply keeps_ite | (with_reducible refine keeps_foldl _ ?_ ?_; (first | (rintro t ⟨_, _⟩) | intro t _)) | split)

theorem State.handleLogRequest_keeps (c : covers [.dev, .portN, .portS, .service] G = true) (x1) :
    Keeps G s (u.handleLogRequest x1) ↔ Keeps G s u := by
  refine keeps_iff (F := [.dev, .portN, .portS, .service]) ?_ c
  unfold State.handleLogRequest
  repeat' (first | with_reducible exact Keeps.refl _ _ | with_reducible assumption | simp (disch := first | decide | exact calm_of_block (by decide) | exact calm_portBlock _ _) only [State.firstReturned_keeps, State.sendService_keeps, keeps_flash] | with_reducible apply keeps_ite | (with_reducible refine keeps_foldl _ ?_ ?_; (first | (rintro t ⟨_, _⟩) | intro t _)) | split)

theorem State.handleLogRecords_keeps (c : covers [.logs, .service] G = true) (x1 x2) :
    Keeps G s (u.handleLogRecords x1 x2) ↔ Keeps G s u := by
  refine keeps_iff (F := [.logs, .service]) ?_ c
  unfold State.handleLogRecords
  repeat' (first | with_reducible exact Keeps.refl _ _ | with_reducible assumption | simp (disch := first | decide | exact calm_of_block (by decide) | exact calm_portBlock _ _) only [State.answer_keeps, keeps_flash] | with_reducible apply keeps_ite | (with_reducible refine keeps_foldl _ ?_ ?_; (first | (rintro t ⟨_, _⟩) | intro t _)) | split)

theorem State.writeBlock_keeps (c : covers [.service, .nv, .flash, .logs] G = true) (x1 x2 x3) :
    Keeps G s (u.writeBlock x1 x2 x3) ↔ Keeps G s u := by
  refine keeps_iff (F := [.service, .nv, .flash, .logs]) ?_ c
  unfold State.writeBlock
  repeat' (first | with_reducible exact Keeps.refl _ _ | with_reducible assumption | simp (disch := first | decide | exact calm_of_block (by decide) | exact calm_portBlock _ _) only [State.updNv_keeps, State.updService_keeps, State.logImage_keeps, keeps_flash] | with_reducible apply keeps_ite | (with_reducible refine keeps_foldl _ ?_ ?_; (first | (rintro t ⟨_, _⟩) | intro t _)) | split)

theorem State.writeBlocks_keeps (c : covers [.service, .nv, .flash, .logs] G = true) (x n l) :
    Keeps G s (State.writeBlocks x n l u) ↔ Keeps G s u := by
  induction l generalizing u n with
  | nil => exact Iff.rfl
  | cons y l ih =>
    unfold State.writeBlocks
    split
    · rw [ih, State.writeBlock_keeps c]
    · exact Iff.rfl

theorem State.sendImageStatus_keeps (c : covers [.portN, .portS, .service] G = true) (x1 x2) :
    Keeps G s (u.sendImageStatus x1 x2) ↔ Keeps G s u := by
  refine keeps_iff (F := [.portN, .portS, .service]) ?_ c
  unfold State.sendImageStatus
  repeat' (first | with_reducible exact Keeps.refl _ _ | with_reducible assumption | simp (disch := first | decide | exact calm_of_block (by decide) | exact calm_portBlock _ _) only [State.sendService_keeps, keeps_flash] | with_reducible apply keeps_ite | (with_reducible refine keeps_foldl _ ?_ ?_; (first | (rintro t ⟨_, _⟩) | intro t _)) | split)

theorem State.statusOfCheck_keeps (c : covers [.dev] G = true) (x) : Keeps G s (u.statusOfCheck x).2 ↔ Keeps G s u := by
  unfold State.statusOfCheck
  split
  · exact Iff.rfl
  · exact Iff.rfl
  · exact Iff.rfl
  · exact State.updDev_keeps c _

theorem State.handleImageBlock_keeps (c : covers [.nv, .logs, .portN, .portS, .service, .flash] G = true) (x1) :
    Keeps G s (u.handleImageBlock x1) ↔ Keeps G s u := by
  refine keeps_iff (F := [.nv, .logs, .portN, .portS, .service, .flash]) ?_ c
  unfold State.handleImageBlock
  repeat' (first | with_reducible exact Keeps.refl _ _ | with_reducible assumption | simp (disch := first | decide | exact calm_of_block (by decide) | exact calm_portBlock _ _) only [State.sendImageStatus_keeps, State.logImage_keeps, State.updNv_keeps, State.writeBlock_keeps, keeps_flash] | with_reducible apply keeps_ite | (with_reducible refine keeps_foldl _ ?_ ?_; (first | (rintro t ⟨_, _⟩) | intro t _)) | split)

theorem State.sendAllPorts_keeps (c : covers [.portN, .portS, .service] G = true) (x1) :
    Keeps G s (u.sendAllPorts x1) ↔ Keeps G s u := by
  refine keeps_iff (F := [.portN, .portS, .service]) ?_ c
  unfold State.sendAllPorts
  repeat' (first | with_reducible exact Keeps.refl _ _ | with_reducible assumption | simp (disch := first | decide | exact calm_of_block (by decide) | exact calm_portBlock _ _) only [State.sendService_keeps, keeps_flash] | with_reducible apply keeps_ite | (with_reducible refine keeps_foldl _ ?_ ?_; (first | (rintro t ⟨_, _⟩) | intro t _)) | split)

theorem State.distributeBlocks_keeps (c : covers [.portN, .portS, .service] G = true) :
    Keeps G s (u.distributeBlocks) ↔ Keeps G s u := by
  refine keeps_iff (F := [.portN, .portS, .service]) ?_ c
  unfold State.distributeBlocks
  repeat' (first | with_reducible exact Keeps.refl _ _ | with_reducible assumption | simp (disch := first | decide | exact calm_of_block (by decide) | exact calm_portBlock _ _) only [State.sendAllPorts_keeps, State.updService_keeps, keeps_flash] | with_reducible apply keeps_ite | (with_reducible refine keeps_foldl _ ?_ ?_; (first | (rintro t ⟨_, _⟩) | intro t _)) | split)

theorem State.handleImageStatus_keeps (c : covers [.service, .logs] G = true) (x1 x2) :
    Keeps G s (u.handleImageStatus x1 x2) ↔ Keeps G s u := by
  refine keeps_iff (F := [.service, .logs]) ?_ c
  unfold State.handleImageStatus
  repeat' (first | with_reducible exact Keeps.refl _ _ | with_reducible assumption | simp (disch := first | decide | exact calm_of_block (by decide) | exact calm_portBlock _ _) only [State.updService_keeps, State.answer_keeps, keeps_flash] | with_reducible apply keeps_ite | (with_reducible refine keeps_foldl _ ?_ ?_; (first | (rintro t ⟨_, _⟩) | intro t _)) | split)

theorem State.sendCommitBlock_keeps (c : covers [.portN, .portS, .service, .dev] G = true) :
    Keeps G s (u.sendCommitBlock) ↔ Keeps G s u := by
  refine keeps_iff (F := [.portN, .portS, .service, .dev]) ?_ c
  unfold State.sendCommitBlock
  repeat' (first | with_reducible exact Keeps.refl _ _ | with_reducible assumption | simp (disch := first | decide | exact calm_of_block (by decide) | exact calm_portBlock _ _) only [State.updDev_keeps, State.sendAllPorts_keeps, keeps_flash] | with_reducible apply keeps_ite | (with_reducible refine keeps_foldl _ ?_ ?_; (first | (rintro t ⟨_, _⟩) | intro t _)) | split)

theorem State.arm_keeps (c : covers [.nv, .service, .logs, .portN, .portS, .dev] G = true) (x1) :
    Keeps G s (u.arm x1) ↔ Keeps G s u := by
  refine keeps_iff (F := [.nv, .service, .logs, .portN, .portS, .dev]) ?_ c
  unfold State.arm
  repeat' (first | with_reducible exact Keeps.refl _ _ | with_reducible assumption | simp (disch := first | decide | exact calm_of_block (by decide) | exact calm_portBlock _ _) only [State.logImage_keeps, State.updService_keeps, State.updNv_keeps, State.sendCommitBlock_keeps, keeps_flash] | with_reducible apply keeps_ite | (with_reducible refine keeps_foldl _ ?_ ?_; (first | (rintro t ⟨_, _⟩) | intro t _)) | split)

theorem State.armPending_keeps (c : covers [.nv, .service, .logs, .portN, .portS, .dev] G = true) :
    Keeps G s (u.armPending) ↔ Keeps G s u := by
  refine keeps_iff (F := [.nv, .service, .logs, .portN, .portS, .dev]) ?_ c
  unfold State.armPending
  repeat' (first | with_reducible exact Keeps.refl _ _ | with_reducible assumption | simp (disch := first | decide | exact calm_of_block (by decide) | exact calm_portBlock _ _) only [State.arm_keeps, keeps_flash] | with_reducible apply keeps_ite | (with_reducible refine keeps_foldl _ ?_ ?_; (first | (rintro t ⟨_, _⟩) | intro t _)) | split)

/-! ### Deal -/

theorem State.kittyPeriod_keeps (c : covers [.dealer, .vehicle] G = true) (x1) :
    Keeps G s (u.kittyPeriod x1) ↔ Keeps G s u := by
  refine keeps_iff (F := [.dealer, .vehicle]) ?_ c
  unfold State.kittyPeriod
  repeat' (first | with_reducible exact Keeps.refl _ _ | with_reducible assumption | simp (disch := first | decide | exact calm_of_block (by decide) | exact calm_portBlock _ _) only [State.updDealer_keeps, State.updVehicle_keeps, keeps_flash] | with_reducible apply keeps_ite | (with_reducible refine keeps_foldl _ ?_ ?_; (first | (rintro t ⟨_, _⟩) | intro t _)) | split)

theorem State.takeBaseline_keeps (c : covers [.balance] G = true) :
    Keeps G s (u.takeBaseline) ↔ Keeps G s u := by
  refine keeps_iff (F := [.balance]) ?_ c
  unfold State.takeBaseline
  repeat' (first | with_reducible exact Keeps.refl _ _ | with_reducible assumption | simp (disch := first | decide | exact calm_of_block (by decide) | exact calm_portBlock _ _) only [State.updBalance_keeps, keeps_flash] | with_reducible apply keeps_ite | (with_reducible refine keeps_foldl _ ?_ ?_; (first | (rintro t ⟨_, _⟩) | intro t _)) | split)

theorem State.dealerDeal_keeps (c : covers [.ring, .portN, .portS, .dealer, .vehicle] G = true) (x1 x2) :
    Keeps G s (u.dealerDeal x1 x2) ↔ Keeps G s u := by
  refine keeps_iff (F := [.ring, .portN, .portS, .dealer, .vehicle]) ?_ c
  unfold State.dealerDeal
  repeat' (first | with_reducible exact Keeps.refl _ _ | with_reducible assumption | simp (disch := first | decide | exact calm_of_block (by decide) | exact calm_portBlock _ _) only [State.newDeal_keeps, State.updRing_keeps, State.updDealer_keeps, State.updVehicle_keeps, keeps_flash] | with_reducible apply keeps_ite | (with_reducible refine keeps_foldl _ ?_ ?_; (first | (rintro t ⟨_, _⟩) | intro t _)) | split)

theorem State.endPace_keeps (c : covers [.logs, .dealer] G = true) :
    Keeps G s (u.endPace) ↔ Keeps G s u := by
  refine keeps_iff (F := [.logs, .dealer]) ?_ c
  unfold State.endPace
  repeat' (first | with_reducible exact Keeps.refl _ _ | with_reducible assumption | simp (disch := first | decide | exact calm_of_block (by decide) | exact calm_portBlock _ _) only [State.ringEpisode_keeps, keeps_flash] | with_reducible apply keeps_ite | (with_reducible refine keeps_foldl _ ?_ ?_; (first | (rintro t ⟨_, _⟩) | intro t _)) | split)

theorem State.sendCommands_keeps (c : covers [.services] G = true) :
    Keeps G s (u.sendCommands) ↔ Keeps G s u := by
  refine keeps_iff (F := [.services]) ?_ c
  unfold State.sendCommands
  repeat' (first | with_reducible exact Keeps.refl _ _ | with_reducible assumption | simp (disch := first | decide | exact calm_of_block (by decide) | exact calm_portBlock _ _) only [State.updServices_keeps, keeps_flash] | with_reducible apply keeps_ite | (with_reducible refine keeps_foldl _ ?_ ?_; (first | (rintro t ⟨_, _⟩) | intro t _)) | split)

theorem State.takeOwnBeacon_keeps (c : covers [.ring, .balance, .logs, .faults, .pins] G = true) (x1) :
    Keeps G s (u.takeOwnBeacon x1) ↔ Keeps G s u := by
  refine keeps_iff (F := [.ring, .balance, .logs, .faults, .pins]) ?_ c
  unfold State.takeOwnBeacon
  repeat' (first | with_reducible exact Keeps.refl _ _ | with_reducible assumption | simp (disch := first | decide | exact calm_of_block (by decide) | exact calm_portBlock _ _) only [State.updRing_keeps, State.endJobs_keeps, keeps_flash] | with_reducible apply keeps_ite | (with_reducible refine keeps_foldl _ ?_ ?_; (first | (rintro t ⟨_, _⟩) | intro t _)) | split)

theorem State.sendChunks_keeps (c : covers [.portN, .portS, .dealer] G = true) :
    Keeps G s (u.sendChunks) ↔ Keeps G s u := by
  refine keeps_iff (F := [.portN, .portS, .dealer]) ?_ c
  unfold State.sendChunks
  repeat' (first | with_reducible exact Keeps.refl _ _ | with_reducible assumption | simp (disch := first | decide | exact calm_of_block (by decide) | exact calm_portBlock _ _) only [State.send_keeps, State.updDealer_keeps, keeps_flash] | with_reducible apply keeps_ite | (with_reducible refine keeps_foldl _ ?_ ?_; (first | (rintro t ⟨_, _⟩) | intro t _)) | split)

theorem State.afterBeacon_keeps (c : covers [.dealer, .dev] G = true) (x1) :
    Keeps G s (u.afterBeacon x1) ↔ Keeps G s u := by
  refine keeps_iff (F := [.dealer, .dev]) ?_ c
  unfold State.afterBeacon
  repeat' (first | with_reducible exact Keeps.refl _ _ | with_reducible assumption | simp (disch := first | decide | exact calm_of_block (by decide) | exact calm_portBlock _ _) only [State.updDealer_keeps, State.updDev_keeps, keeps_flash] | with_reducible apply keeps_ite | (with_reducible refine keeps_foldl _ ?_ ?_; (first | (rintro t ⟨_, _⟩) | intro t _)) | split)

theorem State.packAtT0_keeps (c : covers [.logs, .services, .outputs, .meas, .pins] G = true) :
    Keeps G s (u.packAtT0) ↔ Keeps G s u := by
  refine keeps_iff (F := [.logs, .services, .outputs, .meas, .pins]) ?_ c
  unfold State.packAtT0
  repeat' (first | with_reducible exact Keeps.refl _ _ | with_reducible assumption | simp (disch := first | decide | exact calm_of_block (by decide) | exact calm_portBlock _ _) only [State.outputCommand_keeps, State.endOpening_keeps, State.updPins_keeps, keeps_flash] | with_reducible apply keeps_ite | (with_reducible refine keeps_foldl _ ?_ ?_; (first | (rintro t ⟨_, _⟩) | intro t _)) | split)

theorem State.storageAfterOpening_keeps (c : covers [.services, .dev, .dealer] G = true) :
    Keeps G s (u.storageAfterOpening) ↔ Keeps G s u := by
  refine keeps_iff (F := [.services, .dev, .dealer]) ?_ c
  unfold State.storageAfterOpening
  repeat' (first | with_reducible exact Keeps.refl _ _ | with_reducible assumption | simp (disch := first | decide | exact calm_of_block (by decide) | exact calm_portBlock _ _) only [State.beginEntry_keeps, State.updServices_keeps, keeps_flash] | with_reducible apply keeps_ite | (with_reducible refine keeps_foldl _ ?_ ?_; (first | (rintro t ⟨_, _⟩) | intro t _)) | split)

theorem State.absent_keeps (c : covers [.logs, .dealer, .faults, .pins] G = true) (x1) :
    Keeps G s (u.absent x1) ↔ Keeps G s u := by
  refine keeps_iff (F := [.logs, .dealer, .faults, .pins]) ?_ c
  unfold State.absent
  repeat' (first | with_reducible exact Keeps.refl _ _ | with_reducible assumption | simp (disch := first | decide | exact calm_of_block (by decide) | exact calm_portBlock _ _) only [State.raise_keeps, State.raise_keeps_calm, State.updPos_keeps, State.setPos_keeps, keeps_flash] | with_reducible apply keeps_ite | (with_reducible refine keeps_foldl _ ?_ ?_; (first | (rintro t ⟨_, _⟩) | intro t _)) | split)

theorem State.closePosition_keeps (c : covers [.dealer, .logs, .faults, .pins] G = true) (x1) :
    Keeps G s (u.closePosition x1) ↔ Keeps G s u := by
  refine keeps_iff (F := [.dealer, .logs, .faults, .pins]) ?_ c
  unfold State.closePosition
  repeat' (first | with_reducible exact Keeps.refl _ _ | with_reducible assumption | simp (disch := first | decide | exact calm_of_block (by decide) | exact calm_portBlock _ _) only [State.updPos_keeps, State.updDealer_keeps, State.raise_keeps, State.raise_keeps_calm, State.setPos_keeps, State.absent_keeps, keeps_flash] | with_reducible apply keeps_ite | (with_reducible refine keeps_foldl _ ?_ ?_; (first | (rintro t ⟨_, _⟩) | intro t _)) | split)

theorem State.countJobs_keeps (c : covers [.services, .dealer] G = true) :
    Keeps G s (u.countJobs) ↔ Keeps G s u := by
  refine keeps_iff (F := [.services, .dealer]) ?_ c
  unfold State.countJobs
  repeat' (first | with_reducible exact Keeps.refl _ _ | with_reducible assumption | simp (disch := first | decide | exact calm_of_block (by decide) | exact calm_portBlock _ _) only [State.updDealer_keeps, State.updServices_keeps, keeps_flash] | with_reducible apply keeps_ite | (with_reducible refine keeps_foldl _ ?_ ?_; (first | (rintro t ⟨_, _⟩) | intro t _)) | split)

theorem State.servePack_keeps (c : covers [.services, .dealer, .logs, .outputs, .meas, .pins, .faults] G = true) :
    Keeps G s (u.servePack) ↔ Keeps G s u := by
  refine keeps_iff (F := [.services, .dealer, .logs, .outputs, .meas, .pins, .faults]) ?_ c
  unfold State.servePack
  repeat' (first | with_reducible exact Keeps.refl _ _ | with_reducible assumption | simp (disch := first | decide | exact calm_of_block (by decide) | exact calm_portBlock _ _) only [State.currentReason_keeps, State.target_keeps, State.countJobs_keeps, State.serveString_keeps, State.publishLimits_keeps, State.packStep_keeps, State.updServices_keeps, keeps_flash] | with_reducible apply keeps_ite | (with_reducible refine keeps_foldl _ ?_ ?_; (first | (rintro t ⟨_, _⟩) | intro t _)) | split)

theorem State.moveDeal_keeps (c : covers [.ring, .portN, .portS, .service] G = true) :
    Keeps G s (u.moveDeal) ↔ Keeps G s u := by
  refine keeps_iff (F := [.ring, .portN, .portS, .service]) ?_ c
  unfold State.moveDeal
  repeat' (first | with_reducible exact Keeps.refl _ _ | with_reducible assumption | simp (disch := first | decide | exact calm_of_block (by decide) | exact calm_portBlock _ _) only [State.updRing_keeps, State.newDeal_keeps, State.releaseHeld_keeps, keeps_flash] | with_reducible apply keeps_ite | (with_reducible refine keeps_foldl _ ?_ ?_; (first | (rintro t ⟨_, _⟩) | intro t _)) | split)

theorem State.countCheckIn_keeps (c : covers [.dev] G = true) :
    Keeps G s (u.countCheckIn) ↔ Keeps G s u := by
  refine keeps_iff (F := [.dev]) ?_ c
  unfold State.countCheckIn
  repeat' (first | with_reducible exact Keeps.refl _ _ | with_reducible assumption | simp (disch := first | decide | exact calm_of_block (by decide) | exact calm_portBlock _ _) only [State.updDev_keeps, keeps_flash] | with_reducible apply keeps_ite | (with_reducible refine keeps_foldl _ ?_ ?_; (first | (rintro t ⟨_, _⟩) | intro t _)) | split)

theorem State.repeatFatal_keeps (c : covers [.logs, .portN, .portS, .ring] G = true) :
    Keeps G s (u.repeatFatal) ↔ Keeps G s u := by
  refine keeps_iff (F := [.logs, .portN, .portS, .ring]) ?_ c
  unfold State.repeatFatal
  repeat' (first | with_reducible exact Keeps.refl _ _ | with_reducible assumption | simp (disch := first | decide | exact calm_of_block (by decide) | exact calm_portBlock _ _) only [State.updRing_keeps, State.sendTrumpWords_keeps, keeps_flash] | with_reducible apply keeps_ite | (with_reducible refine keeps_foldl _ ?_ ?_; (first | (rintro t ⟨_, _⟩) | intro t _)) | split)

/-! ### Receive -/

theorem State.countDropped_keeps (c : covers [.faults, .logs, .pins, .portN, .portS] G = true) (x1) :
    Keeps G s (u.countDropped x1) ↔ Keeps G s u := by
  refine keeps_iff (F := [.faults, .logs, .pins, .portN, .portS]) ?_ c
  unfold State.countDropped
  repeat' (first | with_reducible exact Keeps.refl _ _ | with_reducible assumption | simp (disch := first | decide | exact calm_of_block (by decide) | exact calm_portBlock _ _) only [State.noteSeen_keeps, State.raise_keeps, State.raise_keeps_calm, keeps_flash] | with_reducible apply keeps_ite | (with_reducible refine keeps_foldl _ ?_ ?_; (first | (rintro t ⟨_, _⟩) | intro t _)) | split)

theorem State.endCopy_keeps (c : covers [.portN, .portS] G = true) (x1 x2 x3) :
    Keeps G s (u.endCopy x1 x2 x3) ↔ Keeps G s u := by
  refine keeps_iff (F := [.portN, .portS]) ?_ c
  unfold State.endCopy
  repeat' (first | with_reducible exact Keeps.refl _ _ | with_reducible assumption | simp (disch := first | decide | exact calm_of_block (by decide) | exact calm_portBlock _ _) only [State.poisonCopy_keeps, keeps_flash] | with_reducible apply keeps_ite | (with_reducible refine keeps_foldl _ ?_ ?_; (first | (rintro t ⟨_, _⟩) | intro t _)) | split)

theorem State.discard_keeps (c : covers [.portN, .portS] G = true) (x1 x2 x3) :
    Keeps G s (u.discard x1 x2 x3) ↔ Keeps G s u := by
  refine keeps_iff (F := [.portN, .portS]) ?_ c
  unfold State.discard
  repeat' (first | with_reducible exact Keeps.refl _ _ | with_reducible assumption | simp (disch := first | decide | exact calm_of_block (by decide) | exact calm_portBlock _ _) only [State.endCopy_keeps, State.updPort_keeps, keeps_flash] | with_reducible apply keeps_ite | (with_reducible refine keeps_foldl _ ?_ ?_; (first | (rintro t ⟨_, _⟩) | intro t _)) | split)

theorem State.relay_keeps (c : covers [.portN, .portS, .faults, .logs, .pins] G = true) (x1 x2 x3) :
    Keeps G s (u.relay x1 x2 x3) ↔ Keeps G s u := by
  refine keeps_iff (F := [.portN, .portS, .faults, .logs, .pins]) ?_ c
  unfold State.relay
  repeat' (first | with_reducible exact Keeps.refl _ _ | with_reducible assumption | simp (disch := first | decide | exact calm_of_block (by decide) | exact calm_portBlock _ _) only [State.freeSlot_keeps, State.queue_keeps, State.endCopy_keeps, State.raise_keeps, State.raise_keeps_calm, State.updPort_keeps, keeps_flash] | with_reducible apply keeps_ite | (with_reducible refine keeps_foldl _ ?_ ?_; (first | (rintro t ⟨_, _⟩) | intro t _)) | split)

theorem State.keepMeld_keeps (c : covers [.dealer] G = true) (x1 x2) :
    Keeps G s (u.keepMeld x1 x2) ↔ Keeps G s u := by
  refine keeps_iff (F := [.dealer]) ?_ c
  unfold State.keepMeld
  repeat' (first | with_reducible exact Keeps.refl _ _ | with_reducible assumption | simp (disch := first | decide | exact calm_of_block (by decide) | exact calm_portBlock _ _) only [State.updPos_keeps, State.updDealer_keeps, keeps_flash] | with_reducible apply keeps_ite | (with_reducible refine keeps_foldl _ ?_ ?_; (first | (rintro t ⟨_, _⟩) | intro t _)) | split)

theorem State.completeAdmission_keeps (c : covers [.logs, .dealer, .safety] G = true) (x1 x2) :
    Keeps G s (u.completeAdmission x1 x2) ↔ Keeps G s u := by
  refine keeps_iff (F := [.logs, .dealer, .safety]) ?_ c
  unfold State.completeAdmission
  repeat' (first | with_reducible exact Keeps.refl _ _ | with_reducible assumption | simp (disch := first | decide | exact calm_of_block (by decide) | exact calm_portBlock _ _) only [State.setPos_keeps, State.degradedTimer_keeps, State.updPos_keeps, keeps_flash] | with_reducible apply keeps_ite | (with_reducible refine keeps_foldl _ ?_ ?_; (first | (rintro t ⟨_, _⟩) | intro t _)) | split)

theorem State.handleMeld_keeps (c : covers [.dealer, .faults, .logs, .pins, .safety] G = true) (x1 x2 x3 x4) :
    Keeps G s (u.handleMeld x1 x2 x3 x4) ↔ Keeps G s u := by
  refine keeps_iff (F := [.dealer, .faults, .logs, .pins, .safety]) ?_ c
  unfold State.handleMeld
  repeat' (first | with_reducible exact Keeps.refl _ _ | with_reducible assumption | simp (disch := first | decide | exact calm_of_block (by decide) | exact calm_portBlock _ _) only [State.raise_keeps, State.raise_keeps_calm, State.updDealer_keeps, State.completeAdmission_keeps, State.keepMeld_keeps, keeps_flash] | with_reducible apply keeps_ite | (with_reducible refine keeps_foldl _ ?_ ?_; (first | (rintro t ⟨_, _⟩) | intro t _)) | split)

theorem State.traceTrump_keeps (c : covers [.logs] G = true) (x1 x2 x3 x4) :
    Keeps G s (u.traceTrump x1 x2 x3 x4) ↔ Keeps G s u := by
  refine keeps_iff (F := [.logs]) ?_ c
  unfold State.traceTrump
  repeat' (first | with_reducible exact Keeps.refl _ _ | with_reducible assumption | simp (disch := first | decide | exact calm_of_block (by decide) | exact calm_portBlock _ _) only [State.trace_keeps, keeps_flash] | with_reducible apply keeps_ite | (with_reducible refine keeps_foldl _ ?_ ?_; (first | (rintro t ⟨_, _⟩) | intro t _)) | split)

theorem State.actTrump_keeps (c : covers [.logs, .outputs, .meas, .services, .pins, .keeper, .nv, .dealer] G = true) (x1 x2 x3) :
    Keeps G s (u.actTrump x1 x2 x3) ↔ Keeps G s u := by
  refine keeps_iff (F := [.logs, .outputs, .meas, .services, .pins, .keeper, .nv, .dealer]) ?_ c
  unfold State.actTrump
  repeat' (first | with_reducible exact Keeps.refl _ _ | with_reducible assumption | simp (disch := first | decide | exact calm_of_block (by decide) | exact calm_portBlock _ _) only [State.trip_keeps, State.updPos_keeps, State.updStr_keeps, keeps_flash] | with_reducible apply keeps_ite | (with_reducible refine keeps_foldl _ ?_ ?_; (first | (rintro t ⟨_, _⟩) | intro t _)) | split)

theorem State.handleTrump_keeps (c : covers [.logs, .dealer, .outputs, .meas, .services, .pins, .keeper, .nv] G = true) (x1 x2 x3) :
    Keeps G s (u.handleTrump x1 x2 x3) ↔ Keeps G s u := by
  refine keeps_iff (F := [.logs, .dealer, .outputs, .meas, .services, .pins, .keeper, .nv]) ?_ c
  unfold State.handleTrump
  repeat' (first | with_reducible exact Keeps.refl _ _ | with_reducible assumption | simp (disch := first | decide | exact calm_of_block (by decide) | exact calm_portBlock _ _) only [State.traceTrump_keeps, State.updDealer_keeps, State.updPins_keeps, State.actTrump_keeps, keeps_flash] | with_reducible apply keeps_ite | (with_reducible refine keeps_foldl _ ?_ ?_; (first | (rintro t ⟨_, _⟩) | intro t _)) | split)

theorem State.handleLifeline_keeps (c : covers [.dealer] G = true) (x1 x2) :
    Keeps G s (u.handleLifeline x1 x2) ↔ Keeps G s u := by
  refine keeps_iff (F := [.dealer]) ?_ c
  unfold State.handleLifeline
  repeat' (first | with_reducible exact Keeps.refl _ _ | with_reducible assumption | simp (disch := first | decide | exact calm_of_block (by decide) | exact calm_portBlock _ _) only [State.updPos_keeps, State.updDealer_keeps, keeps_flash] | with_reducible apply keeps_ite | (with_reducible refine keeps_foldl _ ?_ ?_; (first | (rintro t ⟨_, _⟩) | intro t _)) | split)

theorem State.relayLifeline_keeps (c : covers [.portN, .portS, .faults, .logs, .pins] G = true) (x1 x2) :
    Keeps G s (u.relayLifeline x1 x2) ↔ Keeps G s u := by
  refine keeps_iff (F := [.portN, .portS, .faults, .logs, .pins]) ?_ c
  unfold State.relayLifeline
  repeat' (first | with_reducible exact Keeps.refl _ _ | with_reducible assumption | simp (disch := first | decide | exact calm_of_block (by decide) | exact calm_portBlock _ _) only [State.discard_keeps, State.updPort_keeps, State.relay_keeps, keeps_flash] | with_reducible apply keeps_ite | (with_reducible refine keeps_foldl _ ?_ ?_; (first | (rintro t ⟨_, _⟩) | intro t _)) | split)

theorem State.consume_keeps (c : covers [.dealer, .faults, .logs, .pins, .safety, .outputs, .meas, .services, .keeper, .nv, .ring, .portN, .portS, .dev, .straps, .probes, .clocks, .balance, .fan, .supply, .vehicle, .service, .bist, .flash] G = true) (x1 x2 x3 x4) :
    Keeps G s (u.consume x1 x2 x3 x4) ↔ Keeps G s u := by
  refine keeps_iff (F := [.dealer, .faults, .logs, .pins, .safety, .outputs, .meas, .services, .keeper, .nv, .ring, .portN, .portS, .dev, .straps, .probes, .clocks, .balance, .fan, .supply, .vehicle, .service, .bist, .flash]) ?_ c
  unfold State.consume
  repeat' (first | with_reducible exact Keeps.refl _ _ | with_reducible assumption | simp (disch := first | decide | exact calm_of_block (by decide) | exact calm_portBlock _ _) only [State.handleMeld_keeps, State.handleTrump_keeps, State.handleLifeline_keeps, State.handleCall_keeps, State.handleAnswer_keeps, State.handleSealChunk_keeps, State.handleSealConfirm_keeps, State.handleRejoin_keeps, State.handleImageBlock_keeps, State.handleImageStatus_keeps, State.handleLogRequest_keeps, State.handleLogRecords_keeps, keeps_flash] | with_reducible apply keeps_ite | (with_reducible refine keeps_foldl _ ?_ ?_; (first | (rintro t ⟨_, _⟩) | intro t _)) | split)

theorem State.noteFrame_keeps (c : covers [.portN, .portS, .faults, .logs, .pins] G = true) (x1 x2 x3) :
    Keeps G s (u.noteFrame x1 x2 x3) ↔ Keeps G s u := by
  refine keeps_iff (F := [.portN, .portS, .faults, .logs, .pins]) ?_ c
  unfold State.noteFrame
  repeat' (first | with_reducible exact Keeps.refl _ _ | with_reducible assumption | simp (disch := first | decide | exact calm_of_block (by decide) | exact calm_portBlock _ _) only [State.noteSeen_keeps, keeps_flash] | with_reducible apply keeps_ite | (with_reducible refine keeps_foldl _ ?_ ?_; (first | (rintro t ⟨_, _⟩) | intro t _)) | split)

theorem State.take_keeps (c : covers [.portN, .portS, .faults, .logs, .pins, .dealer, .safety, .outputs, .meas, .services, .keeper, .nv, .ring, .dev, .straps, .probes, .clocks, .balance, .fan, .supply, .vehicle, .service, .bist, .flash] G = true) (x1 x2 x3 x4) :
    Keeps G s (u.take x1 x2 x3 x4) ↔ Keeps G s u := by
  refine keeps_iff (F := [.portN, .portS, .faults, .logs, .pins, .dealer, .safety, .outputs, .meas, .services, .keeper, .nv, .ring, .dev, .straps, .probes, .clocks, .balance, .fan, .supply, .vehicle, .service, .bist, .flash]) ?_ c
  unfold State.take
  repeat' (first | with_reducible exact Keeps.refl _ _ | with_reducible assumption | simp (disch := first | decide | exact calm_of_block (by decide) | exact calm_portBlock _ _) only [State.updPort_keeps, State.discard_keeps, State.countDropped_keeps, State.noteFrame_keeps, State.consume_keeps, State.relayLifeline_keeps, State.relay_keeps, keeps_flash] | with_reducible apply keeps_ite | (with_reducible refine keeps_foldl _ ?_ ?_; (first | (rintro t ⟨_, _⟩) | intro t _)) | split)

theorem State.drain_keeps (c : covers [.portN, .portS, .faults, .logs, .pins, .dealer, .safety, .outputs, .meas, .services, .keeper, .nv, .ring, .dev, .straps, .probes, .clocks, .balance, .fan, .supply, .vehicle, .service, .bist, .flash] G = true) (p n) :
    Keeps G s (State.drain p n u) ↔ Keeps G s u := by
  induction n generalizing u with
  | zero => exact Iff.rfl
  | succ n ih =>
    unfold State.drain
    dsimp only
    split
    · rw [ih, State.updPort_keeps (covers_trans (by decide) c)]
    · split
      · exact Iff.rfl
      · rw [ih, State.take_keeps (covers_trans (by decide) c), State.updPort_keeps (covers_trans (by decide) c)]

theorem State.drainAll_keeps (c : covers [.portN, .portS, .faults, .logs, .pins, .dealer, .safety, .outputs, .meas, .services, .keeper, .nv, .ring, .dev, .straps, .probes, .clocks, .balance, .fan, .supply, .vehicle, .service, .bist, .flash] G = true) (x1) :
    Keeps G s (u.drainAll x1) ↔ Keeps G s u := by
  refine keeps_iff (F := [.portN, .portS, .faults, .logs, .pins, .dealer, .safety, .outputs, .meas, .services, .keeper, .nv, .ring, .dev, .straps, .probes, .clocks, .balance, .fan, .supply, .vehicle, .service, .bist, .flash]) ?_ c
  unfold State.drainAll
  repeat' (first | with_reducible exact Keeps.refl _ _ | with_reducible assumption | simp (disch := first | decide | exact calm_of_block (by decide) | exact calm_portBlock _ _) only [State.drain_keeps, State.updPort_keeps, keeps_flash] | with_reducible apply keeps_ite | (with_reducible refine keeps_foldl _ ?_ ?_; (first | (rintro t ⟨_, _⟩) | intro t _)) | split)

theorem State.inOrder_keeps (c : covers [.portN, .portS, .faults, .logs, .pins, .dealer, .safety, .outputs, .meas, .services, .keeper, .nv, .ring, .dev, .straps, .probes, .clocks, .balance, .fan, .supply, .vehicle, .service, .bist, .flash] G = true) (x1 x2 x3 x4) :
    Keeps G s (u.inOrder x1 x2 x3 x4) ↔ Keeps G s u := by
  refine keeps_iff (F := [.portN, .portS, .faults, .logs, .pins, .dealer, .safety, .outputs, .meas, .services, .keeper, .nv, .ring, .dev, .straps, .probes, .clocks, .balance, .fan, .supply, .vehicle, .service, .bist, .flash]) ?_ c
  unfold State.inOrder
  repeat' (first | with_reducible exact Keeps.refl _ _ | with_reducible assumption | simp (disch := first | decide | exact calm_of_block (by decide) | exact calm_portBlock _ _) only [State.updPort_keeps, State.drainAll_keeps, State.take_keeps, State.discard_keeps, keeps_flash] | with_reducible apply keeps_ite | (with_reducible refine keeps_foldl _ ?_ ?_; (first | (rintro t ⟨_, _⟩) | intro t _)) | split)

theorem State.receive_keeps (c : covers [.portN, .portS, .faults, .logs, .pins, .dealer, .safety, .outputs, .meas, .services, .keeper, .nv, .ring, .dev, .straps, .probes, .clocks, .balance, .fan, .supply, .vehicle, .service, .bist, .flash] G = true) (x1 x2 x3 x4) :
    Keeps G s (u.receive x1 x2 x3 x4) ↔ Keeps G s u := by
  refine keeps_iff (F := [.portN, .portS, .faults, .logs, .pins, .dealer, .safety, .outputs, .meas, .services, .keeper, .nv, .ring, .dev, .straps, .probes, .clocks, .balance, .fan, .supply, .vehicle, .service, .bist, .flash]) ?_ c
  unfold State.receive
  repeat' (first | with_reducible exact Keeps.refl _ _ | with_reducible assumption | simp (disch := first | decide | exact calm_of_block (by decide) | exact calm_portBlock _ _) only [State.endFeed_keeps, State.inOrder_keeps, keeps_flash] | with_reducible apply keeps_ite | (with_reducible refine keeps_foldl _ ?_ ?_; (first | (rintro t ⟨_, _⟩) | intro t _)) | split)

theorem State.receiveCall_keeps (c : covers [.portN, .portS, .faults, .logs, .pins, .dealer, .safety, .outputs, .meas, .services, .keeper, .nv, .ring, .dev, .straps, .probes, .clocks, .balance, .fan, .supply, .vehicle, .service, .bist, .flash] G = true) (x1 x2 x3) :
    Keeps G s (u.receiveCall x1 x2 x3) ↔ Keeps G s u := by
  refine keeps_iff (F := [.portN, .portS, .faults, .logs, .pins, .dealer, .safety, .outputs, .meas, .services, .keeper, .nv, .ring, .dev, .straps, .probes, .clocks, .balance, .fan, .supply, .vehicle, .service, .bist, .flash]) ?_ c
  unfold State.receiveCall
  repeat' (first | with_reducible exact Keeps.refl _ _ | with_reducible assumption | simp (disch := first | decide | exact calm_of_block (by decide) | exact calm_portBlock _ _) only [State.receive_keeps, keeps_flash] | with_reducible apply keeps_ite | (with_reducible refine keeps_foldl _ ?_ ?_; (first | (rintro t ⟨_, _⟩) | intro t _)) | split)

theorem State.receiveService_keeps (c : covers [.portN, .portS, .faults, .logs, .pins, .dealer, .safety, .outputs, .meas, .services, .keeper, .nv, .ring, .dev, .straps, .probes, .clocks, .balance, .fan, .supply, .vehicle, .service, .bist, .flash] G = true) (x1 x2 x3) :
    Keeps G s (u.receiveService x1 x2 x3) ↔ Keeps G s u := by
  refine keeps_iff (F := [.portN, .portS, .faults, .logs, .pins, .dealer, .safety, .outputs, .meas, .services, .keeper, .nv, .ring, .dev, .straps, .probes, .clocks, .balance, .fan, .supply, .vehicle, .service, .bist, .flash]) ?_ c
  unfold State.receiveService
  repeat' (first | with_reducible exact Keeps.refl _ _ | with_reducible assumption | simp (disch := first | decide | exact calm_of_block (by decide) | exact calm_portBlock _ _) only [State.receive_keeps, keeps_flash] | with_reducible apply keeps_ite | (with_reducible refine keeps_foldl _ ?_ ?_; (first | (rintro t ⟨_, _⟩) | intro t _)) | split)

theorem State.feedAnswered_keeps (c : covers [.portN, .portS] G = true) (x1) :
    Keeps G s (u.feedAnswered x1) ↔ Keeps G s u := by
  refine keeps_iff (F := [.portN, .portS]) ?_ c
  unfold State.feedAnswered
  repeat' (first | with_reducible exact Keeps.refl _ _ | with_reducible assumption | simp (disch := first | decide | exact calm_of_block (by decide) | exact calm_portBlock _ _) only [State.updPort_keeps, keeps_flash] | with_reducible apply keeps_ite | (with_reducible refine keeps_foldl _ ?_ ?_; (first | (rintro t ⟨_, _⟩) | intro t _)) | split)

theorem State.beaconAtDealer_keeps (c : covers [.dealer, .faults, .logs, .pins] G = true) (x1 x2) :
    Keeps G s (u.beaconAtDealer x1 x2) ↔ Keeps G s u := by
  refine keeps_iff (F := [.dealer, .faults, .logs, .pins]) ?_ c
  unfold State.beaconAtDealer
  repeat' (first | with_reducible exact Keeps.refl _ _ | with_reducible assumption | simp (disch := first | decide | exact calm_of_block (by decide) | exact calm_portBlock _ _) only [State.raise_keeps, State.raise_keeps_calm, State.updDealer_keeps, keeps_flash] | with_reducible apply keeps_ite | (with_reducible refine keeps_foldl _ ?_ ?_; (first | (rintro t ⟨_, _⟩) | intro t _)) | split)

theorem State.enterDeal_keeps (c : covers [.ring, .portN, .portS, .service] G = true) (x1) :
    Keeps G s (u.enterDeal x1) ↔ Keeps G s u := by
  refine keeps_iff (F := [.ring, .portN, .portS, .service]) ?_ c
  unfold State.enterDeal
  repeat' (first | with_reducible exact Keeps.refl _ _ | with_reducible assumption | simp (disch := first | decide | exact calm_of_block (by decide) | exact calm_portBlock _ _) only [State.newDeal_keeps, State.updRing_keeps, State.releaseHeld_keeps, keeps_flash] | with_reducible apply keeps_ite | (with_reducible refine keeps_foldl _ ?_ ?_; (first | (rintro t ⟨_, _⟩) | intro t _)) | split)

theorem State.copyLock_keeps (c : covers [.keeper, .nv] G = true) (x1) :
    Keeps G s (u.copyLock x1) ↔ Keeps G s u := by
  refine keeps_iff (F := [.keeper, .nv]) ?_ c
  unfold State.copyLock
  repeat' (first | with_reducible exact Keeps.refl _ _ | with_reducible assumption | simp (disch := first | decide | exact calm_of_block (by decide) | exact calm_portBlock _ _) only [State.updNv_keeps, State.updKeeper_keeps, keeps_flash] | with_reducible apply keeps_ite | (with_reducible refine keeps_foldl _ ?_ ?_; (first | (rintro t ⟨_, _⟩) | intro t _)) | split)

theorem State.notePosition_keeps (c : covers [.keeper] G = true) :
    Keeps G s (u.notePosition) ↔ Keeps G s u := by
  refine keeps_iff (F := [.keeper]) ?_ c
  unfold State.notePosition
  repeat' (first | with_reducible exact Keeps.refl _ _ | with_reducible assumption | simp (disch := first | decide | exact calm_of_block (by decide) | exact calm_portBlock _ _) only [State.updKeeper_keeps, keeps_flash] | with_reducible apply keeps_ite | (with_reducible refine keeps_foldl _ ?_ ?_; (first | (rintro t ⟨_, _⟩) | intro t _)) | split)

theorem State.beaconSide_keeps (c : covers [.logs, .ring] G = true) (x1 x2 x3) :
    Keeps G s (u.beaconSide x1 x2 x3) ↔ Keeps G s u := by
  refine keeps_iff (F := [.logs, .ring]) ?_ c
  unfold State.beaconSide
  repeat' (first | with_reducible exact Keeps.refl _ _ | with_reducible assumption | simp (disch := first | decide | exact calm_of_block (by decide) | exact calm_portBlock _ _) only [State.updRing_keeps, State.takePhase_keeps, keeps_flash] | with_reducible apply keeps_ite | (with_reducible refine keeps_foldl _ ?_ ?_; (first | (rintro t ⟨_, _⟩) | intro t _)) | split)

theorem State.acceptBeacon_keeps (c : covers [.ring, .portN, .portS, .service, .keeper, .nv, .logs, .balance, .faults, .pins, .safety, .outputs, .meas, .dev] G = true) (x1 x2 x3) :
    Keeps G s (u.acceptBeacon x1 x2 x3) ↔ Keeps G s u := by
  refine keeps_iff (F := [.ring, .portN, .portS, .service, .keeper, .nv, .logs, .balance, .faults, .pins, .safety, .outputs, .meas, .dev]) ?_ c
  unfold State.acceptBeacon
  repeat' (first | with_reducible exact Keeps.refl _ _ | with_reducible assumption | simp (disch := first | decide | exact calm_of_block (by decide) | exact calm_portBlock _ _) only [State.enterDeal_keeps, State.updRing_keeps, State.notePosition_keeps, State.beaconSide_keeps, State.copyLock_keeps, State.pendingAtBeacon_keeps, State.takeBaseline_keeps, State.endJobs_keeps, State.stringCommand_keeps, State.updDev_keeps, keeps_flash] | with_reducible apply keeps_ite | (with_reducible refine keeps_foldl _ ?_ ?_; (first | (rintro t ⟨_, _⟩) | intro t _)) | split)

theorem State.relayBeacon_keeps (c : covers [.portN, .portS] G = true) (x1 x2) :
    Keeps G s (u.relayBeacon x1 x2) ↔ Keeps G s u := by
  refine keeps_iff (F := [.portN, .portS]) ?_ c
  unfold State.relayBeacon
  repeat' (first | with_reducible exact Keeps.refl _ _ | with_reducible assumption | simp (disch := first | decide | exact calm_of_block (by decide) | exact calm_portBlock _ _) only [State.updPort_keeps, State.sendBeacon_keeps, keeps_flash] | with_reducible apply keeps_ite | (with_reducible refine keeps_foldl _ ?_ ?_; (first | (rintro t ⟨_, _⟩) | intro t _)) | split)

theorem State.endBeaconCopy_keeps (c : covers [.portN, .portS] G = true) (x1 x2) :
    Keeps G s (u.endBeaconCopy x1 x2) ↔ Keeps G s u := by
  refine keeps_iff (F := [.portN, .portS]) ?_ c
  unfold State.endBeaconCopy
  repeat' (first | with_reducible exact Keeps.refl _ _ | with_reducible assumption | simp (disch := first | decide | exact calm_of_block (by decide) | exact calm_portBlock _ _) only [State.updPort_keeps, keeps_flash] | with_reducible apply keeps_ite | (with_reducible refine keeps_foldl _ ?_ ?_; (first | (rintro t ⟨_, _⟩) | intro t _)) | split)

/-! ### Tick -/

theorem State.tick_keeps (c : covers [.keeper, .dev, .safety, .supply, .logs, .portN, .portS, .fan, .outputs, .meas] G = true) :
    Keeps G s (u.tick) ↔ Keeps G s u := by
  refine keeps_iff (F := [.keeper, .dev, .safety, .supply, .logs, .portN, .portS, .fan, .outputs, .meas]) ?_ c
  unfold State.tick
  repeat' (first | with_reducible exact Keeps.refl _ _ | with_reducible assumption | simp (disch := first | decide | exact calm_of_block (by decide) | exact calm_portBlock _ _) only [State.updDev_keeps, State.updKeeper_keeps, State.updSafety_keeps, State.leaveLowest_keeps, keeps_flash] | with_reducible apply keeps_ite | (with_reducible refine keeps_foldl _ ?_ ?_; (first | (rintro t ⟨_, _⟩) | intro t _)) | split)

end Sys2Proof.Machine
end

