-- ==== Sys2Proof/Laws/State.lean ====
section
/-!
SUPPORT. One lemma for each field of the state under each update of a group: what an update reads back as.
-/
namespace Sys2Proof.Machine

/-! ### `updDev` -/

section
variable (s : State) (f : Dev → Dev)
@[simp] theorem State.updDev_dev : (s.updDev f).dev = f s.dev := rfl
@[simp] theorem State.updDev_keeper : (s.updDev f).keeper = s.keeper := rfl
@[simp] theorem State.updDev_nv : (s.updDev f).nv = s.nv := rfl
@[simp] theorem State.updDev_flash : (s.updDev f).flash = s.flash := rfl
@[simp] theorem State.updDev_straps : (s.updDev f).straps = s.straps := rfl
@[simp] theorem State.updDev_meas : (s.updDev f).meas = s.meas := rfl
@[simp] theorem State.updDev_probes : (s.updDev f).probes = s.probes := rfl
@[simp] theorem State.updDev_clocks : (s.updDev f).clocks = s.clocks := rfl
@[simp] theorem State.updDev_portN : (s.updDev f).portN = s.portN := rfl
@[simp] theorem State.updDev_portS : (s.updDev f).portS = s.portS := rfl
@[simp] theorem State.updDev_ring : (s.updDev f).ring = s.ring := rfl
@[simp] theorem State.updDev_dealer : (s.updDev f).dealer = s.dealer := rfl
@[simp] theorem State.updDev_services : (s.updDev f).services = s.services := rfl
@[simp] theorem State.updDev_balance : (s.updDev f).balance = s.balance := rfl
@[simp] theorem State.updDev_outputs : (s.updDev f).outputs = s.outputs := rfl
@[simp] theorem State.updDev_fan : (s.updDev f).fan = s.fan := rfl
@[simp] theorem State.updDev_supply : (s.updDev f).supply = s.supply := rfl
@[simp] theorem State.updDev_life : (s.updDev f).life = s.life := rfl
@[simp] theorem State.updDev_safety : (s.updDev f).safety = s.safety := rfl
@[simp] theorem State.updDev_vehicle : (s.updDev f).vehicle = s.vehicle := rfl
@[simp] theorem State.updDev_pins : (s.updDev f).pins = s.pins := rfl
@[simp] theorem State.updDev_logs : (s.updDev f).logs = s.logs := rfl
@[simp] theorem State.updDev_service : (s.updDev f).service = s.service := rfl
@[simp] theorem State.updDev_bist : (s.updDev f).bist = s.bist := rfl
@[simp] theorem State.updDev_faults : (s.updDev f).faults = s.faults := rfl
@[simp] theorem State.updDev_pending : (s.updDev f).pending = s.pending := rfl
@[simp] theorem State.updDev_port (p : Port) : (s.updDev f).port p = s.port p := by cases p <;> rfl
end

/-! ### `updKeeper` -/

section
variable (s : State) (f : Keeper → Keeper)
@[simp] theorem State.updKeeper_dev : (s.updKeeper f).dev = s.dev := rfl
@[simp] theorem State.updKeeper_keeper : (s.updKeeper f).keeper = f s.keeper := rfl
@[simp] theorem State.updKeeper_nv : (s.updKeeper f).nv = s.nv := rfl
@[simp] theorem State.updKeeper_flash : (s.updKeeper f).flash = s.flash := rfl
@[simp] theorem State.updKeeper_straps : (s.updKeeper f).straps = s.straps := rfl
@[simp] theorem State.updKeeper_meas : (s.updKeeper f).meas = s.meas := rfl
@[simp] theorem State.updKeeper_probes : (s.updKeeper f).probes = s.probes := rfl
@[simp] theorem State.updKeeper_clocks : (s.updKeeper f).clocks = s.clocks := rfl
@[simp] theorem State.updKeeper_portN : (s.updKeeper f).portN = s.portN := rfl
@[simp] theorem State.updKeeper_portS : (s.updKeeper f).portS = s.portS := rfl
@[simp] theorem State.updKeeper_ring : (s.updKeeper f).ring = s.ring := rfl
@[simp] theorem State.updKeeper_dealer : (s.updKeeper f).dealer = s.dealer := rfl
@[simp] theorem State.updKeeper_services : (s.updKeeper f).services = s.services := rfl
@[simp] theorem State.updKeeper_balance : (s.updKeeper f).balance = s.balance := rfl
@[simp] theorem State.updKeeper_outputs : (s.updKeeper f).outputs = s.outputs := rfl
@[simp] theorem State.updKeeper_fan : (s.updKeeper f).fan = s.fan := rfl
@[simp] theorem State.updKeeper_supply : (s.updKeeper f).supply = s.supply := rfl
@[simp] theorem State.updKeeper_life : (s.updKeeper f).life = s.life := rfl
@[simp] theorem State.updKeeper_safety : (s.updKeeper f).safety = s.safety := rfl
@[simp] theorem State.updKeeper_vehicle : (s.updKeeper f).vehicle = s.vehicle := rfl
@[simp] theorem State.updKeeper_pins : (s.updKeeper f).pins = s.pins := rfl
@[simp] theorem State.updKeeper_logs : (s.updKeeper f).logs = s.logs := rfl
@[simp] theorem State.updKeeper_service : (s.updKeeper f).service = s.service := rfl
@[simp] theorem State.updKeeper_bist : (s.updKeeper f).bist = s.bist := rfl
@[simp] theorem State.updKeeper_faults : (s.updKeeper f).faults = s.faults := rfl
@[simp] theorem State.updKeeper_pending : (s.updKeeper f).pending = s.pending := rfl
@[simp] theorem State.updKeeper_port (p : Port) : (s.updKeeper f).port p = s.port p := by cases p <;> rfl
end

/-! ### `updNv` -/

section
variable (s : State) (f : NonVolatile → NonVolatile)
@[simp] theorem State.updNv_dev : (s.updNv f).dev = s.dev := rfl
@[simp] theorem State.updNv_keeper : (s.updNv f).keeper = s.keeper := rfl
@[simp] theorem State.updNv_nv : (s.updNv f).nv = f s.nv := rfl
@[simp] theorem State.updNv_flash : (s.updNv f).flash = s.flash := rfl
@[simp] theorem State.updNv_straps : (s.updNv f).straps = s.straps := rfl
@[simp] theorem State.updNv_meas : (s.updNv f).meas = s.meas := rfl
@[simp] theorem State.updNv_probes : (s.updNv f).probes = s.probes := rfl
@[simp] theorem State.updNv_clocks : (s.updNv f).clocks = s.clocks := rfl
@[simp] theorem State.updNv_portN : (s.updNv f).portN = s.portN := rfl
@[simp] theorem State.updNv_portS : (s.updNv f).portS = s.portS := rfl
@[simp] theorem State.updNv_ring : (s.updNv f).ring = s.ring := rfl
@[simp] theorem State.updNv_dealer : (s.updNv f).dealer = s.dealer := rfl
@[simp] theorem State.updNv_services : (s.updNv f).services = s.services := rfl
@[simp] theorem State.updNv_balance : (s.updNv f).balance = s.balance := rfl
@[simp] theorem State.updNv_outputs : (s.updNv f).outputs = s.outputs := rfl
@[simp] theorem State.updNv_fan : (s.updNv f).fan = s.fan := rfl
@[simp] theorem State.updNv_supply : (s.updNv f).supply = s.supply := rfl
@[simp] theorem State.updNv_life : (s.updNv f).life = s.life := rfl
@[simp] theorem State.updNv_safety : (s.updNv f).safety = s.safety := rfl
@[simp] theorem State.updNv_vehicle : (s.updNv f).vehicle = s.vehicle := rfl
@[simp] theorem State.updNv_pins : (s.updNv f).pins = s.pins := rfl
@[simp] theorem State.updNv_logs : (s.updNv f).logs = s.logs := rfl
@[simp] theorem State.updNv_service : (s.updNv f).service = s.service := rfl
@[simp] theorem State.updNv_bist : (s.updNv f).bist = s.bist := rfl
@[simp] theorem State.updNv_faults : (s.updNv f).faults = s.faults := rfl
@[simp] theorem State.updNv_pending : (s.updNv f).pending = s.pending := rfl
@[simp] theorem State.updNv_port (p : Port) : (s.updNv f).port p = s.port p := by cases p <;> rfl
end

/-! ### `updStraps` -/

section
variable (s : State) (f : Straps → Straps)
@[simp] theorem State.updStraps_dev : (s.updStraps f).dev = s.dev := rfl
@[simp] theorem State.updStraps_keeper : (s.updStraps f).keeper = s.keeper := rfl
@[simp] theorem State.updStraps_nv : (s.updStraps f).nv = s.nv := rfl
@[simp] theorem State.updStraps_flash : (s.updStraps f).flash = s.flash := rfl
@[simp] theorem State.updStraps_straps : (s.updStraps f).straps = f s.straps := rfl
@[simp] theorem State.updStraps_meas : (s.updStraps f).meas = s.meas := rfl
@[simp] theorem State.updStraps_probes : (s.updStraps f).probes = s.probes := rfl
@[simp] theorem State.updStraps_clocks : (s.updStraps f).clocks = s.clocks := rfl
@[simp] theorem State.updStraps_portN : (s.updStraps f).portN = s.portN := rfl
@[simp] theorem State.updStraps_portS : (s.updStraps f).portS = s.portS := rfl
@[simp] theorem State.updStraps_ring : (s.updStraps f).ring = s.ring := rfl
@[simp] theorem State.updStraps_dealer : (s.updStraps f).dealer = s.dealer := rfl
@[simp] theorem State.updStraps_services : (s.updStraps f).services = s.services := rfl
@[simp] theorem State.updStraps_balance : (s.updStraps f).balance = s.balance := rfl
@[simp] theorem State.updStraps_outputs : (s.updStraps f).outputs = s.outputs := rfl
@[simp] theorem State.updStraps_fan : (s.updStraps f).fan = s.fan := rfl
@[simp] theorem State.updStraps_supply : (s.updStraps f).supply = s.supply := rfl
@[simp] theorem State.updStraps_life : (s.updStraps f).life = s.life := rfl
@[simp] theorem State.updStraps_safety : (s.updStraps f).safety = s.safety := rfl
@[simp] theorem State.updStraps_vehicle : (s.updStraps f).vehicle = s.vehicle := rfl
@[simp] theorem State.updStraps_pins : (s.updStraps f).pins = s.pins := rfl
@[simp] theorem State.updStraps_logs : (s.updStraps f).logs = s.logs := rfl
@[simp] theorem State.updStraps_service : (s.updStraps f).service = s.service := rfl
@[simp] theorem State.updStraps_bist : (s.updStraps f).bist = s.bist := rfl
@[simp] theorem State.updStraps_faults : (s.updStraps f).faults = s.faults := rfl
@[simp] theorem State.updStraps_pending : (s.updStraps f).pending = s.pending := rfl
@[simp] theorem State.updStraps_port (p : Port) : (s.updStraps f).port p = s.port p := by cases p <;> rfl
end

/-! ### `updMeas` -/

section
variable (s : State) (f : Meas → Meas)
@[simp] theorem State.updMeas_dev : (s.updMeas f).dev = s.dev := rfl
@[simp] theorem State.updMeas_keeper : (s.updMeas f).keeper = s.keeper := rfl
@[simp] theorem State.updMeas_nv : (s.updMeas f).nv = s.nv := rfl
@[simp] theorem State.updMeas_flash : (s.updMeas f).flash = s.flash := rfl
@[simp] theorem State.updMeas_straps : (s.updMeas f).straps = s.straps := rfl
@[simp] theorem State.updMeas_meas : (s.updMeas f).meas = f s.meas := rfl
@[simp] theorem State.updMeas_probes : (s.updMeas f).probes = s.probes := rfl
@[simp] theorem State.updMeas_clocks : (s.updMeas f).clocks = s.clocks := rfl
@[simp] theorem State.updMeas_portN : (s.updMeas f).portN = s.portN := rfl
@[simp] theorem State.updMeas_portS : (s.updMeas f).portS = s.portS := rfl
@[simp] theorem State.updMeas_ring : (s.updMeas f).ring = s.ring := rfl
@[simp] theorem State.updMeas_dealer : (s.updMeas f).dealer = s.dealer := rfl
@[simp] theorem State.updMeas_services : (s.updMeas f).services = s.services := rfl
@[simp] theorem State.updMeas_balance : (s.updMeas f).balance = s.balance := rfl
@[simp] theorem State.updMeas_outputs : (s.updMeas f).outputs = s.outputs := rfl
@[simp] theorem State.updMeas_fan : (s.updMeas f).fan = s.fan := rfl
@[simp] theorem State.updMeas_supply : (s.updMeas f).supply = s.supply := rfl
@[simp] theorem State.updMeas_life : (s.updMeas f).life = s.life := rfl
@[simp] theorem State.updMeas_safety : (s.updMeas f).safety = s.safety := rfl
@[simp] theorem State.updMeas_vehicle : (s.updMeas f).vehicle = s.vehicle := rfl
@[simp] theorem State.updMeas_pins : (s.updMeas f).pins = s.pins := rfl
@[simp] theorem State.updMeas_logs : (s.updMeas f).logs = s.logs := rfl
@[simp] theorem State.updMeas_service : (s.updMeas f).service = s.service := rfl
@[simp] theorem State.updMeas_bist : (s.updMeas f).bist = s.bist := rfl
@[simp] theorem State.updMeas_faults : (s.updMeas f).faults = s.faults := rfl
@[simp] theorem State.updMeas_pending : (s.updMeas f).pending = s.pending := rfl
@[simp] theorem State.updMeas_port (p : Port) : (s.updMeas f).port p = s.port p := by cases p <;> rfl
end

/-! ### `updProbes` -/

section
variable (s : State) (f : ProbeWire → ProbeWire)
@[simp] theorem State.updProbes_dev : (s.updProbes f).dev = s.dev := rfl
@[simp] theorem State.updProbes_keeper : (s.updProbes f).keeper = s.keeper := rfl
@[simp] theorem State.updProbes_nv : (s.updProbes f).nv = s.nv := rfl
@[simp] theorem State.updProbes_flash : (s.updProbes f).flash = s.flash := rfl
@[simp] theorem State.updProbes_straps : (s.updProbes f).straps = s.straps := rfl
@[simp] theorem State.updProbes_meas : (s.updProbes f).meas = s.meas := rfl
@[simp] theorem State.updProbes_probes : (s.updProbes f).probes = f s.probes := rfl
@[simp] theorem State.updProbes_clocks : (s.updProbes f).clocks = s.clocks := rfl
@[simp] theorem State.updProbes_portN : (s.updProbes f).portN = s.portN := rfl
@[simp] theorem State.updProbes_portS : (s.updProbes f).portS = s.portS := rfl
@[simp] theorem State.updProbes_ring : (s.updProbes f).ring = s.ring := rfl
@[simp] theorem State.updProbes_dealer : (s.updProbes f).dealer = s.dealer := rfl
@[simp] theorem State.updProbes_services : (s.updProbes f).services = s.services := rfl
@[simp] theorem State.updProbes_balance : (s.updProbes f).balance = s.balance := rfl
@[simp] theorem State.updProbes_outputs : (s.updProbes f).outputs = s.outputs := rfl
@[simp] theorem State.updProbes_fan : (s.updProbes f).fan = s.fan := rfl
@[simp] theorem State.updProbes_supply : (s.updProbes f).supply = s.supply := rfl
@[simp] theorem State.updProbes_life : (s.updProbes f).life = s.life := rfl
@[simp] theorem State.updProbes_safety : (s.updProbes f).safety = s.safety := rfl
@[simp] theorem State.updProbes_vehicle : (s.updProbes f).vehicle = s.vehicle := rfl
@[simp] theorem State.updProbes_pins : (s.updProbes f).pins = s.pins := rfl
@[simp] theorem State.updProbes_logs : (s.updProbes f).logs = s.logs := rfl
@[simp] theorem State.updProbes_service : (s.updProbes f).service = s.service := rfl
@[simp] theorem State.updProbes_bist : (s.updProbes f).bist = s.bist := rfl
@[simp] theorem State.updProbes_faults : (s.updProbes f).faults = s.faults := rfl
@[simp] theorem State.updProbes_pending : (s.updProbes f).pending = s.pending := rfl
@[simp] theorem State.updProbes_port (p : Port) : (s.updProbes f).port p = s.port p := by cases p <;> rfl
end

/-! ### `updClocks` -/

section
variable (s : State) (f : Clocks → Clocks)
@[simp] theorem State.updClocks_dev : (s.updClocks f).dev = s.dev := rfl
@[simp] theorem State.updClocks_keeper : (s.updClocks f).keeper = s.keeper := rfl
@[simp] theorem State.updClocks_nv : (s.updClocks f).nv = s.nv := rfl
@[simp] theorem State.updClocks_flash : (s.updClocks f).flash = s.flash := rfl
@[simp] theorem State.updClocks_straps : (s.updClocks f).straps = s.straps := rfl
@[simp] theorem State.updClocks_meas : (s.updClocks f).meas = s.meas := rfl
@[simp] theorem State.updClocks_probes : (s.updClocks f).probes = s.probes := rfl
@[simp] theorem State.updClocks_clocks : (s.updClocks f).clocks = f s.clocks := rfl
@[simp] theorem State.updClocks_portN : (s.updClocks f).portN = s.portN := rfl
@[simp] theorem State.updClocks_portS : (s.updClocks f).portS = s.portS := rfl
@[simp] theorem State.updClocks_ring : (s.updClocks f).ring = s.ring := rfl
@[simp] theorem State.updClocks_dealer : (s.updClocks f).dealer = s.dealer := rfl
@[simp] theorem State.updClocks_services : (s.updClocks f).services = s.services := rfl
@[simp] theorem State.updClocks_balance : (s.updClocks f).balance = s.balance := rfl
@[simp] theorem State.updClocks_outputs : (s.updClocks f).outputs = s.outputs := rfl
@[simp] theorem State.updClocks_fan : (s.updClocks f).fan = s.fan := rfl
@[simp] theorem State.updClocks_supply : (s.updClocks f).supply = s.supply := rfl
@[simp] theorem State.updClocks_life : (s.updClocks f).life = s.life := rfl
@[simp] theorem State.updClocks_safety : (s.updClocks f).safety = s.safety := rfl
@[simp] theorem State.updClocks_vehicle : (s.updClocks f).vehicle = s.vehicle := rfl
@[simp] theorem State.updClocks_pins : (s.updClocks f).pins = s.pins := rfl
@[simp] theorem State.updClocks_logs : (s.updClocks f).logs = s.logs := rfl
@[simp] theorem State.updClocks_service : (s.updClocks f).service = s.service := rfl
@[simp] theorem State.updClocks_bist : (s.updClocks f).bist = s.bist := rfl
@[simp] theorem State.updClocks_faults : (s.updClocks f).faults = s.faults := rfl
@[simp] theorem State.updClocks_pending : (s.updClocks f).pending = s.pending := rfl
@[simp] theorem State.updClocks_port (p : Port) : (s.updClocks f).port p = s.port p := by cases p <;> rfl
end

/-! ### `updRing` -/

section
variable (s : State) (f : Ring → Ring)
@[simp] theorem State.updRing_dev : (s.updRing f).dev = s.dev := rfl
@[simp] theorem State.updRing_keeper : (s.updRing f).keeper = s.keeper := rfl
@[simp] theorem State.updRing_nv : (s.updRing f).nv = s.nv := rfl
@[simp] theorem State.updRing_flash : (s.updRing f).flash = s.flash := rfl
@[simp] theorem State.updRing_straps : (s.updRing f).straps = s.straps := rfl
@[simp] theorem State.updRing_meas : (s.updRing f).meas = s.meas := rfl
@[simp] theorem State.updRing_probes : (s.updRing f).probes = s.probes := rfl
@[simp] theorem State.updRing_clocks : (s.updRing f).clocks = s.clocks := rfl
@[simp] theorem State.updRing_portN : (s.updRing f).portN = s.portN := rfl
@[simp] theorem State.updRing_portS : (s.updRing f).portS = s.portS := rfl
@[simp] theorem State.updRing_ring : (s.updRing f).ring = f s.ring := rfl
@[simp] theorem State.updRing_dealer : (s.updRing f).dealer = s.dealer := rfl
@[simp] theorem State.updRing_services : (s.updRing f).services = s.services := rfl
@[simp] theorem State.updRing_balance : (s.updRing f).balance = s.balance := rfl
@[simp] theorem State.updRing_outputs : (s.updRing f).outputs = s.outputs := rfl
@[simp] theorem State.updRing_fan : (s.updRing f).fan = s.fan := rfl
@[simp] theorem State.updRing_supply : (s.updRing f).supply = s.supply := rfl
@[simp] theorem State.updRing_life : (s.updRing f).life = s.life := rfl
@[simp] theorem State.updRing_safety : (s.updRing f).safety = s.safety := rfl
@[simp] theorem State.updRing_vehicle : (s.updRing f).vehicle = s.vehicle := rfl
@[simp] theorem State.updRing_pins : (s.updRing f).pins = s.pins := rfl
@[simp] theorem State.updRing_logs : (s.updRing f).logs = s.logs := rfl
@[simp] theorem State.updRing_service : (s.updRing f).service = s.service := rfl
@[simp] theorem State.updRing_bist : (s.updRing f).bist = s.bist := rfl
@[simp] theorem State.updRing_faults : (s.updRing f).faults = s.faults := rfl
@[simp] theorem State.updRing_pending : (s.updRing f).pending = s.pending := rfl
@[simp] theorem State.updRing_port (p : Port) : (s.updRing f).port p = s.port p := by cases p <;> rfl
end

/-! ### `updDealer` -/

section
variable (s : State) (f : Dealer → Dealer)
@[simp] theorem State.updDealer_dev : (s.updDealer f).dev = s.dev := rfl
@[simp] theorem State.updDealer_keeper : (s.updDealer f).keeper = s.keeper := rfl
@[simp] theorem State.updDealer_nv : (s.updDealer f).nv = s.nv := rfl
@[simp] theorem State.updDealer_flash : (s.updDealer f).flash = s.flash := rfl
@[simp] theorem State.updDealer_straps : (s.updDealer f).straps = s.straps := rfl
@[simp] theorem State.updDealer_meas : (s.updDealer f).meas = s.meas := rfl
@[simp] theorem State.updDealer_probes : (s.updDealer f).probes = s.probes := rfl
@[simp] theorem State.updDealer_clocks : (s.updDealer f).clocks = s.clocks := rfl
@[simp] theorem State.updDealer_portN : (s.updDealer f).portN = s.portN := rfl
@[simp] theorem State.updDealer_portS : (s.updDealer f).portS = s.portS := rfl
@[simp] theorem State.updDealer_ring : (s.updDealer f).ring = s.ring := rfl
@[simp] theorem State.updDealer_dealer : (s.updDealer f).dealer = f s.dealer := rfl
@[simp] theorem State.updDealer_services : (s.updDealer f).services = s.services := rfl
@[simp] theorem State.updDealer_balance : (s.updDealer f).balance = s.balance := rfl
@[simp] theorem State.updDealer_outputs : (s.updDealer f).outputs = s.outputs := rfl
@[simp] theorem State.updDealer_fan : (s.updDealer f).fan = s.fan := rfl
@[simp] theorem State.updDealer_supply : (s.updDealer f).supply = s.supply := rfl
@[simp] theorem State.updDealer_life : (s.updDealer f).life = s.life := rfl
@[simp] theorem State.updDealer_safety : (s.updDealer f).safety = s.safety := rfl
@[simp] theorem State.updDealer_vehicle : (s.updDealer f).vehicle = s.vehicle := rfl
@[simp] theorem State.updDealer_pins : (s.updDealer f).pins = s.pins := rfl
@[simp] theorem State.updDealer_logs : (s.updDealer f).logs = s.logs := rfl
@[simp] theorem State.updDealer_service : (s.updDealer f).service = s.service := rfl
@[simp] theorem State.updDealer_bist : (s.updDealer f).bist = s.bist := rfl
@[simp] theorem State.updDealer_faults : (s.updDealer f).faults = s.faults := rfl
@[simp] theorem State.updDealer_pending : (s.updDealer f).pending = s.pending := rfl
@[simp] theorem State.updDealer_port (p : Port) : (s.updDealer f).port p = s.port p := by cases p <;> rfl
end

/-! ### `updServices` -/

section
variable (s : State) (f : Services → Services)
@[simp] theorem State.updServices_dev : (s.updServices f).dev = s.dev := rfl
@[simp] theorem State.updServices_keeper : (s.updServices f).keeper = s.keeper := rfl
@[simp] theorem State.updServices_nv : (s.updServices f).nv = s.nv := rfl
@[simp] theorem State.updServices_flash : (s.updServices f).flash = s.flash := rfl
@[simp] theorem State.updServices_straps : (s.updServices f).straps = s.straps := rfl
@[simp] theorem State.updServices_meas : (s.updServices f).meas = s.meas := rfl
@[simp] theorem State.updServices_probes : (s.updServices f).probes = s.probes := rfl
@[simp] theorem State.updServices_clocks : (s.updServices f).clocks = s.clocks := rfl
@[simp] theorem State.updServices_portN : (s.updServices f).portN = s.portN := rfl
@[simp] theorem State.updServices_portS : (s.updServices f).portS = s.portS := rfl
@[simp] theorem State.updServices_ring : (s.updServices f).ring = s.ring := rfl
@[simp] theorem State.updServices_dealer : (s.updServices f).dealer = s.dealer := rfl
@[simp] theorem State.updServices_services : (s.updServices f).services = f s.services := rfl
@[simp] theorem State.updServices_balance : (s.updServices f).balance = s.balance := rfl
@[simp] theorem State.updServices_outputs : (s.updServices f).outputs = s.outputs := rfl
@[simp] theorem State.updServices_fan : (s.updServices f).fan = s.fan := rfl
@[simp] theorem State.updServices_supply : (s.updServices f).supply = s.supply := rfl
@[simp] theorem State.updServices_life : (s.updServices f).life = s.life := rfl
@[simp] theorem State.updServices_safety : (s.updServices f).safety = s.safety := rfl
@[simp] theorem State.updServices_vehicle : (s.updServices f).vehicle = s.vehicle := rfl
@[simp] theorem State.updServices_pins : (s.updServices f).pins = s.pins := rfl
@[simp] theorem State.updServices_logs : (s.updServices f).logs = s.logs := rfl
@[simp] theorem State.updServices_service : (s.updServices f).service = s.service := rfl
@[simp] theorem State.updServices_bist : (s.updServices f).bist = s.bist := rfl
@[simp] theorem State.updServices_faults : (s.updServices f).faults = s.faults := rfl
@[simp] theorem State.updServices_pending : (s.updServices f).pending = s.pending := rfl
@[simp] theorem State.updServices_port (p : Port) : (s.updServices f).port p = s.port p := by cases p <;> rfl
end

/-! ### `updBalance` -/

section
variable (s : State) (f : Balance → Balance)
@[simp] theorem State.updBalance_dev : (s.updBalance f).dev = s.dev := rfl
@[simp] theorem State.updBalance_keeper : (s.updBalance f).keeper = s.keeper := rfl
@[simp] theorem State.updBalance_nv : (s.updBalance f).nv = s.nv := rfl
@[simp] theorem State.updBalance_flash : (s.updBalance f).flash = s.flash := rfl
@[simp] theorem State.updBalance_straps : (s.updBalance f).straps = s.straps := rfl
@[simp] theorem State.updBalance_meas : (s.updBalance f).meas = s.meas := rfl
@[simp] theorem State.updBalance_probes : (s.updBalance f).probes = s.probes := rfl
@[simp] theorem State.updBalance_clocks : (s.updBalance f).clocks = s.clocks := rfl
@[simp] theorem State.updBalance_portN : (s.updBalance f).portN = s.portN := rfl
@[simp] theorem State.updBalance_portS : (s.updBalance f).portS = s.portS := rfl
@[simp] theorem State.updBalance_ring : (s.updBalance f).ring = s.ring := rfl
@[simp] theorem State.updBalance_dealer : (s.updBalance f).dealer = s.dealer := rfl
@[simp] theorem State.updBalance_services : (s.updBalance f).services = s.services := rfl
@[simp] theorem State.updBalance_balance : (s.updBalance f).balance = f s.balance := rfl
@[simp] theorem State.updBalance_outputs : (s.updBalance f).outputs = s.outputs := rfl
@[simp] theorem State.updBalance_fan : (s.updBalance f).fan = s.fan := rfl
@[simp] theorem State.updBalance_supply : (s.updBalance f).supply = s.supply := rfl
@[simp] theorem State.updBalance_life : (s.updBalance f).life = s.life := rfl
@[simp] theorem State.updBalance_safety : (s.updBalance f).safety = s.safety := rfl
@[simp] theorem State.updBalance_vehicle : (s.updBalance f).vehicle = s.vehicle := rfl
@[simp] theorem State.updBalance_pins : (s.updBalance f).pins = s.pins := rfl
@[simp] theorem State.updBalance_logs : (s.updBalance f).logs = s.logs := rfl
@[simp] theorem State.updBalance_service : (s.updBalance f).service = s.service := rfl
@[simp] theorem State.updBalance_bist : (s.updBalance f).bist = s.bist := rfl
@[simp] theorem State.updBalance_faults : (s.updBalance f).faults = s.faults := rfl
@[simp] theorem State.updBalance_pending : (s.updBalance f).pending = s.pending := rfl
@[simp] theorem State.updBalance_port (p : Port) : (s.updBalance f).port p = s.port p := by cases p <;> rfl
end

/-! ### `updOutputs` -/

section
variable (s : State) (f : Outputs → Outputs)
@[simp] theorem State.updOutputs_dev : (s.updOutputs f).dev = s.dev := rfl
@[simp] theorem State.updOutputs_keeper : (s.updOutputs f).keeper = s.keeper := rfl
@[simp] theorem State.updOutputs_nv : (s.updOutputs f).nv = s.nv := rfl
@[simp] theorem State.updOutputs_flash : (s.updOutputs f).flash = s.flash := rfl
@[simp] theorem State.updOutputs_straps : (s.updOutputs f).straps = s.straps := rfl
@[simp] theorem State.updOutputs_meas : (s.updOutputs f).meas = s.meas := rfl
@[simp] theorem State.updOutputs_probes : (s.updOutputs f).probes = s.probes := rfl
@[simp] theorem State.updOutputs_clocks : (s.updOutputs f).clocks = s.clocks := rfl
@[simp] theorem State.updOutputs_portN : (s.updOutputs f).portN = s.portN := rfl
@[simp] theorem State.updOutputs_portS : (s.updOutputs f).portS = s.portS := rfl
@[simp] theorem State.updOutputs_ring : (s.updOutputs f).ring = s.ring := rfl
@[simp] theorem State.updOutputs_dealer : (s.updOutputs f).dealer = s.dealer := rfl
@[simp] theorem State.updOutputs_services : (s.updOutputs f).services = s.services := rfl
@[simp] theorem State.updOutputs_balance : (s.updOutputs f).balance = s.balance := rfl
@[simp] theorem State.updOutputs_outputs : (s.updOutputs f).outputs = f s.outputs := rfl
@[simp] theorem State.updOutputs_fan : (s.updOutputs f).fan = s.fan := rfl
@[simp] theorem State.updOutputs_supply : (s.updOutputs f).supply = s.supply := rfl
@[simp] theorem State.updOutputs_life : (s.updOutputs f).life = s.life := rfl
@[simp] theorem State.updOutputs_safety : (s.updOutputs f).safety = s.safety := rfl
@[simp] theorem State.updOutputs_vehicle : (s.updOutputs f).vehicle = s.vehicle := rfl
@[simp] theorem State.updOutputs_pins : (s.updOutputs f).pins = s.pins := rfl
@[simp] theorem State.updOutputs_logs : (s.updOutputs f).logs = s.logs := rfl
@[simp] theorem State.updOutputs_service : (s.updOutputs f).service = s.service := rfl
@[simp] theorem State.updOutputs_bist : (s.updOutputs f).bist = s.bist := rfl
@[simp] theorem State.updOutputs_faults : (s.updOutputs f).faults = s.faults := rfl
@[simp] theorem State.updOutputs_pending : (s.updOutputs f).pending = s.pending := rfl
@[simp] theorem State.updOutputs_port (p : Port) : (s.updOutputs f).port p = s.port p := by cases p <;> rfl
end

/-! ### `updFan` -/

section
variable (s : State) (f : Fan → Fan)
@[simp] theorem State.updFan_dev : (s.updFan f).dev = s.dev := rfl
@[simp] theorem State.updFan_keeper : (s.updFan f).keeper = s.keeper := rfl
@[simp] theorem State.updFan_nv : (s.updFan f).nv = s.nv := rfl
@[simp] theorem State.updFan_flash : (s.updFan f).flash = s.flash := rfl
@[simp] theorem State.updFan_straps : (s.updFan f).straps = s.straps := rfl
@[simp] theorem State.updFan_meas : (s.updFan f).meas = s.meas := rfl
@[simp] theorem State.updFan_probes : (s.updFan f).probes = s.probes := rfl
@[simp] theorem State.updFan_clocks : (s.updFan f).clocks = s.clocks := rfl
@[simp] theorem State.updFan_portN : (s.updFan f).portN = s.portN := rfl
@[simp] theorem State.updFan_portS : (s.updFan f).portS = s.portS := rfl
@[simp] theorem State.updFan_ring : (s.updFan f).ring = s.ring := rfl
@[simp] theorem State.updFan_dealer : (s.updFan f).dealer = s.dealer := rfl
@[simp] theorem State.updFan_services : (s.updFan f).services = s.services := rfl
@[simp] theorem State.updFan_balance : (s.updFan f).balance = s.balance := rfl
@[simp] theorem State.updFan_outputs : (s.updFan f).outputs = s.outputs := rfl
@[simp] theorem State.updFan_fan : (s.updFan f).fan = f s.fan := rfl
@[simp] theorem State.updFan_supply : (s.updFan f).supply = s.supply := rfl
@[simp] theorem State.updFan_life : (s.updFan f).life = s.life := rfl
@[simp] theorem State.updFan_safety : (s.updFan f).safety = s.safety := rfl
@[simp] theorem State.updFan_vehicle : (s.updFan f).vehicle = s.vehicle := rfl
@[simp] theorem State.updFan_pins : (s.updFan f).pins = s.pins := rfl
@[simp] theorem State.updFan_logs : (s.updFan f).logs = s.logs := rfl
@[simp] theorem State.updFan_service : (s.updFan f).service = s.service := rfl
@[simp] theorem State.updFan_bist : (s.updFan f).bist = s.bist := rfl
@[simp] theorem State.updFan_faults : (s.updFan f).faults = s.faults := rfl
@[simp] theorem State.updFan_pending : (s.updFan f).pending = s.pending := rfl
@[simp] theorem State.updFan_port (p : Port) : (s.updFan f).port p = s.port p := by cases p <;> rfl
end

/-! ### `updSupply` -/

section
variable (s : State) (f : Supply → Supply)
@[simp] theorem State.updSupply_dev : (s.updSupply f).dev = s.dev := rfl
@[simp] theorem State.updSupply_keeper : (s.updSupply f).keeper = s.keeper := rfl
@[simp] theorem State.updSupply_nv : (s.updSupply f).nv = s.nv := rfl
@[simp] theorem State.updSupply_flash : (s.updSupply f).flash = s.flash := rfl
@[simp] theorem State.updSupply_straps : (s.updSupply f).straps = s.straps := rfl
@[simp] theorem State.updSupply_meas : (s.updSupply f).meas = s.meas := rfl
@[simp] theorem State.updSupply_probes : (s.updSupply f).probes = s.probes := rfl
@[simp] theorem State.updSupply_clocks : (s.updSupply f).clocks = s.clocks := rfl
@[simp] theorem State.updSupply_portN : (s.updSupply f).portN = s.portN := rfl
@[simp] theorem State.updSupply_portS : (s.updSupply f).portS = s.portS := rfl
@[simp] theorem State.updSupply_ring : (s.updSupply f).ring = s.ring := rfl
@[simp] theorem State.updSupply_dealer : (s.updSupply f).dealer = s.dealer := rfl
@[simp] theorem State.updSupply_services : (s.updSupply f).services = s.services := rfl
@[simp] theorem State.updSupply_balance : (s.updSupply f).balance = s.balance := rfl
@[simp] theorem State.updSupply_outputs : (s.updSupply f).outputs = s.outputs := rfl
@[simp] theorem State.updSupply_fan : (s.updSupply f).fan = s.fan := rfl
@[simp] theorem State.updSupply_supply : (s.updSupply f).supply = f s.supply := rfl
@[simp] theorem State.updSupply_life : (s.updSupply f).life = s.life := rfl
@[simp] theorem State.updSupply_safety : (s.updSupply f).safety = s.safety := rfl
@[simp] theorem State.updSupply_vehicle : (s.updSupply f).vehicle = s.vehicle := rfl
@[simp] theorem State.updSupply_pins : (s.updSupply f).pins = s.pins := rfl
@[simp] theorem State.updSupply_logs : (s.updSupply f).logs = s.logs := rfl
@[simp] theorem State.updSupply_service : (s.updSupply f).service = s.service := rfl
@[simp] theorem State.updSupply_bist : (s.updSupply f).bist = s.bist := rfl
@[simp] theorem State.updSupply_faults : (s.updSupply f).faults = s.faults := rfl
@[simp] theorem State.updSupply_pending : (s.updSupply f).pending = s.pending := rfl
@[simp] theorem State.updSupply_port (p : Port) : (s.updSupply f).port p = s.port p := by cases p <;> rfl
end

/-! ### `updLife` -/

section
variable (s : State) (f : Lifeline → Lifeline)
@[simp] theorem State.updLife_dev : (s.updLife f).dev = s.dev := rfl
@[simp] theorem State.updLife_keeper : (s.updLife f).keeper = s.keeper := rfl
@[simp] theorem State.updLife_nv : (s.updLife f).nv = s.nv := rfl
@[simp] theorem State.updLife_flash : (s.updLife f).flash = s.flash := rfl
@[simp] theorem State.updLife_straps : (s.updLife f).straps = s.straps := rfl
@[simp] theorem State.updLife_meas : (s.updLife f).meas = s.meas := rfl
@[simp] theorem State.updLife_probes : (s.updLife f).probes = s.probes := rfl
@[simp] theorem State.updLife_clocks : (s.updLife f).clocks = s.clocks := rfl
@[simp] theorem State.updLife_portN : (s.updLife f).portN = s.portN := rfl
@[simp] theorem State.updLife_portS : (s.updLife f).portS = s.portS := rfl
@[simp] theorem State.updLife_ring : (s.updLife f).ring = s.ring := rfl
@[simp] theorem State.updLife_dealer : (s.updLife f).dealer = s.dealer := rfl
@[simp] theorem State.updLife_services : (s.updLife f).services = s.services := rfl
@[simp] theorem State.updLife_balance : (s.updLife f).balance = s.balance := rfl
@[simp] theorem State.updLife_outputs : (s.updLife f).outputs = s.outputs := rfl
@[simp] theorem State.updLife_fan : (s.updLife f).fan = s.fan := rfl
@[simp] theorem State.updLife_supply : (s.updLife f).supply = s.supply := rfl
@[simp] theorem State.updLife_life : (s.updLife f).life = f s.life := rfl
@[simp] theorem State.updLife_safety : (s.updLife f).safety = s.safety := rfl
@[simp] theorem State.updLife_vehicle : (s.updLife f).vehicle = s.vehicle := rfl
@[simp] theorem State.updLife_pins : (s.updLife f).pins = s.pins := rfl
@[simp] theorem State.updLife_logs : (s.updLife f).logs = s.logs := rfl
@[simp] theorem State.updLife_service : (s.updLife f).service = s.service := rfl
@[simp] theorem State.updLife_bist : (s.updLife f).bist = s.bist := rfl
@[simp] theorem State.updLife_faults : (s.updLife f).faults = s.faults := rfl
@[simp] theorem State.updLife_pending : (s.updLife f).pending = s.pending := rfl
@[simp] theorem State.updLife_port (p : Port) : (s.updLife f).port p = s.port p := by cases p <;> rfl
end

/-! ### `updSafety` -/

section
variable (s : State) (f : Safety → Safety)
@[simp] theorem State.updSafety_dev : (s.updSafety f).dev = s.dev := rfl
@[simp] theorem State.updSafety_keeper : (s.updSafety f).keeper = s.keeper := rfl
@[simp] theorem State.updSafety_nv : (s.updSafety f).nv = s.nv := rfl
@[simp] theorem State.updSafety_flash : (s.updSafety f).flash = s.flash := rfl
@[simp] theorem State.updSafety_straps : (s.updSafety f).straps = s.straps := rfl
@[simp] theorem State.updSafety_meas : (s.updSafety f).meas = s.meas := rfl
@[simp] theorem State.updSafety_probes : (s.updSafety f).probes = s.probes := rfl
@[simp] theorem State.updSafety_clocks : (s.updSafety f).clocks = s.clocks := rfl
@[simp] theorem State.updSafety_portN : (s.updSafety f).portN = s.portN := rfl
@[simp] theorem State.updSafety_portS : (s.updSafety f).portS = s.portS := rfl
@[simp] theorem State.updSafety_ring : (s.updSafety f).ring = s.ring := rfl
@[simp] theorem State.updSafety_dealer : (s.updSafety f).dealer = s.dealer := rfl
@[simp] theorem State.updSafety_services : (s.updSafety f).services = s.services := rfl
@[simp] theorem State.updSafety_balance : (s.updSafety f).balance = s.balance := rfl
@[simp] theorem State.updSafety_outputs : (s.updSafety f).outputs = s.outputs := rfl
@[simp] theorem State.updSafety_fan : (s.updSafety f).fan = s.fan := rfl
@[simp] theorem State.updSafety_supply : (s.updSafety f).supply = s.supply := rfl
@[simp] theorem State.updSafety_life : (s.updSafety f).life = s.life := rfl
@[simp] theorem State.updSafety_safety : (s.updSafety f).safety = f s.safety := rfl
@[simp] theorem State.updSafety_vehicle : (s.updSafety f).vehicle = s.vehicle := rfl
@[simp] theorem State.updSafety_pins : (s.updSafety f).pins = s.pins := rfl
@[simp] theorem State.updSafety_logs : (s.updSafety f).logs = s.logs := rfl
@[simp] theorem State.updSafety_service : (s.updSafety f).service = s.service := rfl
@[simp] theorem State.updSafety_bist : (s.updSafety f).bist = s.bist := rfl
@[simp] theorem State.updSafety_faults : (s.updSafety f).faults = s.faults := rfl
@[simp] theorem State.updSafety_pending : (s.updSafety f).pending = s.pending := rfl
@[simp] theorem State.updSafety_port (p : Port) : (s.updSafety f).port p = s.port p := by cases p <;> rfl
end

/-! ### `updVehicle` -/

section
variable (s : State) (f : Vehicle → Vehicle)
@[simp] theorem State.updVehicle_dev : (s.updVehicle f).dev = s.dev := rfl
@[simp] theorem State.updVehicle_keeper : (s.updVehicle f).keeper = s.keeper := rfl
@[simp] theorem State.updVehicle_nv : (s.updVehicle f).nv = s.nv := rfl
@[simp] theorem State.updVehicle_flash : (s.updVehicle f).flash = s.flash := rfl
@[simp] theorem State.updVehicle_straps : (s.updVehicle f).straps = s.straps := rfl
@[simp] theorem State.updVehicle_meas : (s.updVehicle f).meas = s.meas := rfl
@[simp] theorem State.updVehicle_probes : (s.updVehicle f).probes = s.probes := rfl
@[simp] theorem State.updVehicle_clocks : (s.updVehicle f).clocks = s.clocks := rfl
@[simp] theorem State.updVehicle_portN : (s.updVehicle f).portN = s.portN := rfl
@[simp] theorem State.updVehicle_portS : (s.updVehicle f).portS = s.portS := rfl
@[simp] theorem State.updVehicle_ring : (s.updVehicle f).ring = s.ring := rfl
@[simp] theorem State.updVehicle_dealer : (s.updVehicle f).dealer = s.dealer := rfl
@[simp] theorem State.updVehicle_services : (s.updVehicle f).services = s.services := rfl
@[simp] theorem State.updVehicle_balance : (s.updVehicle f).balance = s.balance := rfl
@[simp] theorem State.updVehicle_outputs : (s.updVehicle f).outputs = s.outputs := rfl
@[simp] theorem State.updVehicle_fan : (s.updVehicle f).fan = s.fan := rfl
@[simp] theorem State.updVehicle_supply : (s.updVehicle f).supply = s.supply := rfl
@[simp] theorem State.updVehicle_life : (s.updVehicle f).life = s.life := rfl
@[simp] theorem State.updVehicle_safety : (s.updVehicle f).safety = s.safety := rfl
@[simp] theorem State.updVehicle_vehicle : (s.updVehicle f).vehicle = f s.vehicle := rfl
@[simp] theorem State.updVehicle_pins : (s.updVehicle f).pins = s.pins := rfl
@[simp] theorem State.updVehicle_logs : (s.updVehicle f).logs = s.logs := rfl
@[simp] theorem State.updVehicle_service : (s.updVehicle f).service = s.service := rfl
@[simp] theorem State.updVehicle_bist : (s.updVehicle f).bist = s.bist := rfl
@[simp] theorem State.updVehicle_faults : (s.updVehicle f).faults = s.faults := rfl
@[simp] theorem State.updVehicle_pending : (s.updVehicle f).pending = s.pending := rfl
@[simp] theorem State.updVehicle_port (p : Port) : (s.updVehicle f).port p = s.port p := by cases p <;> rfl
end

/-! ### `updPins` -/

section
variable (s : State) (f : Pins → Pins)
@[simp] theorem State.updPins_dev : (s.updPins f).dev = s.dev := rfl
@[simp] theorem State.updPins_keeper : (s.updPins f).keeper = s.keeper := rfl
@[simp] theorem State.updPins_nv : (s.updPins f).nv = s.nv := rfl
@[simp] theorem State.updPins_flash : (s.updPins f).flash = s.flash := rfl
@[simp] theorem State.updPins_straps : (s.updPins f).straps = s.straps := rfl
@[simp] theorem State.updPins_meas : (s.updPins f).meas = s.meas := rfl
@[simp] theorem State.updPins_probes : (s.updPins f).probes = s.probes := rfl
@[simp] theorem State.updPins_clocks : (s.updPins f).clocks = s.clocks := rfl
@[simp] theorem State.updPins_portN : (s.updPins f).portN = s.portN := rfl
@[simp] theorem State.updPins_portS : (s.updPins f).portS = s.portS := rfl
@[simp] theorem State.updPins_ring : (s.updPins f).ring = s.ring := rfl
@[simp] theorem State.updPins_dealer : (s.updPins f).dealer = s.dealer := rfl
@[simp] theorem State.updPins_services : (s.updPins f).services = s.services := rfl
@[simp] theorem State.updPins_balance : (s.updPins f).balance = s.balance := rfl
@[simp] theorem State.updPins_outputs : (s.updPins f).outputs = s.outputs := rfl
@[simp] theorem State.updPins_fan : (s.updPins f).fan = s.fan := rfl
@[simp] theorem State.updPins_supply : (s.updPins f).supply = s.supply := rfl
@[simp] theorem State.updPins_life : (s.updPins f).life = s.life := rfl
@[simp] theorem State.updPins_safety : (s.updPins f).safety = s.safety := rfl
@[simp] theorem State.updPins_vehicle : (s.updPins f).vehicle = s.vehicle := rfl
@[simp] theorem State.updPins_pins : (s.updPins f).pins = f s.pins := rfl
@[simp] theorem State.updPins_logs : (s.updPins f).logs = s.logs := rfl
@[simp] theorem State.updPins_service : (s.updPins f).service = s.service := rfl
@[simp] theorem State.updPins_bist : (s.updPins f).bist = s.bist := rfl
@[simp] theorem State.updPins_faults : (s.updPins f).faults = s.faults := rfl
@[simp] theorem State.updPins_pending : (s.updPins f).pending = s.pending := rfl
@[simp] theorem State.updPins_port (p : Port) : (s.updPins f).port p = s.port p := by cases p <;> rfl
end

/-! ### `updLogs` -/

section
variable (s : State) (f : Logs → Logs)
@[simp] theorem State.updLogs_dev : (s.updLogs f).dev = s.dev := rfl
@[simp] theorem State.updLogs_keeper : (s.updLogs f).keeper = s.keeper := rfl
@[simp] theorem State.updLogs_nv : (s.updLogs f).nv = s.nv := rfl
@[simp] theorem State.updLogs_flash : (s.updLogs f).flash = s.flash := rfl
@[simp] theorem State.updLogs_straps : (s.updLogs f).straps = s.straps := rfl
@[simp] theorem State.updLogs_meas : (s.updLogs f).meas = s.meas := rfl
@[simp] theorem State.updLogs_probes : (s.updLogs f).probes = s.probes := rfl
@[simp] theorem State.updLogs_clocks : (s.updLogs f).clocks = s.clocks := rfl
@[simp] theorem State.updLogs_portN : (s.updLogs f).portN = s.portN := rfl
@[simp] theorem State.updLogs_portS : (s.updLogs f).portS = s.portS := rfl
@[simp] theorem State.updLogs_ring : (s.updLogs f).ring = s.ring := rfl
@[simp] theorem State.updLogs_dealer : (s.updLogs f).dealer = s.dealer := rfl
@[simp] theorem State.updLogs_services : (s.updLogs f).services = s.services := rfl
@[simp] theorem State.updLogs_balance : (s.updLogs f).balance = s.balance := rfl
@[simp] theorem State.updLogs_outputs : (s.updLogs f).outputs = s.outputs := rfl
@[simp] theorem State.updLogs_fan : (s.updLogs f).fan = s.fan := rfl
@[simp] theorem State.updLogs_supply : (s.updLogs f).supply = s.supply := rfl
@[simp] theorem State.updLogs_life : (s.updLogs f).life = s.life := rfl
@[simp] theorem State.updLogs_safety : (s.updLogs f).safety = s.safety := rfl
@[simp] theorem State.updLogs_vehicle : (s.updLogs f).vehicle = s.vehicle := rfl
@[simp] theorem State.updLogs_pins : (s.updLogs f).pins = s.pins := rfl
@[simp] theorem State.updLogs_logs : (s.updLogs f).logs = f s.logs := rfl
@[simp] theorem State.updLogs_service : (s.updLogs f).service = s.service := rfl
@[simp] theorem State.updLogs_bist : (s.updLogs f).bist = s.bist := rfl
@[simp] theorem State.updLogs_faults : (s.updLogs f).faults = s.faults := rfl
@[simp] theorem State.updLogs_pending : (s.updLogs f).pending = s.pending := rfl
@[simp] theorem State.updLogs_port (p : Port) : (s.updLogs f).port p = s.port p := by cases p <;> rfl
end

/-! ### `updService` -/

section
variable (s : State) (f : Service → Service)
@[simp] theorem State.updService_dev : (s.updService f).dev = s.dev := rfl
@[simp] theorem State.updService_keeper : (s.updService f).keeper = s.keeper := rfl
@[simp] theorem State.updService_nv : (s.updService f).nv = s.nv := rfl
@[simp] theorem State.updService_flash : (s.updService f).flash = s.flash := rfl
@[simp] theorem State.updService_straps : (s.updService f).straps = s.straps := rfl
@[simp] theorem State.updService_meas : (s.updService f).meas = s.meas := rfl
@[simp] theorem State.updService_probes : (s.updService f).probes = s.probes := rfl
@[simp] theorem State.updService_clocks : (s.updService f).clocks = s.clocks := rfl
@[simp] theorem State.updService_portN : (s.updService f).portN = s.portN := rfl
@[simp] theorem State.updService_portS : (s.updService f).portS = s.portS := rfl
@[simp] theorem State.updService_ring : (s.updService f).ring = s.ring := rfl
@[simp] theorem State.updService_dealer : (s.updService f).dealer = s.dealer := rfl
@[simp] theorem State.updService_services : (s.updService f).services = s.services := rfl
@[simp] theorem State.updService_balance : (s.updService f).balance = s.balance := rfl
@[simp] theorem State.updService_outputs : (s.updService f).outputs = s.outputs := rfl
@[simp] theorem State.updService_fan : (s.updService f).fan = s.fan := rfl
@[simp] theorem State.updService_supply : (s.updService f).supply = s.supply := rfl
@[simp] theorem State.updService_life : (s.updService f).life = s.life := rfl
@[simp] theorem State.updService_safety : (s.updService f).safety = s.safety := rfl
@[simp] theorem State.updService_vehicle : (s.updService f).vehicle = s.vehicle := rfl
@[simp] theorem State.updService_pins : (s.updService f).pins = s.pins := rfl
@[simp] theorem State.updService_logs : (s.updService f).logs = s.logs := rfl
@[simp] theorem State.updService_service : (s.updService f).service = f s.service := rfl
@[simp] theorem State.updService_bist : (s.updService f).bist = s.bist := rfl
@[simp] theorem State.updService_faults : (s.updService f).faults = s.faults := rfl
@[simp] theorem State.updService_pending : (s.updService f).pending = s.pending := rfl
@[simp] theorem State.updService_port (p : Port) : (s.updService f).port p = s.port p := by cases p <;> rfl
end

/-! ### `updBist` -/

section
variable (s : State) (f : Bist → Bist)
@[simp] theorem State.updBist_dev : (s.updBist f).dev = s.dev := rfl
@[simp] theorem State.updBist_keeper : (s.updBist f).keeper = s.keeper := rfl
@[simp] theorem State.updBist_nv : (s.updBist f).nv = s.nv := rfl
@[simp] theorem State.updBist_flash : (s.updBist f).flash = s.flash := rfl
@[simp] theorem State.updBist_straps : (s.updBist f).straps = s.straps := rfl
@[simp] theorem State.updBist_meas : (s.updBist f).meas = s.meas := rfl
@[simp] theorem State.updBist_probes : (s.updBist f).probes = s.probes := rfl
@[simp] theorem State.updBist_clocks : (s.updBist f).clocks = s.clocks := rfl
@[simp] theorem State.updBist_portN : (s.updBist f).portN = s.portN := rfl
@[simp] theorem State.updBist_portS : (s.updBist f).portS = s.portS := rfl
@[simp] theorem State.updBist_ring : (s.updBist f).ring = s.ring := rfl
@[simp] theorem State.updBist_dealer : (s.updBist f).dealer = s.dealer := rfl
@[simp] theorem State.updBist_services : (s.updBist f).services = s.services := rfl
@[simp] theorem State.updBist_balance : (s.updBist f).balance = s.balance := rfl
@[simp] theorem State.updBist_outputs : (s.updBist f).outputs = s.outputs := rfl
@[simp] theorem State.updBist_fan : (s.updBist f).fan = s.fan := rfl
@[simp] theorem State.updBist_supply : (s.updBist f).supply = s.supply := rfl
@[simp] theorem State.updBist_life : (s.updBist f).life = s.life := rfl
@[simp] theorem State.updBist_safety : (s.updBist f).safety = s.safety := rfl
@[simp] theorem State.updBist_vehicle : (s.updBist f).vehicle = s.vehicle := rfl
@[simp] theorem State.updBist_pins : (s.updBist f).pins = s.pins := rfl
@[simp] theorem State.updBist_logs : (s.updBist f).logs = s.logs := rfl
@[simp] theorem State.updBist_service : (s.updBist f).service = s.service := rfl
@[simp] theorem State.updBist_bist : (s.updBist f).bist = f s.bist := rfl
@[simp] theorem State.updBist_faults : (s.updBist f).faults = s.faults := rfl
@[simp] theorem State.updBist_pending : (s.updBist f).pending = s.pending := rfl
@[simp] theorem State.updBist_port (p : Port) : (s.updBist f).port p = s.port p := by cases p <;> rfl
end

/-! ### `updPort` and `updBlock` -/

section
variable (s : State) (p : Port) (f : PortState → PortState)
@[simp] theorem State.updPort_dev : (s.updPort p f).dev = s.dev := by cases p <;> rfl
@[simp] theorem State.updPort_keeper : (s.updPort p f).keeper = s.keeper := by cases p <;> rfl
@[simp] theorem State.updPort_nv : (s.updPort p f).nv = s.nv := by cases p <;> rfl
@[simp] theorem State.updPort_flash : (s.updPort p f).flash = s.flash := by cases p <;> rfl
@[simp] theorem State.updPort_straps : (s.updPort p f).straps = s.straps := by cases p <;> rfl
@[simp] theorem State.updPort_meas : (s.updPort p f).meas = s.meas := by cases p <;> rfl
@[simp] theorem State.updPort_probes : (s.updPort p f).probes = s.probes := by cases p <;> rfl
@[simp] theorem State.updPort_clocks : (s.updPort p f).clocks = s.clocks := by cases p <;> rfl
@[simp] theorem State.updPort_ring : (s.updPort p f).ring = s.ring := by cases p <;> rfl
@[simp] theorem State.updPort_dealer : (s.updPort p f).dealer = s.dealer := by cases p <;> rfl
@[simp] theorem State.updPort_services : (s.updPort p f).services = s.services := by cases p <;> rfl
@[simp] theorem State.updPort_balance : (s.updPort p f).balance = s.balance := by cases p <;> rfl
@[simp] theorem State.updPort_outputs : (s.updPort p f).outputs = s.outputs := by cases p <;> rfl
@[simp] theorem State.updPort_fan : (s.updPort p f).fan = s.fan := by cases p <;> rfl
@[simp] theorem State.updPort_supply : (s.updPort p f).supply = s.supply := by cases p <;> rfl
@[simp] theorem State.updPort_life : (s.updPort p f).life = s.life := by cases p <;> rfl
@[simp] theorem State.updPort_safety : (s.updPort p f).safety = s.safety := by cases p <;> rfl
@[simp] theorem State.updPort_vehicle : (s.updPort p f).vehicle = s.vehicle := by cases p <;> rfl
@[simp] theorem State.updPort_pins : (s.updPort p f).pins = s.pins := by cases p <;> rfl
@[simp] theorem State.updPort_logs : (s.updPort p f).logs = s.logs := by cases p <;> rfl
@[simp] theorem State.updPort_service : (s.updPort p f).service = s.service := by cases p <;> rfl
@[simp] theorem State.updPort_bist : (s.updPort p f).bist = s.bist := by cases p <;> rfl
@[simp] theorem State.updPort_faults : (s.updPort p f).faults = s.faults := by cases p <;> rfl
@[simp] theorem State.updPort_pending : (s.updPort p f).pending = s.pending := by cases p <;> rfl
@[simp] theorem State.updPort_n_portS : (s.updPort .n f).portS = s.portS := rfl
@[simp] theorem State.updPort_s_portN : (s.updPort .s f).portN = s.portN := rfl
@[simp] theorem State.updPort_n_portN : (s.updPort .n f).portN = f s.portN := rfl
@[simp] theorem State.updPort_s_portS : (s.updPort .s f).portS = f s.portS := rfl
@[simp] theorem State.updPort_port : (s.updPort p f).port p = f (s.port p) := by cases p <;> rfl
@[simp] theorem State.updPort_port_other : (s.updPort p f).port p.other = s.port p.other := by cases p <;> rfl
@[simp] theorem State.updPort_other_port : (s.updPort p.other f).port p = s.port p := by cases p <;> rfl
@[simp] theorem Port.other_other : p.other.other = p := by cases p <;> rfl
end

section
variable (s : State) (b : Block) (f : BlockState → BlockState)
@[simp] theorem State.updBlock_dev : (s.updBlock b f).dev = s.dev := rfl
@[simp] theorem State.updBlock_keeper : (s.updBlock b f).keeper = s.keeper := rfl
@[simp] theorem State.updBlock_nv : (s.updBlock b f).nv = s.nv := rfl
@[simp] theorem State.updBlock_flash : (s.updBlock b f).flash = s.flash := rfl
@[simp] theorem State.updBlock_straps : (s.updBlock b f).straps = s.straps := rfl
@[simp] theorem State.updBlock_meas : (s.updBlock b f).meas = s.meas := rfl
@[simp] theorem State.updBlock_probes : (s.updBlock b f).probes = s.probes := rfl
@[simp] theorem State.updBlock_clocks : (s.updBlock b f).clocks = s.clocks := rfl
@[simp] theorem State.updBlock_portN : (s.updBlock b f).portN = s.portN := rfl
@[simp] theorem State.updBlock_portS : (s.updBlock b f).portS = s.portS := rfl
@[simp] theorem State.updBlock_ring : (s.updBlock b f).ring = s.ring := rfl
@[simp] theorem State.updBlock_dealer : (s.updBlock b f).dealer = s.dealer := rfl
@[simp] theorem State.updBlock_services : (s.updBlock b f).services = s.services := rfl
@[simp] theorem State.updBlock_balance : (s.updBlock b f).balance = s.balance := rfl
@[simp] theorem State.updBlock_outputs : (s.updBlock b f).outputs = s.outputs := rfl
@[simp] theorem State.updBlock_fan : (s.updBlock b f).fan = s.fan := rfl
@[simp] theorem State.updBlock_supply : (s.updBlock b f).supply = s.supply := rfl
@[simp] theorem State.updBlock_life : (s.updBlock b f).life = s.life := rfl
@[simp] theorem State.updBlock_safety : (s.updBlock b f).safety = s.safety := rfl
@[simp] theorem State.updBlock_vehicle : (s.updBlock b f).vehicle = s.vehicle := rfl
@[simp] theorem State.updBlock_pins : (s.updBlock b f).pins = s.pins := rfl
@[simp] theorem State.updBlock_logs : (s.updBlock b f).logs = s.logs := rfl
@[simp] theorem State.updBlock_service : (s.updBlock b f).service = s.service := rfl
@[simp] theorem State.updBlock_bist : (s.updBlock b f).bist = s.bist := rfl
@[simp] theorem State.updBlock_pending : (s.updBlock b f).pending = s.pending := rfl
@[simp] theorem State.updBlock_port (p : Port) : (s.updBlock b f).port p = s.port p := by cases p <;> rfl
end

end Sys2Proof.Machine
end

