-- ==== Sys2Proof/Laws/Faults.lean ====
section
/-!
SUPPORT. Status bits: what raising a source sets and keeps, and what a frame says of one group.
-/
namespace Sys2Proof.Machine

/-! ### What a `Keeps` says of one group -/

theorem Keeps.group {G : List Group} {s t : State} (h : Keeps G s t) (g : Group) (c : covers [g] G = false) : g.same s t :=
  h g fun hg => by simp [covers, hg] at c

theorem Keeps.port {G : List Group} {s t : State} (h : Keeps G s t) (p : Port) (c : covers [.portN] G = false)
    (d : covers [.portS] G = false) : t.port p = s.port p := by
  cases p
  · exact h.group .portN c
  · exact h.group .portS d

theorem Keeps.has {G : List Group} {s t : State} (h : Keeps G s t) (c : covers [.faults] G = false) (b : Block) (i : Nat) :
    t.has b i = s.has b i := by
  have k : t.faults = s.faults := h.group .faults c
  simp [State.has, k]

/-! ### Status bits -/

theorem faultOf_modify (fs : List BlockState) (b c : Block) (f : BlockState → BlockState) (h : fs.length = 18) :
    faultOf (fs.modify (blockIndex b) f) c = if b = c then f (faultOf fs c) else faultOf fs c := by
  have hb : ∀ d : Block, blockIndex d < 18 := by intro d; cases d <;> decide
  have hi : blockIndex b = blockIndex c ↔ b = c := by cases b <;> cases c <;> decide
  unfold faultOf
  have hc := hb c
  simp only [List.getD_eq_getElem?_getD, List.getElem?_modify]
  by_cases e : b = c
  · subst e; simp [h, hc]
  · have e' : blockIndex b ≠ blockIndex c := fun k => e (hi.mp k)
    simp [e, e']

theorem setSticky_mono (i : Nat) (l : List Nat) (x : BlockState) (j : Nat) (h : x.sticky.getLsbD j = true) :
    (setSticky i l x).sticky.getLsbD j = true := by
  unfold setSticky
  generalize i :: l = m
  induction m generalizing x with
  | nil => exact h
  | cons k m ih => exact ih _ (by simp [h])

theorem setSticky_mem (i : Nat) (l : List Nat) (x : BlockState) (j : Nat) (hj : j ∈ i :: l) (hk : j < 16) :
    (setSticky i l x).sticky.getLsbD j = true := by
  unfold setSticky
  generalize i :: l = m at hj
  induction m generalizing x with
  | nil => cases hj
  | cons k m ih =>
    rcases List.mem_cons.mp hj with rfl | hm
    · simp only [List.foldl_cons]
      have base : (x.sticky ||| 1 <<< j : BitVec 16).getLsbD j = true := by
        have one : (BitVec.ofNat 16 (1 <<< j)).getLsbD j = true := by
          rw [BitVec.getLsbD_ofNat, Nat.testBit_shiftLeft]
          simp [hk]
        rw [BitVec.getLsbD_or]
        exact Bool.or_eq_true_iff.mpr (.inr one)
      have gen : ∀ (m : List Nat) (y : BlockState), y.sticky.getLsbD j = true →
          (m.foldl (fun y j => { y with sticky := y.sticky ||| (1 <<< j), counts := y.counts.modify j fun n => sat 0xFFFF (n + 1) }) y).sticky.getLsbD j = true := by
        intro m
        induction m with
        | nil => exact fun y h => h
        | cons k m ih => exact fun y h => ih _ (by simp [h])
      exact gen m _ base
    · exact ih _ hm

@[simp] theorem react_sticky (i : Nat) (k : FaultClass) (d : Word) (n : Nat) (x : BlockState) :
    (react i k d n x).sticky = x.sticky := by
  unfold react
  split
  · rfl
  · split <;> rfl

theorem State.raiseBits_has (s : State) (b : Block) (i : Nat) (l : List Nat) (h : s.faults.length = 18) (j : Nat)
    (hj : j ∈ i :: l) (hk : j < 16) : (s.raiseBits b i l).has b j = true := by
  have e : (s.raiseBits b i l).faults = s.faults.modify (blockIndex b) fun x => react i (classOf b i) s.dealNo s.now (setSticky i l x) := rfl
  simp only [State.has, e, faultOf_modify _ _ _ _ h, if_true, react_sticky]
  exact setSticky_mem i l _ j hj hk

theorem State.raiseBits_mono (s : State) (b : Block) (i : Nat) (l : List Nat) : StickyKept s (s.raiseBits b i l) := by
  intro d j hc
  have e : (s.raiseBits b i l).faults = s.faults.modify (blockIndex b) fun x => react i (classOf b i) s.dealNo s.now (setSticky i l x) := rfl
  simp only [State.has, faultOf, e, List.getD_eq_getElem?_getD, List.getElem?_modify] at hc ⊢
  by_cases k : blockIndex b = blockIndex d
  · simp only [if_pos k]
    cases q : s.faults[blockIndex d]? with
    | none => simpa [q] using hc
    | some x =>
      simp only [q, Option.getD_some] at hc
      simpa using setSticky_mono i l _ j hc
  · simpa [k] using hc

theorem StickyKept.refl (s : State) : StickyKept s s := fun _ _ h => h

theorem StickyKept.trans {s t u : State} (h : StickyKept s t) (k : StickyKept t u) : StickyKept s u :=
  fun b i q => k b i (h b i q)

theorem Keeps.sticky {G : List Group} {s t : State} (h : Keeps G s t) (c : covers [.faults] G = false) : StickyKept s t :=
  fun b i q => by rw [h.has c]; exact q

theorem State.enterFatal_faults (s : State) (b : Block) (i : Nat) : (s.enterFatal b i).faults = s.faults := by
  have h : Keeps [.logs, .dev, .outputs, .meas, .balance, .fan, .pins, .portN, .portS, .services, .keeper, .vehicle, .ring] s
      (s.enterFatal b i) := (State.enterFatal_keeps (by decide) _ _).mpr (Keeps.refl _ _)
  exact h.group .faults (by decide)

theorem State.raiseAlso_faults (s : State) (b : Block) (i : Nat) (l : List Nat) :
    (s.raiseAlso b i l).faults = (s.raiseBits b i l).faults := by
  unfold State.raiseAlso
  dsimp only
  split
  · rw [State.enterFatal_faults]; rfl
  · rfl

/-- A raised source sets its bit and every bit set with it (R477). -/
theorem State.raiseAlso_has (s : State) (b : Block) (i : Nat) (l : List Nat) (h : s.faults.length = 18) (j : Nat)
    (hj : j ∈ i :: l) (hk : j < 16) : (s.raiseAlso b i l).has b j = true := by
  have := s.raiseBits_has b i l h j hj hk
  simpa [State.has, State.raiseAlso_faults] using this

theorem State.raise_has (s : State) (b : Block) (i : Nat) (h : s.faults.length = 18) (hk : i < 16) :
    (s.raise b i).has b i = true := s.raiseAlso_has b i [] h i (by simp) hk

theorem State.raiseAlso_mono (s : State) (b : Block) (i : Nat) (l : List Nat) : StickyKept s (s.raiseAlso b i l) := by
  intro d j hc
  have := s.raiseBits_mono b i l d j hc
  simpa [State.has, State.raiseAlso_faults] using this

theorem State.raise_mono (s : State) (b : Block) (i : Nat) : StickyKept s (s.raise b i) := s.raiseAlso_mono b i []

theorem State.raiseAlso_length (s : State) (b : Block) (i : Nat) (l : List Nat) :
    (s.raiseAlso b i l).faults.length = s.faults.length := by
  rw [State.raiseAlso_faults]
  exact List.length_modify ..

@[simp] theorem State.raise_length (s : State) (b : Block) (i : Nat) : (s.raise b i).faults.length = s.faults.length :=
  s.raiseAlso_length b i []

end Sys2Proof.Machine
end

