-- ==== Sys2Proof/Laws/Memory.lean ====
section
/-!
SUPPORT. Flash: every operation keeps the canonical form, and what is written reads back.
-/
namespace Sys2Proof.Machine

/-! ### Flash keeps its canonical form -/

theorem Memory.wfAbove_mono {lo hi : Nat} (h : lo ≤ hi) (m : List Host.Cell) (k : Memory.wfAbove hi m = true) :
    Memory.wfAbove lo m = true := by
  cases m with
  | nil => rfl
  | cons c m =>
    simp only [Memory.wfAbove, Bool.and_eq_true, decide_eq_true_eq] at k ⊢
    exact ⟨⟨Nat.le_trans h k.1.1, k.1.2⟩, k.2⟩

theorem Memory.write_wfAbove (m : List Host.Cell) (lo x : Nat) (v : Byte) (hx : lo ≤ x) (h : Memory.wfAbove lo m = true) :
    Memory.wfAbove lo (Memory.write m x v) = true := by
  induction m generalizing lo with
  | nil =>
    by_cases e : v = 0xFF#8 <;> simp [Memory.write, Memory.wfAbove, e, hx]
  | cons c m ih =>
    obtain ⟨a, b⟩ := c
    simp only [Memory.wfAbove, Bool.and_eq_true, decide_eq_true_eq, bne_iff_ne, ne_eq] at h
    obtain ⟨⟨h1, h2⟩, h3⟩ := h
    have h2 : ¬ b = 0xFF#8 := h2
    unfold Memory.write
    split
    · split
      · simp [Memory.wfAbove, h1, h2, h3]
      · rename_i hlt hv
        have ha : x + 1 ≤ a := hlt
        have hv : ¬ v = 0xFF#8 := hv
        simp [Memory.wfAbove, hx, hv, ha, h2, h3]
    · split
      · split
        · exact Memory.wfAbove_mono (by omega) m h3
        · rename_i hxa hv
          subst hxa
          have hv : ¬ v = 0xFF#8 := hv
          simp [Memory.wfAbove, hx, hv, h3]
      · simp only [Memory.wfAbove, Bool.and_eq_true, decide_eq_true_eq, bne_iff_ne, ne_eq]
        exact ⟨⟨h1, h2⟩, ih (a + 1) (by omega) h3⟩

/-- Writing a byte keeps the canonical form. -/
theorem Memory.write_wf {m : List Host.Cell} (h : Memory.wf m = true) (x : Nat) (v : Byte) :
    Memory.wf (Memory.write m x v) = true := Memory.write_wfAbove m 0 x v (Nat.zero_le x) h

/-- Writing successive bytes keeps the canonical form. -/
theorem Memory.program_wf {m : List Host.Cell} (h : Memory.wf m = true) (x : Nat) (bs : List Byte) :
    Memory.wf (Memory.program m x bs) = true := by
  induction bs generalizing m x with
  | nil => exact h
  | cons b bs ih => exact ih (Memory.write_wf h x b) (x + 1)

theorem Memory.filter_wfAbove (p : Host.Cell → Bool) (m : List Host.Cell) (lo : Nat) (h : Memory.wfAbove lo m = true) :
    Memory.wfAbove lo (m.filter p) = true := by
  induction m generalizing lo with
  | nil => rfl
  | cons c m ih =>
    obtain ⟨a, b⟩ := c
    simp only [Memory.wfAbove, Bool.and_eq_true, decide_eq_true_eq] at h
    have k := ih (a + 1) h.2
    cases q : p (a, b)
    · simp only [List.filter_cons_of_neg, q, Bool.false_eq_true, not_false_eq_true]
      exact Memory.wfAbove_mono (by omega) _ k
    · simp only [List.filter_cons_of_pos, q, Memory.wfAbove, Bool.and_eq_true, decide_eq_true_eq]
      exact ⟨h.1, k⟩

/-- Erasing keeps the canonical form. -/
theorem Memory.erase_wf {m : List Host.Cell} (h : Memory.wf m = true) (x n : Nat) : Memory.wf (Memory.erase m x n) = true :=
  Memory.filter_wfAbove _ m 0 h

theorem Memory.read_wfAbove (m : List Host.Cell) (lo x : Nat) (h : Memory.wfAbove lo m = true) (hx : x < lo) :
    Memory.read m x = 0xFF := by
  cases m with
  | nil => rfl
  | cons c m =>
    obtain ⟨a, b⟩ := c
    simp only [Memory.wfAbove, Bool.and_eq_true, decide_eq_true_eq] at h
    have : x < a := by omega
    simp [Memory.read, this]

theorem Memory.read_write_above (m : List Host.Cell) (lo x y : Nat) (v : Byte) (h : Memory.wfAbove lo m = true) :
    Memory.read (Memory.write m x v) y = if y = x then v else Memory.read m y := by
  induction m generalizing lo with
  | nil =>
    by_cases e : v = 0xFF#8
    · simp [Memory.write, Memory.read, e]
    · rcases Nat.lt_trichotomy y x with k | k | k
      · have : y ≠ x := by omega
        simp [Memory.write, Memory.read, e, k, this]
      · simp [Memory.write, Memory.read, e, k]
      · have k1 : ¬ y < x := by omega
        have k2 : y ≠ x := by omega
        simp [Memory.write, Memory.read, e, k1, k2]
  | cons c m ih =>
    obtain ⟨a, b⟩ := c
    simp only [Memory.wfAbove, Bool.and_eq_true, decide_eq_true_eq] at h
    have low : ∀ z, z ≤ a → Memory.read m z = 0xFF := fun z hz => Memory.read_wfAbove m (a + 1) z h.2 (by omega)
    unfold Memory.write
    split
    · rename_i hxa
      split
      · rename_i hv
        by_cases e : y = x
        · subst e; simp [Memory.read, hxa, hv]
        · simp [e]
      · rcases Nat.lt_trichotomy y x with k | k | k
        · have k2 : y ≠ x := by omega
          have k3 : y < a := by omega
          simp [Memory.read, k, k2, k3]
        · simp [Memory.read, k]
        · have k1 : ¬ y < x := by omega
          have k2 : y ≠ x := by omega
          simp [Memory.read, k1, k2]
    · split
      · rename_i hxa
        subst hxa
        split
        · rename_i hv
          rcases Nat.lt_trichotomy y x with k | k | k
          · have k2 : y ≠ x := by omega
            simp [Memory.read, k, k2, low y (by omega)]
          · simp [k, low x (by omega), hv]
          · have k1 : ¬ y < x := by omega
            have k2 : y ≠ x := by omega
            simp [Memory.read, k1, k2]
        · rcases Nat.lt_trichotomy y x with k | k | k
          · have k2 : y ≠ x := by omega
            simp [Memory.read, k, k2]
          · simp [Memory.read, k]
          · have k1 : ¬ y < x := by omega
            have k2 : y ≠ x := by omega
            simp [Memory.read, k1, k2]
      · have ihh := ih (a + 1) h.2
        simp only [Memory.read]
        split
        · have k2 : y ≠ x := by omega
          simp [k2]
        · split
          · have k2 : y ≠ x := by omega
            simp [k2]
          · exact ihh

/-- A read after a write gives the value written at its address and the old value elsewhere. -/
theorem Memory.read_write {m : List Host.Cell} (h : Memory.wf m = true) (x y : Nat) (v : Byte) :
    Memory.read (Memory.write m x v) y = if y = x then v else Memory.read m y := Memory.read_write_above m 0 x y v h

end Sys2Proof.Machine
end

