-- ==== Sys2Proof/Laws/Receive.lean ====
section
/-!
SUPPORT. Frames that are received: what taking a frame does to its port, and that a frame which reaches the device is taken,
acted on, and followed by nothing held. Beside it what single operations leave in the field they are about.
-/
namespace Sys2Proof.Machine

theorem State.updPort_updPort (s : State) (p : Port) (f g : PortState → PortState) :
    (s.updPort p f).updPort p g = s.updPort p (fun q => g (f q)) := by cases p <;> rfl

/-- An update of a port that leaves what the order of frames rests on. -/
def PortState.Calm (g : PortState → PortState) : Prop := ∀ q, (g q).up = q.up ∧ (g q).fenced = q.fenced ∧ (g q).rxNext = q.rxNext ∧ (g q).heldFrames = q.heldFrames ∧ (g q).heldSkips = q.heldSkips ∧ (g q).seen = q.seen ∧ (g q).cableNs = q.cableNs
/-- An update of a port that takes one frame (R269). -/
def PortState.Takes (k : PortState → PortState) : Prop := ∀ q, (k q).rxNext = q.rxNext + 1 ∧ (k q).ackDue = some (.ack q.rxNext) ∧ (k q).heldFrames = q.heldFrames ∧ (k q).heldSkips = q.heldSkips ∧ (k q).cableNs = q.cableNs ∧ (k q).up = q.up ∧ (k q).fenced = q.fenced

/-- Such an update before the frame is taken, and one that keeps the same fields after it, is an update of taking. -/
theorem PortState.Takes.of_calm (g : PortState → PortState) (hg : PortState.Calm g) (h : PortState → PortState) (hh : ∀ q : PortState, (h q).rxNext = q.rxNext ∧ (h q).ackDue = q.ackDue ∧ (h q).heldFrames = q.heldFrames ∧ (h q).heldSkips = q.heldSkips ∧ (h q).cableNs = q.cableNs ∧ (h q).up = q.up ∧ (h q).fenced = q.fenced) :
   PortState.Takes (fun q => h (advance { g q with fails := 0 })) := by
  intro q
  obtain ⟨a1, a2, a3, a4, a5, a6, a7⟩ := hg q
  obtain ⟨b1, b2, b3, b4, b5, b6, b7⟩ := hh (advance { g q with fails := 0 })
  exact ⟨b1.trans (congrArg (· + 1) a3), b2.trans (congrArg (fun x => some (Control.ack x)) a3), b3.trans a4, b4.trans a5,
    b5.trans a7, b6.trans a1, b7.trans a2⟩

/-- A frame in order is taken, acted on, and what was held behind it follows (R258, R264, R269). -/
theorem State.inOrder_eq (s : State) (p : Port) (ft : FrameType) (f : RxFrame) (t : Nat) (h : Delivers s p ft f) (g : PortState → PortState)
   (hg : PortState.Calm g) :
   ∃ k : PortState → PortState, PortState.Takes k ∧
     (s.updPort p g).inOrder p ft f t = (((s.updPort p k).consume p ft f t)).drainAll p := by
  obtain ⟨h1, h2, h3, h4, h5, h6, h7, h8, h9, h10⟩ := h
  obtain ⟨a1, a2, a3, a4, a5, a6, a7⟩ := hg (s.port p)
  have hch : ∀ k, (s.updPort p k).checksOk ft f = s.checksOk ft f := by intro k; cases p <;> rfl
  have hco : ∀ k, (s.updPort p k).consumes p ft f = s.consumes p ft f := by intro k; cases p <;> rfl
  have hac : ∀ k, (s.updPort p k).actsOn ft f = s.actsOn ft f := by intro k; cases p <;> rfl
  have hde : ∀ k, (s.updPort p k).deals = s.deals := by intro k; cases p <;> rfl
  have key : ∀ h : PortState → PortState, (∀ q : PortState, (h q).rxNext = q.rxNext ∧ (h q).ackDue = q.ackDue ∧ (h q).heldFrames = q.heldFrames ∧ (h q).heldSkips = q.heldSkips ∧ (h q).cableNs = q.cableNs ∧ (h q).up = q.up ∧ (h q).fenced = q.fenced) →
     (s.updPort p fun q => advance { g q with fails := 0 }).noteFrame p ft f = s.updPort p (fun q => h (advance { g q with fails := 0 })) →
     ((s.updPort p g).inOrder p ft f t = (((s.updPort p (fun q => PortState.free f.reserve (h (advance { g q with fails := 0 })))).consume p ft f t)).drainAll p) := by
    intro h hh hn
    unfold State.inOrder
    simp only [State.updPort_updPort, State.updPort_port, a3, h4, if_true]
    congr 1
    unfold State.take
    have e1 : ((s.updPort p fun q => advance { g q with fails := 0 }).port p).fenced = false := by simp [advance, a2, h3]
    have e2 : ((s.updPort p (fun q => h (advance { g q with fails := 0 }))).port p).fenced = false := by
      simp [(hh _).2.2.2.2.2.2, advance, a2, h3]
    simp only [e1, hch, h7, hn, e2, hco, h9, hac, h10, State.updPort_updPort]
    simp
  have fr : ∀ h : PortState → PortState, (∀ q : PortState, (h q).rxNext = q.rxNext ∧ (h q).ackDue = q.ackDue ∧ (h q).heldFrames = q.heldFrames ∧ (h q).heldSkips = q.heldSkips ∧ (h q).cableNs = q.cableNs ∧ (h q).up = q.up ∧ (h q).fenced = q.fenced) →
     (∀ q : PortState, ((PortState.free f.reserve (h q))).rxNext = q.rxNext ∧ (PortState.free f.reserve (h q)).ackDue = q.ackDue ∧ (PortState.free f.reserve (h q)).heldFrames = q.heldFrames ∧ (PortState.free f.reserve (h q)).heldSkips = q.heldSkips ∧ (PortState.free f.reserve (h q)).cableNs = q.cableNs ∧ (PortState.free f.reserve (h q)).up = q.up ∧ (PortState.free f.reserve (h q)).fenced = q.fenced) := by
    intro h hh q
    unfold PortState.free
    split <;> exact hh q
  cases hs : seenOf ft f with
  | none =>
    refine ⟨_, PortState.Takes.of_calm g hg _ (fr id (fun _ => by simp)), ?_⟩
    exact key id (fun _ => by simp) (by simp [State.noteFrame, hs])
  | some x =>
    have hx := h8 x hs
    cases hd : s.deals with
    | false =>
      refine ⟨_, PortState.Takes.of_calm g hg _ (fr id (fun _ => by simp)), ?_⟩
      exact key id (fun _ => by simp) (by simp [State.noteFrame, hs, State.noteSeen, hde, hd])
    | true =>
      refine ⟨_, PortState.Takes.of_calm g hg _ (fr (fun q => { q with seen := q.seen ++ [x] }) (fun _ => by simp)), ?_⟩
      exact key (fun q => { q with seen := q.seen ++ [x] }) (fun _ => by simp) (by
        simp only [State.noteFrame, hs, State.noteSeen, hde, hd, State.updPort_port]
        simp [advance, a6, hx, State.updPort_updPort])

theorem State.drainAll_id (s : State) (p : Port) (h5 : (s.port p).heldFrames = []) (h6 : (s.port p).heldSkips = []) : s.drainAll p = s := by
  unfold State.drainAll; simp [h5, h6, State.drain]

/-- A frame that is delivered is taken and acted on. -/
theorem State.receive_eq (s : State) (p : Port) (ft : FrameType) (f : RxFrame) (t : Nat) (h : Delivers s p ft f) :
   ∃ k : PortState → PortState, PortState.Takes k ∧ s.receive p ft f t = (((s.updPort p k).consume p ft f t)).drainAll p := by
  obtain ⟨k, hk, e⟩ := State.inOrder_eq s p ft f t h (fun q => { q with feed := Feed.off }) (fun q => by simp)
  refine ⟨k, hk, ?_⟩
  rw [← e]
  unfold State.receive State.endFeed
  simp [h.1, h.2.1]

theorem Taken.of_port (s : State) (p) (k) (hk : PortState.Takes k) (u : State) (f) (hf : f.seq = (s.port p).rxNext) (hu : u.port p = (s.updPort p k).port p) : Taken s u p f := by
  constructor
  · rw [hu]; simp [(hk _).1]
  · rw [hu]; simp [(hk _).2.1, hf]
theorem Delivers.drained (s : State) (p) (k) (hk : PortState.Takes k) (u : State) (ft f) (h : Delivers s p ft f) (hu : u.port p = (s.updPort p k).port p) : u.drainAll p = u := by
  apply State.drainAll_id
  · rw [hu]; simp [(hk _).2.2.1, h.2.2.2.2.1]
  · rw [hu]; simp [(hk _).2.2.2.1, h.2.2.2.2.2.1]

theorem State.pos_updPos (s : State) (i : Nat) (f) (h : i < s.dealer.positions.length) : (s.updPos i f).pos i = f (s.pos i) := by
  simp [State.pos, State.updPos, State.updDealer, List.getD_eq_getElem?_getD, h]

theorem State.pos_updPos_ne (s : State) (i j : Nat) (f) (h : i ≠ j) : (s.updPos i f).pos j = s.pos j := by
  simp [State.pos, State.updPos, State.updDealer, List.getD_eq_getElem?_getD, h]

theorem State.slot_updSlot (s : State) (i : Nat) (f) (h : i < s.probes.slots.length) : (s.updSlot i f).slot i = f (s.slot i) := by
  simp [State.slot, State.updSlot, State.updProbes, List.getD_eq_getElem?_getD, h]

theorem State.slot_updSlot_ne (s : State) (i j : Nat) (f) (h : i ≠ j) : (s.updSlot i f).slot j = s.slot j := by
  simp [State.slot, State.updSlot, State.updProbes, List.getD_eq_getElem?_getD, h]

theorem State.chan_updChan (s : State) (i : Nat) (f) (h : i < s.outputs.channels.length) :
    (s.updChan i f).chan i = f (s.chan i) := by
  simp [State.chan, State.updChan, State.settle, State.updOutputs, State.updMeas, List.getD_eq_getElem?_getD, h]

theorem State.chan_updChan_ne (s : State) (i j : Nat) (f) (h : i ≠ j) : (s.updChan i f).chan j = s.chan j := by
  simp [State.chan, State.updChan, State.settle, State.updOutputs, State.updMeas, List.getD_eq_getElem?_getD, h]

theorem State.setPack_pack (u : State) (p : PackState) : (u.setPack p).services.pack = p := by
  unfold State.setPack
  dsimp only [State.updServices]
  split
  · assumption
  · split
    · assumption
    · rfl

/-- The unsequenced opening leaves the pack OPEN, READY low (R444, R472). -/
theorem State.openPack_pack (u : State) (r : Nat) : (u.openPack r).services.pack = .opened ∧ (u.openPack r).pins.ready = false := by
  unfold State.openPack State.stringsOpen
  dsimp only [State.updServices, State.updPins]
  exact ⟨State.setPack_pack _ _, rfl⟩

/-- A trip opens the pack (R498). -/
theorem State.trip_pack (u : State) (l : Nat) : (u.trip (some l)).services.pack = .opened := by
  have k : Keeps [.logs, .keeper, .nv, .pins] (u.openPack 1) ((u.openPack 1).setLockout l) :=
    (State.setLockout_keeps (by decide) _).mpr (Keeps.refl _ _)
  have : ((u.openPack 1).setLockout l).services = (u.openPack 1).services := k.group .services (by decide)
  show ((u.openPack 1).setLockout l).services.pack = _
  rw [this, (State.openPack_pack _ _).1]

end Sys2Proof.Machine
end

