-- ==== Sys2Proof/Laws/Sound.lean ====
section
/-!
SUPPORT. What every shared operation keeps: the invariant of the machine, the sticky bits and the fatal state outside resets,
the lock-out and with it the open pack.
-/
namespace Sys2Proof.Machine

/-- A lock-out set in both copies stays set in both, and under it an open pack stays open (R511, R512). -/
def LockKept (s t : State) : Prop :=
  s.keeper.lockout = true → s.nv.lockout = true →
    t.keeper.lockout = true ∧ t.nv.lockout = true ∧ (s.services.pack = .opened → t.services.pack = .opened)

/-- What an operation keeps: the invariant always, the sticky bits and the fatal state with `m`, the lock-out with `l`. -/
structure Sound (m l : Bool) (s t : State) : Prop where
  inv : s.Inv → t.Inv
  sticky : m = true → StickyKept s t
  fatal : m = true → s.dev.fatal = true → t.dev.fatal = true
  lock : l = true → LockKept s t

/-- What the log and the trace keep (R537, R543). -/
abbrev Logs.fits (x : Logs) : Prop := x.queue.length ≤ 64 ∧ x.trace.length ≤ 512

theorem Sound.refl (m l : Bool) (s : State) : Sound m l s s := ⟨id, fun _ => StickyKept.refl s, fun _ k => k, fun _ a b => ⟨a, b, id⟩⟩

theorem Sound.trans {m l : Bool} {s t u : State} (h : Sound m l s t) (k : Sound m l t u) : Sound m l s u :=
  ⟨k.inv ∘ h.inv, fun q => (h.sticky q).trans (k.sticky q), fun q a => k.fatal q (h.fatal q a), fun q a b =>
    have i := h.lock q a b
    have j := k.lock q i.1 i.2.1
    ⟨j.1, j.2.1, j.2.2 ∘ i.2.2⟩⟩

/-- An operation that keeps flash, fuses, logs, status words, the lock-out copies, the pack and the fatal latch is sound. -/
theorem Keeps.sound {G : List Group} {m l : Bool} {s t : State} (h : Keeps G s t)
    (c : [Group.flash, .faults, .logs, .nv, .keeper, .services, .dev].any G.contains = false) : Sound m l s t := by
  simp only [List.any_cons, List.any_nil, Bool.or_false, Bool.or_eq_false_iff] at c
  obtain ⟨cf, cb, cl, cn, ck, cs, cd⟩ := c
  have e1 : t.flash = s.flash := h .flash (by simpa using cf)
  have e2 : t.faults = s.faults := h .faults (by simpa using cb)
  have e3 : t.logs = s.logs := h .logs (by simpa using cl)
  have e4 : t.nv = s.nv := h .nv (by simpa using cn)
  have e5 : t.keeper = s.keeper := h .keeper (by simpa using ck)
  have e6 : t.services = s.services := h .services (by simpa using cs)
  have e7 : t.dev = s.dev := h .dev (by simpa using cd)
  refine ⟨fun i => ⟨?_, ?_, ?_, ?_, ?_⟩, fun _ b i q => ?_, fun _ a => ?_, fun _ a b => ⟨?_, ?_, fun k => ?_⟩⟩
  · rw [e1]; exact i.flash
  · rw [e2]; exact i.blocks
  · rw [e3]; exact i.queue
  · rw [e3]; exact i.trace
  · rw [e4]; exact i.fuses
  · simpa [State.has, e2] using q
  · rw [e7]; exact a
  · rw [e5]; exact a
  · rw [e4]; exact b
  · rw [e6]; exact k

theorem State.updLogs_sound {m l : Bool} {s u : State} {f : Logs → Logs} (hf : ∀ x, x.fits → (f x).fits) (h : Sound m l s u) :
    Sound m l s (u.updLogs f) :=
  h.trans ⟨fun i => ⟨i.flash, i.blocks, (hf _ ⟨i.queue, i.trace⟩).1, (hf _ ⟨i.queue, i.trace⟩).2, i.fuses⟩, fun _ _ _ q => q,
    fun _ k => k, fun _ a b => ⟨a, b, id⟩⟩

theorem State.updNv_sound {m l : Bool} {s u : State} {f : NonVolatile → NonVolatile} (hf : u.nv.fuses ≤ 32 → (f u.nv).fuses ≤ 32)
    (hl : l = true → u.nv.lockout = true → (f u.nv).lockout = true) (h : Sound m l s u) : Sound m l s (u.updNv f) :=
  h.trans ⟨fun i => ⟨i.flash, i.blocks, i.queue, i.trace, hf i.fuses⟩, fun _ _ _ q => q, fun _ k => k,
    fun q a b => ⟨a, hl q b, id⟩⟩

theorem State.updKeeper_sound {m l : Bool} {s u : State} {f : Keeper → Keeper}
    (hl : l = true → u.keeper.lockout = true → (f u.keeper).lockout = true) (h : Sound m l s u) : Sound m l s (u.updKeeper f) :=
  h.trans ⟨fun i => ⟨i.flash, i.blocks, i.queue, i.trace, i.fuses⟩, fun _ _ _ q => q, fun _ k => k,
    fun q a b => ⟨hl q a, b, id⟩⟩

theorem State.updServices_sound {m l : Bool} {s u : State} {f : Services → Services}
    (hp : l = true → u.services.pack = .opened → (f u.services).pack = .opened) (h : Sound m l s u) : Sound m l s (u.updServices f) :=
  h.trans ⟨fun i => ⟨i.flash, i.blocks, i.queue, i.trace, i.fuses⟩, fun _ _ _ q => q, fun _ k => k,
    fun q a b => ⟨a, b, hp q⟩⟩

theorem State.updDev_sound {m l : Bool} {s u : State} {f : Dev → Dev}
    (hf : u.dev.fatal = true → (f u.dev).fatal = true) (h : Sound m l s u) : Sound m l s (u.updDev f) :=
  h.trans ⟨fun i => ⟨i.flash, i.blocks, i.queue, i.trace, i.fuses⟩, fun _ _ _ q => q, fun _ k => hf k,
    fun _ a b => ⟨a, b, id⟩⟩

theorem State.updBlock_sound {m l : Bool} {s u : State} {b : Block} {f : BlockState → BlockState}
    (hf : ∀ x j, x.sticky.getLsbD j = true → (f x).sticky.getLsbD j = true) (h : Sound m l s u) :
    Sound m l s (u.updBlock b f) := by
  refine h.trans ⟨fun i => ⟨i.flash, ?_, i.queue, i.trace, i.fuses⟩, fun _ d j q => ?_, fun _ k => k, fun _ a b => ⟨a, b, id⟩⟩
  · simpa [State.updBlock] using i.blocks
  · simp only [State.has, faultOf, State.updBlock, List.getD_eq_getElem?_getD, List.getElem?_modify] at q ⊢
    by_cases k : blockIndex b = blockIndex d
    · simp only [if_pos k]
      cases e : u.faults[blockIndex d]? with
      | none => simpa [e] using q
      | some x =>
        simp only [e, Option.getD_some] at q
        simpa using hf _ _ q
    · simpa [k] using q

theorem flash_sound {m l : Bool} {s u : State} {c : List Host.Cell} (hc : Memory.wf u.flash = true → Memory.wf c = true)
    (h : Sound m l s u) : Sound m l s { u with flash := c } :=
  h.trans ⟨fun i => ⟨hc i.flash, i.blocks, i.queue, i.trace, i.fuses⟩, fun _ _ _ q => q, fun _ k => k, fun _ a b => ⟨a, b, id⟩⟩

/-- An operation that keeps both lock-out copies and starts with one of them clear or the pack not open. -/
theorem Sound.relock {m l : Bool} {G : List Group} {s t : State} (k : Sound m false s t) (h : Keeps G s t)
    (c : [Group.keeper, .nv].any G.contains = false) (n : s.keeper.lockout = false ∨ s.services.pack ≠ .opened) :
    Sound m l s t := by
  simp only [List.any_cons, List.any_nil, Bool.or_false, Bool.or_eq_false_iff] at c
  have e1 : t.keeper = s.keeper := h .keeper (by simpa using c.1)
  have e2 : t.nv = s.nv := h .nv (by simpa using c.2)
  refine ⟨k.inv, k.sticky, k.fatal, fun _ a b => ⟨?_, ?_, fun p => ?_⟩⟩
  · rw [e1]; exact a
  · rw [e2]; exact b
  · rcases n with n | n
    · rw [a] at n; cases n
    · exact absurd p n

theorem sound_ite {m l : Bool} {s u v : State} {p : Prop} [Decidable p] (h : Sound m l s u) (k : Sound m l s v) :
    Sound m l s (if p then u else v) := by split <;> assumption

theorem sound_foldl {α : Type} {m l : Bool} {s u : State} {f : State → α → State} (xs : List α)
    (hf : ∀ t x, Sound m l t (f t x)) (h : Sound m l s u) : Sound m l s (xs.foldl f u) := by
  induction xs generalizing u with
  | nil => exact h
  | cons x xs ih => exact ih (h.trans (hf u x))



set_option linter.unusedSimpArgs false
set_option linter.unusedVariables false

variable {m l : Bool} {s u : State}

/-! ### Ops -/

theorem State.updStraps_sound (x1) (h : Sound m l s u) : Sound m l s (u.updStraps x1) := 
  h.trans (Keeps.sound (G := [.straps]) ((State.updStraps_keeps (by decide) _).mpr (Keeps.refl _ _)) (by decide))

theorem State.updMeas_sound (x1) (h : Sound m l s u) : Sound m l s (u.updMeas x1) := 
  h.trans (Keeps.sound (G := [.meas]) ((State.updMeas_keeps (by decide) _).mpr (Keeps.refl _ _)) (by decide))

theorem State.updProbes_sound (x1) (h : Sound m l s u) : Sound m l s (u.updProbes x1) := 
  h.trans (Keeps.sound (G := [.probes]) ((State.updProbes_keeps (by decide) _).mpr (Keeps.refl _ _)) (by decide))

theorem State.updClocks_sound (x1) (h : Sound m l s u) : Sound m l s (u.updClocks x1) := 
  h.trans (Keeps.sound (G := [.clocks]) ((State.updClocks_keeps (by decide) _).mpr (Keeps.refl _ _)) (by decide))

theorem State.updRing_sound (x1) (h : Sound m l s u) : Sound m l s (u.updRing x1) := 
  h.trans (Keeps.sound (G := [.ring]) ((State.updRing_keeps (by decide) _).mpr (Keeps.refl _ _)) (by decide))

theorem State.updDealer_sound (x1) (h : Sound m l s u) : Sound m l s (u.updDealer x1) := 
  h.trans (Keeps.sound (G := [.dealer]) ((State.updDealer_keeps (by decide) _).mpr (Keeps.refl _ _)) (by decide))

theorem State.updBalance_sound (x1) (h : Sound m l s u) : Sound m l s (u.updBalance x1) := 
  h.trans (Keeps.sound (G := [.balance]) ((State.updBalance_keeps (by decide) _).mpr (Keeps.refl _ _)) (by decide))

theorem State.updOutputs_sound (x1) (h : Sound m l s u) : Sound m l s (u.updOutputs x1) := 
  h.trans (Keeps.sound (G := [.outputs]) ((State.updOutputs_keeps (by decide) _).mpr (Keeps.refl _ _)) (by decide))

theorem State.updFan_sound (x1) (h : Sound m l s u) : Sound m l s (u.updFan x1) := 
  h.trans (Keeps.sound (G := [.fan]) ((State.updFan_keeps (by decide) _).mpr (Keeps.refl _ _)) (by decide))

theorem State.updSupply_sound (x1) (h : Sound m l s u) : Sound m l s (u.updSupply x1) := 
  h.trans (Keeps.sound (G := [.supply]) ((State.updSupply_keeps (by decide) _).mpr (Keeps.refl _ _)) (by decide))

theorem State.updLife_sound (x1) (h : Sound m l s u) : Sound m l s (u.updLife x1) := 
  h.trans (Keeps.sound (G := [.life]) ((State.updLife_keeps (by decide) _).mpr (Keeps.refl _ _)) (by decide))

theorem State.updSafety_sound (x1) (h : Sound m l s u) : Sound m l s (u.updSafety x1) := 
  h.trans (Keeps.sound (G := [.safety]) ((State.updSafety_keeps (by decide) _).mpr (Keeps.refl _ _)) (by decide))

theorem State.updVehicle_sound (x1) (h : Sound m l s u) : Sound m l s (u.updVehicle x1) := 
  h.trans (Keeps.sound (G := [.vehicle]) ((State.updVehicle_keeps (by decide) _).mpr (Keeps.refl _ _)) (by decide))

theorem State.updPins_sound (x1) (h : Sound m l s u) : Sound m l s (u.updPins x1) := 
  h.trans (Keeps.sound (G := [.pins]) ((State.updPins_keeps (by decide) _).mpr (Keeps.refl _ _)) (by decide))

theorem State.updService_sound (x1) (h : Sound m l s u) : Sound m l s (u.updService x1) := 
  h.trans (Keeps.sound (G := [.service]) ((State.updService_keeps (by decide) _).mpr (Keeps.refl _ _)) (by decide))

theorem State.updBist_sound (x1) (h : Sound m l s u) : Sound m l s (u.updBist x1) := 
  h.trans (Keeps.sound (G := [.bist]) ((State.updBist_keeps (by decide) _).mpr (Keeps.refl _ _)) (by decide))

theorem State.updPort_sound (x1 x2) (h : Sound m l s u) : Sound m l s (u.updPort x1 x2) := 
  h.trans (Keeps.sound (G := [.portN, .portS]) ((State.updPort_keeps (by decide) _ _).mpr (Keeps.refl _ _)) (by decide))

theorem State.pushLog_sound (x y) (h : Sound m l s u) : Sound m l s (u.pushLog x y) := by
  refine State.updLogs_sound ?_ h
  rintro z ⟨k1, k2⟩
  split
  · exact ⟨by simp; omega, k2⟩
  · exact ⟨k1, k2⟩

theorem State.log_sound (x1 x2) (h : Sound m l s u) : Sound m l s (u.log x1 x2) := by
  refine h.trans ?_
  unfold State.log
  try dsimp only
  repeat' (first | with_reducible exact Sound.refl _ _ _ | with_reducible assumption | with_reducible apply State.pushLog_sound | with_reducible apply sound_ite | (with_reducible refine sound_foldl _ ?_ ?_; (first | (rintro t ⟨_, _⟩) | intro t _)) | split)

theorem State.trace_sound (x y) (h : Sound m l s u) : Sound m l s (u.trace x y) := by
  refine State.updLogs_sound ?_ h
  rintro z ⟨k1, k2⟩
  split
  · refine ⟨k1, ?_⟩
    simp only [List.length_append, List.length_singleton]
    split
    · omega
    · rw [List.length_drop]; omega
  · exact ⟨k1, k2⟩

theorem State.queue_sound (x1 x2) (h : Sound m l s u) : Sound m l s (u.queue x1 x2) := 
  h.trans (Keeps.sound (G := [.portN, .portS]) ((State.queue_keeps (by decide) _ _).mpr (Keeps.refl _ _)) (by decide))

theorem State.send_sound (x1 x2 x3) (h : Sound m l s u) : Sound m l s (u.send x1 x2 x3) := 
  h.trans (Keeps.sound (G := [.portN, .portS]) ((State.send_keeps (by decide) _ _ _).mpr (Keeps.refl _ _)) (by decide))

theorem State.sendTrumpWords_sound (x1) (h : Sound m l s u) : Sound m l s (u.sendTrumpWords x1) := by
  refine h.trans ?_
  unfold State.sendTrumpWords
  try dsimp only
  repeat' (first | with_reducible exact Sound.refl _ _ _ | with_reducible assumption | with_reducible apply State.trace_sound | with_reducible apply State.send_sound | with_reducible apply sound_ite | (with_reducible refine sound_foldl _ ?_ ?_; (first | (rintro t ⟨_, _⟩) | intro t _)) | split)

theorem State.settle_sound (h : Sound m l s u) : Sound m l s (u.settle) := 
  h.trans (Keeps.sound (G := [.outputs, .meas]) ((State.settle_keeps (by decide) ).mpr (Keeps.refl _ _)) (by decide))

theorem State.updChan_sound (x1 x2) (h : Sound m l s u) : Sound m l s (u.updChan x1 x2) := 
  h.trans (Keeps.sound (G := [.outputs, .meas]) ((State.updChan_keeps (by decide) _ _).mpr (Keeps.refl _ _)) (by decide))

theorem State.traceOut_sound (x1 x2 x3) (h : Sound m l s u) : Sound m l s (u.traceOut x1 x2 x3) := by
  refine h.trans ?_
  unfold State.traceOut
  try dsimp only
  repeat' (first | with_reducible exact Sound.refl _ _ _ | with_reducible assumption | with_reducible apply State.trace_sound | with_reducible apply sound_ite | (with_reducible refine sound_foldl _ ?_ ?_; (first | (rintro t ⟨_, _⟩) | intro t _)) | split)

theorem State.commandOff_sound (x1 x2) (h : Sound m l s u) : Sound m l s (u.commandOff x1 x2) := by
  refine h.trans ?_
  unfold State.commandOff
  try dsimp only
  repeat' (first | with_reducible exact Sound.refl _ _ _ | with_reducible assumption | with_reducible apply State.traceOut_sound | with_reducible apply State.updChan_sound | with_reducible apply sound_ite | (with_reducible refine sound_foldl _ ?_ ?_; (first | (rintro t ⟨_, _⟩) | intro t _)) | split)

theorem State.ruleOff_sound (x1 x2 x3) (h : Sound m l s u) : Sound m l s (u.ruleOff x1 x2 x3) := by
  refine h.trans ?_
  unfold State.ruleOff
  try dsimp only
  repeat' (first | with_reducible exact Sound.refl _ _ _ | with_reducible assumption | with_reducible apply State.traceOut_sound | with_reducible apply State.updChan_sound | with_reducible apply sound_ite | (with_reducible refine sound_foldl _ ?_ ?_; (first | (rintro t ⟨_, _⟩) | intro t _)) | split)

theorem State.gateOn_sound (x1 x2) (h : Sound m l s u) : Sound m l s (u.gateOn x1 x2) := by
  refine h.trans ?_
  unfold State.gateOn
  try dsimp only
  repeat' (first | with_reducible exact Sound.refl _ _ _ | with_reducible assumption | with_reducible apply State.updChan_sound | with_reducible apply State.traceOut_sound | with_reducible apply sound_ite | (with_reducible refine sound_foldl _ ?_ ?_; (first | (rintro t ⟨_, _⟩) | intro t _)) | split)

theorem State.commandOn_sound (x1) (h : Sound m l s u) : Sound m l s (u.commandOn x1) := by
  refine h.trans ?_
  unfold State.commandOn
  try dsimp only
  repeat' (first | with_reducible exact Sound.refl _ _ _ | with_reducible assumption | with_reducible apply State.updChan_sound | with_reducible apply State.gateOn_sound | with_reducible apply sound_ite | (with_reducible refine sound_foldl _ ?_ ?_; (first | (rintro t ⟨_, _⟩) | intro t _)) | split)

theorem State.coilsOff_sound (x1) (h : Sound m l s u) : Sound m l s (u.coilsOff x1) := by
  refine h.trans ?_
  unfold State.coilsOff
  try dsimp only
  repeat' (first | with_reducible exact Sound.refl _ _ _ | with_reducible assumption | with_reducible apply State.commandOff_sound | with_reducible apply sound_ite | (with_reducible refine sound_foldl _ ?_ ?_; (first | (rintro t ⟨_, _⟩) | intro t _)) | split)

theorem State.traceSticky_sound (x1 x2 x3) (h : Sound m l s u) : Sound m l s (u.traceSticky x1 x2 x3) := by
  refine h.trans ?_
  unfold State.traceSticky
  try dsimp only
  repeat' (first | with_reducible exact Sound.refl _ _ _ | with_reducible assumption | with_reducible apply State.trace_sound | with_reducible apply sound_ite | (with_reducible refine sound_foldl _ ?_ ?_; (first | (rintro t ⟨_, _⟩) | intro t _)) | split)

theorem State.raiseBits_sound (x y z) (h : Sound m l s u) : Sound m l s (u.raiseBits x y z) := by
  refine State.traceSticky_sound _ _ _ (State.updBlock_sound ?_ h)
  intro b j k
  rw [react_sticky]
  exact setSticky_mono _ _ _ _ k

theorem State.faultPin_sound (x1) (h : Sound m l s u) : Sound m l s (u.faultPin x1) := 
  h.trans (Keeps.sound (G := [.pins]) ((State.faultPin_keeps (by decide) _).mpr (Keeps.refl _ _)) (by decide))

theorem State.endReaction_sound (x1) (h : Sound m l s u) : Sound m l s (u.endReaction x1) := by
  refine h.trans ?_
  unfold State.endReaction
  try dsimp only
  repeat' (first | with_reducible exact Sound.refl _ _ _ | with_reducible assumption | with_reducible apply State.log_sound | (with_reducible refine State.updBlock_sound ?_ ?_; (· first | exact fun _ _ k => k | simp)) | with_reducible apply sound_ite | (with_reducible refine sound_foldl _ ?_ ?_; (first | (rintro t ⟨_, _⟩) | intro t _)) | split)

theorem State.logLockout_sound (x1 x2 x3) (h : Sound m l s u) : Sound m l s (u.logLockout x1 x2 x3) := by
  refine h.trans ?_
  unfold State.logLockout
  try dsimp only
  repeat' (first | with_reducible exact Sound.refl _ _ _ | with_reducible assumption | with_reducible apply State.log_sound | with_reducible apply sound_ite | (with_reducible refine sound_foldl _ ?_ ?_; (first | (rintro t ⟨_, _⟩) | intro t _)) | split)

theorem State.lockPin_sound (h : Sound m l s u) : Sound m l s (u.lockPin) := 
  h.trans (Keeps.sound (G := [.pins]) ((State.lockPin_keeps (by decide) ).mpr (Keeps.refl _ _)) (by decide))

theorem State.setLockout_sound (x1) (h : Sound m l s u) : Sound m l s (u.setLockout x1) := by
  refine h.trans ?_
  unfold State.setLockout
  try dsimp only
  repeat' (first | with_reducible exact Sound.refl _ _ _ | with_reducible assumption | with_reducible apply State.logLockout_sound | with_reducible apply State.lockPin_sound | (with_reducible refine State.updNv_sound ?_ ?_ ?_; (· (first | with_reducible exact fun k => k | (intro k; (try dsimp only); (repeat' split) <;> first | with_reducible exact k | omega))); (· (first | with_reducible exact fun _ _ => rfl | with_reducible exact fun _ k => k | (intro _ k; (try dsimp only); (repeat' split) <;> first | with_reducible exact k | rfl)))) | (with_reducible refine State.updKeeper_sound ?_ ?_; (· (first | with_reducible exact fun _ _ => rfl | with_reducible exact fun _ k => k | (intro _ k; (try dsimp only); (repeat' split) <;> first | with_reducible exact k | rfl)))) | with_reducible apply sound_ite | (with_reducible refine sound_foldl _ ?_ ?_; (first | (rintro t ⟨_, _⟩) | intro t _)) | split)

theorem State.setPack_sound {p : PackState} (hp : l = true → p = .opened) (h : Sound m l s u) : Sound m l s (u.setPack p) := by
  unfold State.setPack
  refine State.updServices_sound (fun q k => ?_) (sound_ite h (State.trace_sound _ _ h))
  by_cases e : (if u.services.pack = p then u else u.trace 0x88 ([BitVec.ofNat 8 p.code] ++ dealBytes u.dealNo ++ [0])).services.pack = p
  · rw [if_pos e]; exact k
  · rw [if_neg e]; exact hp q

theorem State.stringsOpen_sound (h : Sound m l s u) : Sound m l s (u.stringsOpen) := by
  refine h.trans ?_
  unfold State.stringsOpen
  try dsimp only
  repeat' (first | with_reducible exact Sound.refl _ _ _ | with_reducible assumption | (with_reducible refine State.updServices_sound ?_ ?_; (· (first | with_reducible exact fun _ k => k | with_reducible exact fun _ _ => rfl | (intro _ k; (try dsimp only); (repeat' split) <;> first | with_reducible exact k | rfl)))) | with_reducible apply sound_ite | (with_reducible refine sound_foldl _ ?_ ?_; (first | (rintro t ⟨_, _⟩) | intro t _)) | split)

theorem State.openPack_sound (x1) (h : Sound m l s u) : Sound m l s (u.openPack x1) := by
  refine h.trans ?_
  unfold State.openPack
  try dsimp only
  repeat' (first | with_reducible exact Sound.refl _ _ _ | with_reducible assumption | (with_reducible refine State.updServices_sound ?_ ?_; (· (first | with_reducible exact fun _ k => k | with_reducible exact fun _ _ => rfl | (intro _ k; (try dsimp only); (repeat' split) <;> first | with_reducible exact k | rfl)))) | with_reducible apply State.updPins_sound | with_reducible apply State.stringsOpen_sound | (with_reducible refine State.setPack_sound ?_ ?_; (· first | exact fun _ => rfl | exact fun q => nomatch q)) | with_reducible apply State.coilsOff_sound | with_reducible apply sound_ite | (with_reducible refine sound_foldl _ ?_ ?_; (first | (rintro t ⟨_, _⟩) | intro t _)) | split)

theorem State.trip_sound (x1) (h : Sound m l s u) : Sound m l s (u.trip x1) := by
  refine h.trans ?_
  unfold State.trip
  try dsimp only
  repeat' (first | with_reducible exact Sound.refl _ _ _ | with_reducible assumption | with_reducible apply State.openPack_sound | with_reducible apply State.setLockout_sound | with_reducible apply sound_ite | (with_reducible refine sound_foldl _ ?_ ?_; (first | (rintro t ⟨_, _⟩) | intro t _)) | split)

theorem State.headOpens_sound (h : Sound m l s u) : Sound m l s (u.headOpens) := by
  refine h.trans ?_
  unfold State.headOpens
  try dsimp only
  repeat' (first | with_reducible exact Sound.refl _ _ _ | with_reducible assumption | with_reducible apply State.updSafety_sound | with_reducible apply State.coilsOff_sound | with_reducible apply sound_ite | (with_reducible refine sound_foldl _ ?_ ?_; (first | (rintro t ⟨_, _⟩) | intro t _)) | split)

theorem State.fatalOutputs_sound (h : Sound m l s u) : Sound m l s (u.fatalOutputs) := 
  h.trans (Keeps.sound (G := [.outputs, .meas, .balance, .fan, .pins]) ((State.fatalOutputs_keeps (by decide) ).mpr (Keeps.refl _ _)) (by decide))

theorem State.fatalDealer_sound (h : Sound m l s u) : Sound m l s (u.fatalDealer) := by
  refine h.trans ?_
  unfold State.fatalDealer
  try dsimp only
  repeat' (first | with_reducible exact Sound.refl _ _ _ | with_reducible assumption | with_reducible apply State.stringsOpen_sound | (with_reducible refine State.setPack_sound ?_ ?_; (· first | exact fun _ => rfl | exact fun q => nomatch q)) | (with_reducible refine State.updKeeper_sound ?_ ?_; (· (first | with_reducible exact fun _ _ => rfl | with_reducible exact fun _ k => k | (intro _ k; (try dsimp only); (repeat' split) <;> first | with_reducible exact k | rfl)))) | with_reducible apply State.updVehicle_sound | with_reducible apply State.updPins_sound | with_reducible apply sound_ite | (with_reducible refine sound_foldl _ ?_ ?_; (first | (rintro t ⟨_, _⟩) | intro t _)) | split)

theorem State.enterFatal_sound (x1 x2) (h : Sound m l s u) : Sound m l s (u.enterFatal x1 x2) := by
  refine h.trans ?_
  unfold State.enterFatal
  try dsimp only
  repeat' (first | with_reducible exact Sound.refl _ _ _ | with_reducible assumption | with_reducible apply State.logLockout_sound | with_reducible apply State.log_sound | (with_reducible refine State.updDev_sound ?_ ?_; (· (first | with_reducible exact fun k => k | with_reducible exact fun _ => rfl | (intro k; (try dsimp only); (repeat' split) <;> first | with_reducible exact k | rfl)))) | with_reducible apply State.fatalOutputs_sound | with_reducible apply State.updPort_sound | with_reducible apply State.fatalDealer_sound | with_reducible apply State.updRing_sound | with_reducible apply State.sendTrumpWords_sound | with_reducible apply sound_ite | (with_reducible refine sound_foldl _ ?_ ?_; (first | (rintro t ⟨_, _⟩) | intro t _)) | split)

theorem State.raiseAlso_sound (x1 x2 x3) (h : Sound m l s u) : Sound m l s (u.raiseAlso x1 x2 x3) := by
  refine h.trans ?_
  unfold State.raiseAlso
  try dsimp only
  repeat' (first | with_reducible exact Sound.refl _ _ _ | with_reducible assumption | with_reducible apply State.faultPin_sound | with_reducible apply State.raiseBits_sound | with_reducible apply State.enterFatal_sound | with_reducible apply sound_ite | (with_reducible refine sound_foldl _ ?_ ?_; (first | (rintro t ⟨_, _⟩) | intro t _)) | split)

theorem State.raise_sound (x1 x2) (h : Sound m l s u) : Sound m l s (u.raise x1 x2) := by
  refine h.trans ?_
  unfold State.raise
  try dsimp only
  repeat' (first | with_reducible exact Sound.refl _ _ _ | with_reducible assumption | with_reducible apply State.raiseAlso_sound | with_reducible apply sound_ite | (with_reducible refine sound_foldl _ ?_ ?_; (first | (rintro t ⟨_, _⟩) | intro t _)) | split)

theorem State.raiseIf_sound (x1 x2 x3) (h : Sound m l s u) : Sound m l s (u.raiseIf x1 x2 x3) := by
  refine h.trans ?_
  unfold State.raiseIf
  try dsimp only
  repeat' (first | with_reducible exact Sound.refl _ _ _ | with_reducible assumption | with_reducible apply State.raise_sound | with_reducible apply sound_ite | (with_reducible refine sound_foldl _ ?_ ?_; (first | (rintro t ⟨_, _⟩) | intro t _)) | split)

theorem State.fenceChan_sound (x1 x2) (h : Sound m l s u) : Sound m l s (u.fenceChan x1 x2) := by
  refine h.trans ?_
  unfold State.fenceChan
  try dsimp only
  repeat' (first | with_reducible exact Sound.refl _ _ _ | with_reducible assumption | with_reducible apply State.ruleOff_sound | with_reducible apply State.raiseAlso_sound | with_reducible apply State.updChan_sound | with_reducible apply sound_ite | (with_reducible refine sound_foldl _ ?_ ?_; (first | (rintro t ⟨_, _⟩) | intro t _)) | split)

theorem State.bistFalls_sound (h : Sound m l s u) : Sound m l s (u.bistFalls) := 
  h.trans (Keeps.sound (G := [.pins]) ((State.bistFalls_keeps (by decide) ).mpr (Keeps.refl _ _)) (by decide))

theorem State.drawWord_sound (h : Sound m l s u) : Sound m l s u.drawWord.2 := by
  show Sound m l s (u.updDev fun d => { d with freeCtr := d.freeCtr + 1 })
  exact State.updDev_sound (fun k => k) h

theorem State.resetDomains_sound (x y) (h : Sound false l s u) : Sound false l s (u.resetDomains x y) := by
  refine h.trans ⟨fun i => ⟨i.flash, rfl, Nat.zero_le _, Nat.zero_le _, i.fuses⟩, fun q => ?_, fun q => ?_,
    fun _ a b => ⟨a, b, fun _ => rfl⟩⟩ <;> cases q

/-! ### Link -/

theorem State.freeSlot_sound (x1) (h : Sound m l s u) : Sound m l s (u.freeSlot x1) := 
  h.trans (Keeps.sound (G := [.portN, .portS]) ((State.freeSlot_keeps (by decide) _).mpr (Keeps.refl _ _)) (by decide))

theorem State.freeSlots_sound (x1) (h : Sound m l s u) : Sound m l s (u.freeSlots x1) := 
  h.trans (Keeps.sound (G := [.portN, .portS]) ((State.freeSlots_keeps (by decide) _).mpr (Keeps.refl _ _)) (by decide))

theorem State.sendBeacon_sound (x1 x2) (h : Sound m l s u) : Sound m l s (u.sendBeacon x1 x2) := 
  h.trans (Keeps.sound (G := [.portN, .portS]) ((State.sendBeacon_keeps (by decide) _ _).mpr (Keeps.refl _ _)) (by decide))

theorem State.retransmit_sound (x1 x2) (h : Sound m l s u) : Sound m l s (u.retransmit x1 x2) := by
  refine h.trans ?_
  unfold State.retransmit
  try dsimp only
  repeat' (first | with_reducible exact Sound.refl _ _ _ | with_reducible assumption | with_reducible apply State.updPort_sound | with_reducible apply State.raise_sound | with_reducible apply sound_ite | (with_reducible refine sound_foldl _ ?_ ?_; (first | (rintro t ⟨_, _⟩) | intro t _)) | split)

theorem State.traceLink_sound (x1 x2 x3) (h : Sound m l s u) : Sound m l s (u.traceLink x1 x2 x3) := by
  refine h.trans ?_
  unfold State.traceLink
  try dsimp only
  repeat' (first | with_reducible exact Sound.refl _ _ _ | with_reducible assumption | with_reducible apply State.trace_sound | with_reducible apply sound_ite | (with_reducible refine sound_foldl _ ?_ ?_; (first | (rintro t ⟨_, _⟩) | intro t _)) | split)

theorem State.switchPrimary_sound (x1) (h : Sound m l s u) : Sound m l s (u.switchPrimary x1) := by
  refine h.trans ?_
  unfold State.switchPrimary
  try dsimp only
  repeat' (first | with_reducible exact Sound.refl _ _ _ | with_reducible assumption | with_reducible apply State.raise_sound | with_reducible apply State.trace_sound | with_reducible apply State.updClocks_sound | with_reducible apply State.updRing_sound | with_reducible apply sound_ite | (with_reducible refine sound_foldl _ ?_ ?_; (first | (rintro t ⟨_, _⟩) | intro t _)) | split)

theorem State.linkDown_sound (x1) (h : Sound m l s u) : Sound m l s (u.linkDown x1) := by
  refine h.trans ?_
  unfold State.linkDown
  try dsimp only
  repeat' (first | with_reducible exact Sound.refl _ _ _ | with_reducible assumption | with_reducible apply State.freeSlots_sound | with_reducible apply State.traceLink_sound | with_reducible apply State.updPort_sound | with_reducible apply State.raise_sound | with_reducible apply State.switchPrimary_sound | with_reducible apply sound_ite | (with_reducible refine sound_foldl _ ?_ ?_; (first | (rintro t ⟨_, _⟩) | intro t _)) | split)

theorem State.countFail_sound (x1 x2) (h : Sound m l s u) : Sound m l s (u.countFail x1 x2) := by
  refine h.trans ?_
  unfold State.countFail
  try dsimp only
  repeat' (first | with_reducible exact Sound.refl _ _ _ | with_reducible assumption | with_reducible apply State.updPort_sound | with_reducible apply State.linkDown_sound | with_reducible apply sound_ite | (with_reducible refine sound_foldl _ ?_ ?_; (first | (rintro t ⟨_, _⟩) | intro t _)) | split)

theorem State.endFeed_sound (x1) (h : Sound m l s u) : Sound m l s (u.endFeed x1) := 
  h.trans (Keeps.sound (G := [.portN, .portS]) ((State.endFeed_keeps (by decide) _).mpr (Keeps.refl _ _)) (by decide))

theorem State.meldDeadline_sound (x1) (h : Sound m l s u) : Sound m l s (u.meldDeadline x1) := by
  refine h.trans ?_
  unfold State.meldDeadline
  try dsimp only
  repeat' (first | with_reducible exact Sound.refl _ _ _ | with_reducible assumption | with_reducible apply State.freeSlots_sound | with_reducible apply State.updPort_sound | with_reducible apply State.raise_sound | with_reducible apply sound_ite | (with_reducible refine sound_foldl _ ?_ ?_; (first | (rintro t ⟨_, _⟩) | intro t _)) | split)

theorem State.fencePort_sound (x1) (h : Sound m l s u) : Sound m l s (u.fencePort x1) := by
  refine h.trans ?_
  unfold State.fencePort
  try dsimp only
  repeat' (first | with_reducible exact Sound.refl _ _ _ | with_reducible assumption | with_reducible apply State.freeSlots_sound | with_reducible apply State.updPort_sound | with_reducible apply State.raise_sound | with_reducible apply sound_ite | (with_reducible refine sound_foldl _ ?_ ?_; (first | (rintro t ⟨_, _⟩) | intro t _)) | split)

theorem State.noteSeen_sound (x1 x2) (h : Sound m l s u) : Sound m l s (u.noteSeen x1 x2) := by
  refine h.trans ?_
  unfold State.noteSeen
  try dsimp only
  repeat' (first | with_reducible exact Sound.refl _ _ _ | with_reducible assumption | with_reducible apply State.fencePort_sound | with_reducible apply State.updPort_sound | with_reducible apply sound_ite | (with_reducible refine sound_foldl _ ?_ ?_; (first | (rintro t ⟨_, _⟩) | intro t _)) | split)

theorem State.poisonCopy_sound (x1 x2) (h : Sound m l s u) : Sound m l s (u.poisonCopy x1 x2) := 
  h.trans (Keeps.sound (G := [.portN, .portS]) ((State.poisonCopy_keeps (by decide) _ _).mpr (Keeps.refl _ _)) (by decide))

theorem State.frameFailure_sound (x1 x2) (h : Sound m l s u) : Sound m l s (u.frameFailure x1 x2) := by
  refine h.trans ?_
  unfold State.frameFailure
  try dsimp only
  repeat' (first | with_reducible exact Sound.refl _ _ _ | with_reducible assumption | with_reducible apply State.raise_sound | with_reducible apply State.updPort_sound | with_reducible apply State.poisonCopy_sound | with_reducible apply State.noteSeen_sound | with_reducible apply State.countFail_sound | with_reducible apply sound_ite | (with_reducible refine sound_foldl _ ?_ ?_; (first | (rintro t ⟨_, _⟩) | intro t _)) | split)

theorem State.sendCall_sound (x1 x2) (h : Sound m l s u) : Sound m l s (u.sendCall x1 x2) := 
  h.trans (Keeps.sound (G := [.portN, .portS]) ((State.sendCall_keeps (by decide) _ _).mpr (Keeps.refl _ _)) (by decide))

theorem State.linkCall_sound (x1) (h : Sound m l s u) : Sound m l s (u.linkCall x1) := 
  h.trans (Keeps.sound (G := [.portN, .portS]) ((State.linkCall_keeps (by decide) _).mpr (Keeps.refl _ _)) (by decide))

theorem State.holdDown_sound (x1 x2) (h : Sound m l s u) : Sound m l s (u.holdDown x1 x2) := by
  refine h.trans ?_
  unfold State.holdDown
  try dsimp only
  repeat' (first | with_reducible exact Sound.refl _ _ _ | with_reducible assumption | with_reducible apply State.raise_sound | with_reducible apply State.updPort_sound | with_reducible apply sound_ite | (with_reducible refine sound_foldl _ ?_ ?_; (first | (rintro t ⟨_, _⟩) | intro t _)) | split)

/-! ### Membership -/

theorem State.updPos_sound (x1 x2) (h : Sound m l s u) : Sound m l s (u.updPos x1 x2) := 
  h.trans (Keeps.sound (G := [.dealer]) ((State.updPos_keeps (by decide) _ _).mpr (Keeps.refl _ _)) (by decide))

theorem State.setPos_sound (x1 x2) (h : Sound m l s u) : Sound m l s (u.setPos x1 x2) := by
  refine h.trans ?_
  unfold State.setPos
  try dsimp only
  repeat' (first | with_reducible exact Sound.refl _ _ _ | with_reducible assumption | with_reducible apply State.trace_sound | with_reducible apply State.updPos_sound | with_reducible apply sound_ite | (with_reducible refine sound_foldl _ ?_ ?_; (first | (rintro t ⟨_, _⟩) | intro t _)) | split)

theorem State.discoveryCall_sound (x1) (h : Sound m l s u) : Sound m l s (u.discoveryCall x1) := 
  h.trans (Keeps.sound (G := [.portN, .portS]) ((State.discoveryCall_keeps (by decide) _).mpr (Keeps.refl _ _)) (by decide))

theorem State.endDiscovery_sound (h : Sound m l s u) : Sound m l s (u.endDiscovery) := by
  refine h.trans ?_
  unfold State.endDiscovery
  try dsimp only
  repeat' (first | with_reducible exact Sound.refl _ _ _ | with_reducible assumption | with_reducible apply State.updRing_sound | with_reducible apply State.updDealer_sound | with_reducible apply State.setPos_sound | with_reducible apply sound_ite | (with_reducible refine sound_foldl _ ?_ ?_; (first | (rintro t ⟨_, _⟩) | intro t _)) | split)

theorem State.endSweep_sound (h : Sound m l s u) : Sound m l s (u.endSweep) := by
  refine h.trans ?_
  unfold State.endSweep
  try dsimp only
  repeat' (first | with_reducible exact Sound.refl _ _ _ | with_reducible assumption | with_reducible apply State.updDealer_sound | with_reducible apply State.updRing_sound | with_reducible apply State.discoveryCall_sound | with_reducible apply State.endDiscovery_sound | with_reducible apply sound_ite | (with_reducible refine sound_foldl _ ?_ ?_; (first | (rintro t ⟨_, _⟩) | intro t _)) | split)

theorem State.startDiscovery_sound (x1) (h : Sound m l s u) : Sound m l s (u.startDiscovery x1) := 
  h.trans (Keeps.sound (G := [.dealer, .portN, .portS]) ((State.startDiscovery_keeps (by decide) _).mpr (Keeps.refl _ _)) (by decide))

theorem State.takeCall_sound (x1 x2 x3) (h : Sound m l s u) : Sound m l s (u.takeCall x1 x2 x3) := 
  h.trans (Keeps.sound (G := [.ring]) ((State.takeCall_keeps (by decide) _ _ _).mpr (Keeps.refl _ _)) (by decide))

theorem State.discoveryCalled_sound (x1 x2) (h : Sound false l s u) : Sound false l s (u.discoveryCalled x1 x2) := by
  refine h.trans ?_
  unfold State.discoveryCalled
  try dsimp only
  repeat' (first | with_reducible exact Sound.refl _ _ _ | with_reducible assumption | with_reducible apply State.resetDomains_sound | with_reducible apply State.takeCall_sound | with_reducible apply State.updRing_sound | with_reducible apply State.send_sound | with_reducible apply State.discoveryCall_sound | with_reducible apply sound_ite | (with_reducible refine sound_foldl _ ?_ ?_; (first | (rintro t ⟨_, _⟩) | intro t _)) | split)

theorem State.linkCalled_sound (x1 x2) (h : Sound m l s u) : Sound m l s (u.linkCalled x1 x2) := 
  h.trans (Keeps.sound (G := [.ring, .portN, .portS]) ((State.linkCalled_keeps (by decide) _ _).mpr (Keeps.refl _ _)) (by decide))

theorem State.handleCall_sound (x1 x2) (h : Sound false l s u) : Sound false l s (u.handleCall x1 x2) := by
  refine h.trans ?_
  unfold State.handleCall
  try dsimp only
  repeat' (first | with_reducible exact Sound.refl _ _ _ | with_reducible assumption | with_reducible apply State.endSweep_sound | with_reducible apply State.updDealer_sound | with_reducible apply State.discoveryCalled_sound | with_reducible apply State.linkCalled_sound | with_reducible apply sound_ite | (with_reducible refine sound_foldl _ ?_ ?_; (first | (rintro t ⟨_, _⟩) | intro t _)) | split)

theorem State.judgeFactory_sound (x1 x2) (h : Sound m l s u) : Sound m l s (u.judgeFactory x1 x2) := by
  refine h.trans ?_
  unfold State.judgeFactory
  try dsimp only
  repeat' (first | with_reducible exact Sound.refl _ _ _ | with_reducible assumption | with_reducible apply State.setPos_sound | with_reducible apply State.raiseIf_sound | with_reducible apply State.raise_sound | with_reducible apply sound_ite | (with_reducible refine sound_foldl _ ?_ ?_; (first | (rintro t ⟨_, _⟩) | intro t _)) | split)

theorem State.handleAnswer_sound (x1 x2) (h : Sound m l s u) : Sound m l s (u.handleAnswer x1 x2) := by
  refine h.trans ?_
  unfold State.handleAnswer
  try dsimp only
  repeat' (first | with_reducible exact Sound.refl _ _ _ | with_reducible assumption | with_reducible apply State.updPos_sound | with_reducible apply State.judgeFactory_sound | with_reducible apply State.updDealer_sound | with_reducible apply State.endSweep_sound | with_reducible apply sound_ite | (with_reducible refine sound_foldl _ ?_ ?_; (first | (rintro t ⟨_, _⟩) | intro t _)) | split)

theorem State.handleRejoin_sound (x1 x2) (h : Sound m l s u) : Sound m l s (u.handleRejoin x1 x2) := 
  h.trans (Keeps.sound (G := [.dealer]) ((State.handleRejoin_keeps (by decide) _ _).mpr (Keeps.refl _ _)) (by decide))

theorem State.actRejoin_sound (x1) (h : Sound m l s u) : Sound m l s (u.actRejoin x1) := by
  refine h.trans ?_
  unfold State.actRejoin
  try dsimp only
  repeat' (first | with_reducible exact Sound.refl _ _ _ | with_reducible assumption | with_reducible apply State.updPos_sound | with_reducible apply State.judgeFactory_sound | with_reducible apply State.setPos_sound | with_reducible apply State.raise_sound | with_reducible apply sound_ite | (with_reducible refine sound_foldl _ ?_ ?_; (first | (rintro t ⟨_, _⟩) | intro t _)) | split)

theorem State.newDeal_sound (x1) (h : Sound m l s u) : Sound m l s (u.newDeal x1) := 
  h.trans (Keeps.sound (G := [.ring, .portN, .portS]) ((State.newDeal_keeps (by decide) _).mpr (Keeps.refl _ _)) (by decide))

theorem State.phaseError_sound (x1) (h : Sound m l s u) : Sound m l s (u.phaseError x1) := by
  refine h.trans ?_
  unfold State.phaseError
  try dsimp only
  repeat' (first | with_reducible exact Sound.refl _ _ _ | with_reducible assumption | with_reducible apply State.updRing_sound | with_reducible apply State.trace_sound | with_reducible apply sound_ite | (with_reducible refine sound_foldl _ ?_ ?_; (first | (rintro t ⟨_, _⟩) | intro t _)) | split)

theorem State.takePhase_sound (x1 x2 x3) (h : Sound m l s u) : Sound m l s (u.takePhase x1 x2 x3) := by
  refine h.trans ?_
  unfold State.takePhase
  try dsimp only
  repeat' (first | with_reducible exact Sound.refl _ _ _ | with_reducible assumption | with_reducible apply State.updRing_sound | with_reducible apply State.phaseError_sound | with_reducible apply sound_ite | (with_reducible refine sound_foldl _ ?_ ?_; (first | (rintro t ⟨_, _⟩) | intro t _)) | split)

/-! ### Profiles -/

theorem State.updStr_sound (x1 x2) (h : Sound m l s u) : Sound m l s (u.updStr x1 x2) := by
  refine h.trans ?_
  unfold State.updStr
  try dsimp only
  repeat' (first | with_reducible exact Sound.refl _ _ _ | with_reducible assumption | (with_reducible refine State.updServices_sound ?_ ?_; (· (first | with_reducible exact fun _ k => k | with_reducible exact fun _ _ => rfl | (intro _ k; (try dsimp only); (repeat' split) <;> first | with_reducible exact k | rfl)))) | with_reducible apply sound_ite | (with_reducible refine sound_foldl _ ?_ ?_; (first | (rintro t ⟨_, _⟩) | intro t _)) | split)

/-! ### Balance -/

theorem State.traceJob_sound (x1 x2) (h : Sound m l s u) : Sound m l s (u.traceJob x1 x2) := by
  refine h.trans ?_
  unfold State.traceJob
  try dsimp only
  repeat' (first | with_reducible exact Sound.refl _ _ _ | with_reducible assumption | with_reducible apply State.trace_sound | with_reducible apply sound_ite | (with_reducible refine sound_foldl _ ?_ ?_; (first | (rintro t ⟨_, _⟩) | intro t _)) | split)

theorem State.reportJob_sound (x1) (h : Sound m l s u) : Sound m l s (u.reportJob x1) := by
  refine h.trans ?_
  unfold State.reportJob
  try dsimp only
  repeat' (first | with_reducible exact Sound.refl _ _ _ | with_reducible assumption | with_reducible apply State.log_sound | with_reducible apply State.traceJob_sound | with_reducible apply State.raiseIf_sound | with_reducible apply State.updBalance_sound | with_reducible apply sound_ite | (with_reducible refine sound_foldl _ ?_ ?_; (first | (rintro t ⟨_, _⟩) | intro t _)) | split)

theorem State.endJob_sound (x1) (h : Sound m l s u) : Sound m l s (u.endJob x1) := by
  refine h.trans ?_
  unfold State.endJob
  try dsimp only
  repeat' (first | with_reducible exact Sound.refl _ _ _ | with_reducible assumption | with_reducible apply State.updBalance_sound | with_reducible apply State.reportJob_sound | with_reducible apply sound_ite | (with_reducible refine sound_foldl _ ?_ ?_; (first | (rintro t ⟨_, _⟩) | intro t _)) | split)

theorem State.endJobs_sound (x1) (h : Sound m l s u) : Sound m l s (u.endJobs x1) := by
  refine h.trans ?_
  unfold State.endJobs
  try dsimp only
  repeat' (first | with_reducible exact Sound.refl _ _ _ | with_reducible assumption | with_reducible apply State.endJob_sound | with_reducible apply sound_ite | (with_reducible refine sound_foldl _ ?_ ?_; (first | (rintro t ⟨_, _⟩) | intro t _)) | split)

theorem State.latchTrip_sound (h : Sound m l s u) : Sound m l s (u.latchTrip) := by
  refine h.trans ?_
  unfold State.latchTrip
  try dsimp only
  repeat' (first | with_reducible exact Sound.refl _ _ _ | with_reducible assumption | with_reducible apply State.raise_sound | with_reducible apply State.updBalance_sound | with_reducible apply State.endJobs_sound | with_reducible apply sound_ite | (with_reducible refine sound_foldl _ ?_ ?_; (first | (rintro t ⟨_, _⟩) | intro t _)) | split)

theorem State.startJob_sound (x1 x2 x3) (h : Sound m l s u) : Sound m l s (u.startJob x1 x2 x3) := by
  refine h.trans ?_
  unfold State.startJob
  try dsimp only
  repeat' (first | with_reducible exact Sound.refl _ _ _ | with_reducible assumption | with_reducible apply State.updBalance_sound | with_reducible apply State.traceJob_sound | with_reducible apply State.latchTrip_sound | with_reducible apply sound_ite | (with_reducible refine sound_foldl _ ?_ ?_; (first | (rintro t ⟨_, _⟩) | intro t _)) | split)

theorem State.scheduleActive_sound (h : Sound m l s u) : Sound m l s (u.scheduleActive) := by
  refine h.trans ?_
  unfold State.scheduleActive
  try dsimp only
  repeat' (first | with_reducible exact Sound.refl _ _ _ | with_reducible assumption | with_reducible apply State.startJob_sound | with_reducible apply State.endJobs_sound | with_reducible apply sound_ite | (with_reducible refine sound_foldl _ ?_ ?_; (first | (rintro t ⟨_, _⟩) | intro t _)) | split)

theorem State.commandActive_sound (h : Sound m l s u) : Sound m l s (u.commandActive) := 
  h.trans (Keeps.sound (G := [.balance]) ((State.commandActive_keeps (by decide) ).mpr (Keeps.refl _ _)) (by decide))

theorem State.fitBank_sound (x n) (h : Sound m l s u) : Sound m l s (State.fitBank x n u) := by
  induction n generalizing u with
  | zero => exact h
  | succ n ih =>
    unfold State.fitBank
    dsimp only
    split
    · exact h
    · split
      · exact h
      · exact ih (State.updBalance_sound _ (State.endJobs_sound _ h))

theorem State.tryBleed_sound (x0 x2) (h : Sound m l s u) : Sound m l s (State.tryBleed x0 u x2) := by
  refine h.trans ?_
  unfold State.tryBleed
  try dsimp only
  repeat' (first | with_reducible exact Sound.refl _ _ _ | with_reducible assumption | with_reducible apply State.updBalance_sound | with_reducible apply State.startJob_sound | with_reducible apply sound_ite | (with_reducible refine sound_foldl _ ?_ ?_; (first | (rintro t ⟨_, _⟩) | intro t _)) | split)

theorem State.scheduleBank_sound (x1) (h : Sound m l s u) : Sound m l s (u.scheduleBank x1) := by
  refine h.trans ?_
  unfold State.scheduleBank
  try dsimp only
  repeat' (first | with_reducible exact Sound.refl _ _ _ | with_reducible assumption | with_reducible apply State.fitBank_sound | with_reducible apply State.tryBleed_sound | with_reducible apply sound_ite | (with_reducible refine sound_foldl _ ?_ ?_; (first | (rintro t ⟨_, _⟩) | intro t _)) | split)

theorem State.applySwitch_sound (x1) (h : Sound m l s u) : Sound m l s (u.applySwitch x1) := by
  refine h.trans ?_
  unfold State.applySwitch
  try dsimp only
  repeat' (first | with_reducible exact Sound.refl _ _ _ | with_reducible assumption | with_reducible apply State.updBalance_sound | with_reducible apply State.raise_sound | with_reducible apply sound_ite | (with_reducible refine sound_foldl _ ?_ ?_; (first | (rintro t ⟨_, _⟩) | intro t _)) | split)

theorem State.applyBanks_sound (h : Sound m l s u) : Sound m l s (u.applyBanks) := by
  refine h.trans ?_
  unfold State.applyBanks
  try dsimp only
  repeat' (first | with_reducible exact Sound.refl _ _ _ | with_reducible assumption | with_reducible apply State.applySwitch_sound | with_reducible apply State.updBalance_sound | with_reducible apply sound_ite | (with_reducible refine sound_foldl _ ?_ ?_; (first | (rintro t ⟨_, _⟩) | intro t _)) | split)

theorem State.schedule_sound (h : Sound m l s u) : Sound m l s (u.schedule) := by
  refine h.trans ?_
  unfold State.schedule
  try dsimp only
  repeat' (first | with_reducible exact Sound.refl _ _ _ | with_reducible assumption | with_reducible apply State.updBalance_sound | with_reducible apply State.endJobs_sound | with_reducible apply State.scheduleActive_sound | with_reducible apply State.commandActive_sound | with_reducible apply State.scheduleBank_sound | with_reducible apply State.applyBanks_sound | with_reducible apply sound_ite | (with_reducible refine sound_foldl _ ?_ ?_; (first | (rintro t ⟨_, _⟩) | intro t _)) | split)

theorem State.noteReasons_sound (x1) (h : Sound m l s u) : Sound m l s (u.noteReasons x1) := by
  refine h.trans ?_
  unfold State.noteReasons
  try dsimp only
  repeat' (first | with_reducible exact Sound.refl _ _ _ | with_reducible assumption | with_reducible apply State.trace_sound | with_reducible apply State.updBalance_sound | with_reducible apply sound_ite | (with_reducible refine sound_foldl _ ?_ ?_; (first | (rintro t ⟨_, _⟩) | intro t _)) | split)

theorem State.logThrottle_sound (x1 x2 x3) (h : Sound m l s u) : Sound m l s (u.logThrottle x1 x2 x3) := by
  refine h.trans ?_
  unfold State.logThrottle
  try dsimp only
  repeat' (first | with_reducible exact Sound.refl _ _ _ | with_reducible assumption | with_reducible apply State.log_sound | with_reducible apply sound_ite | (with_reducible refine sound_foldl _ ?_ ?_; (first | (rintro t ⟨_, _⟩) | intro t _)) | split)

theorem State.closeEpisodes_sound (h : Sound m l s u) : Sound m l s (u.closeEpisodes) := by
  refine h.trans ?_
  unfold State.closeEpisodes
  try dsimp only
  repeat' (first | with_reducible exact Sound.refl _ _ _ | with_reducible assumption | with_reducible apply State.updBalance_sound | with_reducible apply State.trace_sound | with_reducible apply State.logThrottle_sound | with_reducible apply sound_ite | (with_reducible refine sound_foldl _ ?_ ?_; (first | (rintro t ⟨_, _⟩) | intro t _)) | split)

theorem State.fenceSwitch_sound (x1 x2) (h : Sound m l s u) : Sound m l s (u.fenceSwitch x1 x2) := by
  refine h.trans ?_
  unfold State.fenceSwitch
  try dsimp only
  repeat' (first | with_reducible exact Sound.refl _ _ _ | with_reducible assumption | with_reducible apply State.raise_sound | with_reducible apply State.endJobs_sound | with_reducible apply State.updBalance_sound | with_reducible apply sound_ite | (with_reducible refine sound_foldl _ ?_ ?_; (first | (rintro t ⟨_, _⟩) | intro t _)) | split)

theorem State.fenceAcv_sound (x1) (h : Sound m l s u) : Sound m l s (u.fenceAcv x1) := by
  refine h.trans ?_
  unfold State.fenceAcv
  try dsimp only
  repeat' (first | with_reducible exact Sound.refl _ _ _ | with_reducible assumption | with_reducible apply State.endJobs_sound | with_reducible apply State.raise_sound | with_reducible apply State.updBalance_sound | with_reducible apply sound_ite | (with_reducible refine sound_foldl _ ?_ ?_; (first | (rintro t ⟨_, _⟩) | intro t _)) | split)

theorem State.acvBoundary_sound (h : Sound m l s u) : Sound m l s (u.acvBoundary) := by
  refine h.trans ?_
  unfold State.acvBoundary
  try dsimp only
  repeat' (first | with_reducible exact Sound.refl _ _ _ | with_reducible assumption | with_reducible apply State.updBalance_sound | with_reducible apply State.fenceAcv_sound | with_reducible apply sound_ite | (with_reducible refine sound_foldl _ ?_ ?_; (first | (rintro t ⟨_, _⟩) | intro t _)) | split)

theorem State.acvSelect_sound (h : Sound m l s u) : Sound m l s (u.acvSelect) := 
  h.trans (Keeps.sound (G := [.balance]) ((State.acvSelect_keeps (by decide) ).mpr (Keeps.refl _ _)) (by decide))

theorem State.dieRelease_sound (h : Sound m l s u) : Sound m l s (u.dieRelease) := 
  h.trans (Keeps.sound (G := [.balance, .outputs, .meas]) ((State.dieRelease_keeps (by decide) ).mpr (Keeps.refl _ _)) (by decide))

theorem State.logAgeing_sound (x1 x2 x3) (h : Sound m l s u) : Sound m l s (u.logAgeing x1 x2 x3) := by
  refine h.trans ?_
  unfold State.logAgeing
  try dsimp only
  repeat' (first | with_reducible exact Sound.refl _ _ _ | with_reducible assumption | with_reducible apply State.log_sound | with_reducible apply sound_ite | (with_reducible refine sound_foldl _ ?_ ?_; (first | (rintro t ⟨_, _⟩) | intro t _)) | split)

/-! ### Services -/

theorem State.serveString_sound (x1) (h : Sound m l s u) : Sound m l s (u.serveString x1) := by
  refine h.trans ?_
  unfold State.serveString
  try dsimp only
  repeat' (first | with_reducible exact Sound.refl _ _ _ | with_reducible assumption | with_reducible apply State.updStr_sound | (with_reducible refine State.updServices_sound ?_ ?_; (· (first | with_reducible exact fun _ k => k | with_reducible exact fun _ _ => rfl | (intro _ k; (try dsimp only); (repeat' split) <;> first | with_reducible exact k | rfl)))) | with_reducible apply sound_ite | (with_reducible refine sound_foldl _ ?_ ?_; (first | (rintro t ⟨_, _⟩) | intro t _)) | split)

theorem State.publishLimits_sound (h : Sound m l s u) : Sound m l s (u.publishLimits) := by
  refine h.trans ?_
  unfold State.publishLimits
  try dsimp only
  repeat' (first | with_reducible exact Sound.refl _ _ _ | with_reducible assumption | (with_reducible refine State.updServices_sound ?_ ?_; (· (first | with_reducible exact fun _ k => k | with_reducible exact fun _ _ => rfl | (intro _ k; (try dsimp only); (repeat' split) <;> first | with_reducible exact k | rfl)))) | with_reducible apply sound_ite | (with_reducible refine sound_foldl _ ?_ ?_; (first | (rintro t ⟨_, _⟩) | intro t _)) | split)

theorem State.target_sound (h : Sound m l s u) : Sound m l s (u.target) := 
  h.trans (Keeps.sound (G := [.dealer]) ((State.target_keeps (by decide) ).mpr (Keeps.refl _ _)) (by decide))

theorem State.ringEpisode_sound (x1 x2) (h : Sound m l s u) : Sound m l s (u.ringEpisode x1 x2) := by
  refine h.trans ?_
  unfold State.ringEpisode
  try dsimp only
  repeat' (first | with_reducible exact Sound.refl _ _ _ | with_reducible assumption | with_reducible apply State.trace_sound | with_reducible apply State.updDealer_sound | with_reducible apply State.logThrottle_sound | with_reducible apply sound_ite | (with_reducible refine sound_foldl _ ?_ ?_; (first | (rintro t ⟨_, _⟩) | intro t _)) | split)

theorem State.currentReason_sound (h : Sound m l s u) : Sound m l s (u.currentReason) := by
  refine h.trans ?_
  unfold State.currentReason
  try dsimp only
  repeat' (first | with_reducible exact Sound.refl _ _ _ | with_reducible assumption | with_reducible apply State.ringEpisode_sound | with_reducible apply State.updDealer_sound | with_reducible apply sound_ite | (with_reducible refine sound_foldl _ ?_ ?_; (first | (rintro t ⟨_, _⟩) | intro t _)) | split)

theorem State.announce_sound (x1) (h : Sound m l s u) : Sound m l s (u.announce x1) := 
  h.trans (Keeps.sound (G := [.ring, .dealer]) ((State.announce_keeps (by decide) _).mpr (Keeps.refl _ _)) (by decide))

theorem State.pace_sound (h : Sound m l s u) : Sound m l s (u.pace) := by
  refine h.trans ?_
  unfold State.pace
  try dsimp only
  repeat' (first | with_reducible exact Sound.refl _ _ _ | with_reducible assumption | with_reducible apply State.updDealer_sound | with_reducible apply State.ringEpisode_sound | with_reducible apply State.raise_sound | with_reducible apply State.announce_sound | with_reducible apply sound_ite | (with_reducible refine sound_foldl _ ?_ ?_; (first | (rintro t ⟨_, _⟩) | intro t _)) | split)

/-! ### Pack -/

theorem State.stringFails_sound (x1) (h : Sound m l s u) : Sound m l s (u.stringFails x1) := by
  refine h.trans ?_
  unfold State.stringFails
  try dsimp only
  repeat' (first | with_reducible exact Sound.refl _ _ _ | with_reducible assumption | with_reducible apply State.raise_sound | with_reducible apply State.updStr_sound | with_reducible apply sound_ite | (with_reducible refine sound_foldl _ ?_ ?_; (first | (rintro t ⟨_, _⟩) | intro t _)) | split)

theorem State.stringPrecharge_sound (x1) (h : Sound m l s u) : Sound m l s (u.stringPrecharge x1) := by
  refine h.trans ?_
  unfold State.stringPrecharge
  try dsimp only
  repeat' (first | with_reducible exact Sound.refl _ _ _ | with_reducible assumption | with_reducible apply State.updStr_sound | with_reducible apply State.stringFails_sound | with_reducible apply sound_ite | (with_reducible refine sound_foldl _ ?_ ?_; (first | (rintro t ⟨_, _⟩) | intro t _)) | split)

theorem State.stringStep_sound (x1) (h : Sound m l s u) : Sound m l s (u.stringStep x1) := by
  refine h.trans ?_
  unfold State.stringStep
  try dsimp only
  repeat' (first | with_reducible exact Sound.refl _ _ _ | with_reducible assumption | with_reducible apply State.updStr_sound | with_reducible apply State.stringPrecharge_sound | with_reducible apply State.stringFails_sound | with_reducible apply sound_ite | (with_reducible refine sound_foldl _ ?_ ?_; (first | (rintro t ⟨_, _⟩) | intro t _)) | split)

theorem State.packFails_sound (h : Sound m l s u) : Sound m l s (u.packFails) := by
  refine h.trans ?_
  unfold State.packFails
  try dsimp only
  repeat' (first | with_reducible exact Sound.refl _ _ _ | with_reducible assumption | (with_reducible refine State.updServices_sound ?_ ?_; (· (first | with_reducible exact fun _ k => k | with_reducible exact fun _ _ => rfl | (intro _ k; (try dsimp only); (repeat' split) <;> first | with_reducible exact k | rfl)))) | with_reducible apply State.openPack_sound | with_reducible apply State.raise_sound | with_reducible apply sound_ite | (with_reducible refine sound_foldl _ ?_ ?_; (first | (rintro t ⟨_, _⟩) | intro t _)) | split)

theorem State.openSequenced_sound (h : Sound m l s u) : Sound m l s u.openSequenced := by
  by_cases e : u.services.pack = .opened
  · simpa [State.openSequenced, e] using h
  · refine h.trans (Sound.relock (G := [.logs, .services, .pins]) ?_
      ((State.openSequenced_keeps (by decide)).mpr (Keeps.refl _ _)) (by decide) (.inr e))
    unfold State.openSequenced
    refine sound_ite (Sound.refl _ _ _) ?_
    exact State.publishLimits_sound (State.updPins_sound _ (State.updServices_sound (fun q => nomatch q)
      (State.setPack_sound (fun q => nomatch q) (Sound.refl _ _ _))))

theorem State.packPrecharge_sound (h : Sound m false s u) : Sound m false s u.packPrecharge := by
  have up (p : PackState) {v : State} (k : Sound m false s v) : Sound m false s (v.setPack p) :=
    State.setPack_sound (fun q => nomatch q) k
  have sv (f : Services → Services) {v : State} (k : Sound m false s v) : Sound m false s (v.updServices f) :=
    State.updServices_sound (fun q => nomatch q) k
  unfold State.packPrecharge
  dsimp only
  repeat' (first | with_reducible assumption | with_reducible apply up | with_reducible apply State.packFails_sound | with_reducible apply sv | split)

theorem State.coilStep_sound (x1 x2) (h : Sound m false s u) : Sound m false s (u.coilStep x1 x2) := by
  unfold State.coilStep
  split
  · exact State.updServices_sound (fun q => nomatch q) (State.setPack_sound (fun q => nomatch q) h)
  · exact sound_ite (State.packFails_sound h) h

theorem State.openingStep_sound (h : Sound m l s u) : Sound m l s (u.openingStep) := by
  refine h.trans ?_
  unfold State.openingStep
  try dsimp only
  repeat' (first | with_reducible exact Sound.refl _ _ _ | with_reducible assumption | (with_reducible refine State.updServices_sound ?_ ?_; (· (first | with_reducible exact fun _ k => k | with_reducible exact fun _ _ => rfl | (intro _ k; (try dsimp only); (repeat' split) <;> first | with_reducible exact k | rfl)))) | with_reducible apply State.commandOff_sound | with_reducible apply sound_ite | (with_reducible refine sound_foldl _ ?_ ?_; (first | (rintro t ⟨_, _⟩) | intro t _)) | split)

theorem State.packStep_sound (h : Sound m l s u) : Sound m l s u.packStep := by
  have free : Sound m false u u.packStep := by
    have up (p : PackState) {v : State} (k : Sound m false u v) : Sound m false u (v.setPack p) :=
      State.setPack_sound (fun q => nomatch q) k
    unfold State.packStep
    dsimp only
    repeat' (first | with_reducible exact Sound.refl _ _ _ | with_reducible assumption | with_reducible apply up | with_reducible apply State.openingStep_sound | with_reducible apply State.openPack_sound | with_reducible apply State.openSequenced_sound | with_reducible apply State.coilStep_sound | with_reducible apply State.packPrecharge_sound | with_reducible apply State.stringStep_sound | (with_reducible refine sound_foldl _ ?_ ?_; intro t _) | split)
  by_cases e : u.services.pack = .opened
  · by_cases k : u.keeper.lockout = true
    · have : u.closeOk = false := by simp [State.closeOk, k]
      simpa [State.packStep, e, this] using h
    · exact h.trans (free.relock (G := [.logs, .services, .outputs, .meas, .pins, .faults])
        ((State.packStep_keeps (by decide)).mpr (Keeps.refl _ _)) (by decide) (.inl (by simpa using k)))
  · exact h.trans (free.relock (G := [.logs, .services, .outputs, .meas, .pins, .faults])
      ((State.packStep_keeps (by decide)).mpr (Keeps.refl _ _)) (by decide) (.inr e))

theorem State.coreLost_sound (h : Sound m l s u) : Sound m l s (u.coreLost) := by
  refine h.trans ?_
  unfold State.coreLost
  try dsimp only
  repeat' (first | with_reducible exact Sound.refl _ _ _ | with_reducible assumption | (with_reducible refine State.updServices_sound ?_ ?_; (· (first | with_reducible exact fun _ k => k | with_reducible exact fun _ _ => rfl | (intro _ k; (try dsimp only); (repeat' split) <;> first | with_reducible exact k | rfl)))) | with_reducible apply State.openPack_sound | with_reducible apply sound_ite | (with_reducible refine sound_foldl _ ?_ ?_; (first | (rintro t ⟨_, _⟩) | intro t _)) | split)

theorem State.outputCommand_sound (h : Sound m l s u) : Sound m l s (u.outputCommand) := by
  refine h.trans ?_
  unfold State.outputCommand
  try dsimp only
  repeat' (first | with_reducible exact Sound.refl _ _ _ | with_reducible assumption | with_reducible apply State.commandOn_sound | with_reducible apply State.commandOff_sound | with_reducible apply sound_ite | (with_reducible refine sound_foldl _ ?_ ?_; (first | (rintro t ⟨_, _⟩) | intro t _)) | split)

theorem State.endOpening_sound (h : Sound m l s u) : Sound m l s (u.endOpening) := by
  refine h.trans ?_
  unfold State.endOpening
  try dsimp only
  repeat' (first | with_reducible exact Sound.refl _ _ _ | with_reducible assumption | with_reducible apply State.stringsOpen_sound | (with_reducible refine State.setPack_sound ?_ ?_; (· first | exact fun _ => rfl | exact fun q => nomatch q)) | with_reducible apply sound_ite | (with_reducible refine sound_foldl _ ?_ ?_; (first | (rintro t ⟨_, _⟩) | intro t _)) | split)

theorem State.degradedTimer_sound (h : Sound m l s u) : Sound m l s (u.degradedTimer) := 
  h.trans (Keeps.sound (G := [.safety]) ((State.degradedTimer_keeps (by decide) ).mpr (Keeps.refl _ _)) (by decide))

theorem State.degradedClosure_sound (h : Sound m l s u) : Sound m l s (u.degradedClosure) := by
  refine h.trans ?_
  unfold State.degradedClosure
  try dsimp only
  repeat' (first | with_reducible exact Sound.refl _ _ _ | with_reducible assumption | with_reducible apply State.degradedTimer_sound | with_reducible apply State.trip_sound | with_reducible apply State.updSafety_sound | with_reducible apply sound_ite | (with_reducible refine sound_foldl _ ?_ ?_; (first | (rintro t ⟨_, _⟩) | intro t _)) | split)

theorem State.closurePins_sound (h : Sound m l s u) : Sound m l s (u.closurePins) := by
  refine h.trans ?_
  unfold State.closurePins
  try dsimp only
  repeat' (first | with_reducible exact Sound.refl _ _ _ | with_reducible assumption | with_reducible apply State.updPins_sound | (with_reducible refine State.updServices_sound ?_ ?_; (· (first | with_reducible exact fun _ k => k | with_reducible exact fun _ _ => rfl | (intro _ k; (try dsimp only); (repeat' split) <;> first | with_reducible exact k | rfl)))) | with_reducible apply sound_ite | (with_reducible refine sound_foldl _ ?_ ?_; (first | (rintro t ⟨_, _⟩) | intro t _)) | split)

/-! ### Outputs -/

theorem State.stringCommand_sound (h : Sound m l s u) : Sound m l s (u.stringCommand) := by
  refine h.trans ?_
  unfold State.stringCommand
  try dsimp only
  repeat' (first | with_reducible exact Sound.refl _ _ _ | with_reducible assumption | with_reducible apply State.updSafety_sound | with_reducible apply State.commandOn_sound | with_reducible apply State.commandOff_sound | with_reducible apply sound_ite | (with_reducible refine sound_foldl _ ?_ ?_; (first | (rintro t ⟨_, _⟩) | intro t _)) | split)

theorem State.overcurrent_sound (x1) (h : Sound m l s u) : Sound m l s (u.overcurrent x1) := by
  refine h.trans ?_
  unfold State.overcurrent
  try dsimp only
  repeat' (first | with_reducible exact Sound.refl _ _ _ | with_reducible assumption | with_reducible apply State.fenceChan_sound | with_reducible apply State.raise_sound | with_reducible apply State.updChan_sound | with_reducible apply State.ruleOff_sound | with_reducible apply sound_ite | (with_reducible refine sound_foldl _ ?_ ?_; (first | (rintro t ⟨_, _⟩) | intro t _)) | split)

theorem State.dipChan_sound (x1) (h : Sound m l s u) : Sound m l s (u.dipChan x1) := by
  refine h.trans ?_
  unfold State.dipChan
  try dsimp only
  repeat' (first | with_reducible exact Sound.refl _ _ _ | with_reducible assumption | with_reducible apply State.raise_sound | with_reducible apply State.ruleOff_sound | with_reducible apply sound_ite | (with_reducible refine sound_foldl _ ?_ ?_; (first | (rintro t ⟨_, _⟩) | intro t _)) | split)

theorem State.allChannelsOff_sound (x1) (h : Sound m l s u) : Sound m l s (u.allChannelsOff x1) := by
  refine h.trans ?_
  unfold State.allChannelsOff
  try dsimp only
  repeat' (first | with_reducible exact Sound.refl _ _ _ | with_reducible assumption | with_reducible apply State.commandOff_sound | with_reducible apply State.ruleOff_sound | with_reducible apply sound_ite | (with_reducible refine sound_foldl _ ?_ ?_; (first | (rintro t ⟨_, _⟩) | intro t _)) | split)

theorem State.restartHeld_sound (h : Sound m l s u) : Sound m l s (u.restartHeld) := 
  h.trans (Keeps.sound (G := [.outputs, .meas]) ((State.restartHeld_keeps (by decide) ).mpr (Keeps.refl _ _)) (by decide))

theorem State.restartAfterLowest_sound (h : Sound m l s u) : Sound m l s (u.restartAfterLowest) := by
  refine h.trans ?_
  unfold State.restartAfterLowest
  try dsimp only
  repeat' (first | with_reducible exact Sound.refl _ _ _ | with_reducible assumption | with_reducible apply State.gateOn_sound | with_reducible apply sound_ite | (with_reducible refine sound_foldl _ ?_ ?_; (first | (rintro t ⟨_, _⟩) | intro t _)) | split)

theorem State.drive_sound (x1 x2) (h : Sound m l s u) : Sound m l s (u.drive x1 x2) := by
  refine h.trans ?_
  unfold State.drive
  try dsimp only
  repeat' (first | with_reducible exact Sound.refl _ _ _ | with_reducible assumption | with_reducible apply State.commandOn_sound | with_reducible apply State.commandOff_sound | with_reducible apply sound_ite | (with_reducible refine sound_foldl _ ?_ ?_; (first | (rintro t ⟨_, _⟩) | intro t _)) | split)

theorem State.lamps_sound (h : Sound m l s u) : Sound m l s (u.lamps) := by
  refine h.trans ?_
  unfold State.lamps
  try dsimp only
  repeat' (first | with_reducible exact Sound.refl _ _ _ | with_reducible assumption | with_reducible apply State.drive_sound | with_reducible apply sound_ite | (with_reducible refine sound_foldl _ ?_ ?_; (first | (rintro t ⟨_, _⟩) | intro t _)) | split)

theorem State.heating_sound (h : Sound m l s u) : Sound m l s (u.heating) := by
  refine h.trans ?_
  unfold State.heating
  try dsimp only
  repeat' (first | with_reducible exact Sound.refl _ _ _ | with_reducible assumption | with_reducible apply State.drive_sound | with_reducible apply State.updOutputs_sound | with_reducible apply sound_ite | (with_reducible refine sound_foldl _ ?_ ?_; (first | (rintro t ⟨_, _⟩) | intro t _)) | split)

/-! ### FanDrive -/

theorem State.fanBoundary_sound (h : Sound m l s u) : Sound m l s (u.fanBoundary) := 
  h.trans (Keeps.sound (G := [.fan]) ((State.fanBoundary_keeps (by decide) ).mpr (Keeps.refl _ _)) (by decide))

theorem State.freezeFan_sound (h : Sound m l s u) : Sound m l s u.freezeFan := by
  unfold State.freezeFan
  dsimp only
  split
  · exact State.updFan_sound _ h
  · exact State.updFan_sound _ (State.drawWord_sound h)

theorem State.thawFan_sound (h : Sound m l s u) : Sound m l s (u.thawFan) := 
  h.trans (Keeps.sound (G := [.fan]) ((State.thawFan_keeps (by decide) ).mpr (Keeps.refl _ _)) (by decide))

theorem State.fanCoreLost_sound (h : Sound m l s u) : Sound m l s (u.fanCoreLost) := 
  h.trans (Keeps.sound (G := [.fan]) ((State.fanCoreLost_keeps (by decide) ).mpr (Keeps.refl _ _)) (by decide))

/-! ### Logs -/

theorem nextSlot_lockout (k : Keeper) : (nextSlot k).lockout = k.lockout := by
  unfold nextSlot
  split <;> rfl

theorem State.advanceSlot_sound (h : Sound m l s u) : Sound m l s u.advanceSlot :=
  State.updKeeper_sound (fun _ k => by rw [nextSlot_lockout]; exact k) (State.updLogs_sound (fun _ k => k) h)

theorem State.putRecord_sound (x) (h : Sound m l s u) : Sound m l s (u.putRecord x) := by
  unfold State.putRecord
  dsimp only
  refine State.advanceSlot_sound (State.updKeeper_sound (fun _ k => k) (flash_sound ?_ h))
  exact fun k => Memory.program_wf (Memory.program_wf k _ _) _ _

theorem State.spoilSlot_sound (h : Sound m l s u) : Sound m l s u.spoilSlot := by
  unfold State.spoilSlot
  dsimp only
  refine State.advanceSlot_sound (State.updDev_sound (fun k => k) (flash_sound ?_ h))
  exact fun k => Memory.program_wf k _ _

theorem State.popRecord_sound (h : Sound m l s u) : Sound m l s u.popRecord := by
  have k : Sound m l s (u.updLogs fun x => { x with queue := x.queue.drop 1 }) :=
    State.updLogs_sound (fun x k => ⟨by rw [List.length_drop]; exact Nat.le_trans (Nat.sub_le _ _) k.1, k.2⟩) h
  unfold State.popRecord
  dsimp only
  split
  · exact k
  · exact State.pushLog_sound _ _ (State.updLogs_sound (fun _ k => k) k)

theorem State.eraseSpare_sound (h : Sound m l s u) : Sound m l s u.eraseSpare := by
  unfold State.eraseSpare
  dsimp only
  refine State.updNv_sound ?_ ?_ (State.updLogs_sound ?_ (flash_sound ?_ h))
  · exact fun k => k
  · exact fun _ k => k
  · exact fun _ k => k
  · exact fun k => Memory.erase_wf k _ _

theorem State.flushLog_sound (n) (h : Sound m l s u) : Sound m l s (State.flushLog n u) := by
  induction n generalizing u with
  | zero => exact h
  | succ n ih =>
    unfold State.flushLog
    split
    · exact h
    · dsimp only
      apply ih
      split
      · exact State.eraseSpare_sound (State.putRecord_sound _ (State.popRecord_sound h))
      · exact State.putRecord_sound _ (State.popRecord_sound h)

theorem State.skipTorn_sound (n) (h : Sound m l s u) : Sound m l s (State.skipTorn n u) := by
  induction n generalizing u with
  | zero => exact h
  | succ n ih =>
    unfold State.skipTorn
    dsimp only
    split
    · exact h
    · refine ih (State.updKeeper_sound (fun _ k => ?_) (State.updLogs_sound ?_ h))
      · rw [nextSlot_lockout]; exact k
      · exact fun _ k => k

theorem State.bootLog_sound (h : Sound m l s u) : Sound m l s u.bootLog := by
  unfold State.bootLog
  dsimp only
  refine State.eraseSpare_sound (State.skipTorn_sound _ (State.updKeeper_sound (fun _ k => ?_) h))
  split
  · split
    · exact k
    · rw [nextSlot_lockout]; exact k
  · exact k

theorem State.logCounts_sound (h : Sound m l s u) : Sound m l s (u.logCounts) := by
  refine h.trans ?_
  unfold State.logCounts
  try dsimp only
  repeat' (first | with_reducible exact Sound.refl _ _ _ | with_reducible assumption | with_reducible apply State.log_sound | with_reducible apply sound_ite | (with_reducible refine sound_foldl _ ?_ ?_; (first | (rintro t ⟨_, _⟩) | intro t _)) | split)

theorem State.logEnergy_sound (h : Sound m l s u) : Sound m l s (u.logEnergy) := by
  refine h.trans ?_
  unfold State.logEnergy
  try dsimp only
  repeat' (first | with_reducible exact Sound.refl _ _ _ | with_reducible assumption | with_reducible apply State.log_sound | with_reducible apply State.updBalance_sound | (with_reducible refine State.updNv_sound ?_ ?_ ?_; (· (first | with_reducible exact fun k => k | (intro k; (try dsimp only); (repeat' split) <;> first | with_reducible exact k | omega))); (· (first | with_reducible exact fun _ _ => rfl | with_reducible exact fun _ k => k | (intro _ k; (try dsimp only); (repeat' split) <;> first | with_reducible exact k | rfl)))) | with_reducible apply sound_ite | (with_reducible refine sound_foldl _ ?_ ?_; (first | (rintro t ⟨_, _⟩) | intro t _)) | split)

theorem State.saveDemand_sound (h : Sound m l s u) : Sound m l s (u.saveDemand) := by
  refine h.trans ?_
  unfold State.saveDemand
  try dsimp only
  repeat' (first | with_reducible exact Sound.refl _ _ _ | with_reducible assumption | (with_reducible refine State.updNv_sound ?_ ?_ ?_; (· (first | with_reducible exact fun k => k | (intro k; (try dsimp only); (repeat' split) <;> first | with_reducible exact k | omega))); (· (first | with_reducible exact fun _ _ => rfl | with_reducible exact fun _ k => k | (intro _ k; (try dsimp only); (repeat' split) <;> first | with_reducible exact k | rfl)))) | with_reducible apply sound_ite | (with_reducible refine sound_foldl _ ?_ ?_; (first | (rintro t ⟨_, _⟩) | intro t _)) | split)

theorem State.logTotal_sound (x1 x2) (h : Sound m l s u) : Sound m l s (u.logTotal x1 x2) := by
  refine h.trans ?_
  unfold State.logTotal
  try dsimp only
  repeat' (first | with_reducible exact Sound.refl _ _ _ | with_reducible assumption | with_reducible apply State.log_sound | with_reducible apply sound_ite | (with_reducible refine sound_foldl _ ?_ ?_; (first | (rintro t ⟨_, _⟩) | intro t _)) | split)

theorem State.logTotals_sound (h : Sound m l s u) : Sound m l s (u.logTotals) := by
  refine h.trans ?_
  unfold State.logTotals
  try dsimp only
  repeat' (first | with_reducible exact Sound.refl _ _ _ | with_reducible assumption | with_reducible apply State.logTotal_sound | with_reducible apply sound_ite | (with_reducible refine sound_foldl _ ?_ ?_; (first | (rintro t ⟨_, _⟩) | intro t _)) | split)

theorem State.saveServices_sound (h : Sound m l s u) : Sound m l s (u.saveServices) := by
  refine h.trans ?_
  unfold State.saveServices
  try dsimp only
  repeat' (first | with_reducible exact Sound.refl _ _ _ | with_reducible assumption | (with_reducible refine State.updNv_sound ?_ ?_ ?_; (· (first | with_reducible exact fun k => k | (intro k; (try dsimp only); (repeat' split) <;> first | with_reducible exact k | omega))); (· (first | with_reducible exact fun _ _ => rfl | with_reducible exact fun _ k => k | (intro _ k; (try dsimp only); (repeat' split) <;> first | with_reducible exact k | rfl)))) | (with_reducible refine State.updServices_sound ?_ ?_; (· (first | with_reducible exact fun _ k => k | with_reducible exact fun _ _ => rfl | (intro _ k; (try dsimp only); (repeat' split) <;> first | with_reducible exact k | rfl)))) | with_reducible apply sound_ite | (with_reducible refine sound_foldl _ ?_ ?_; (first | (rintro t ⟨_, _⟩) | intro t _)) | split)

theorem State.logSummary_sound (x1) (h : Sound m l s u) : Sound m l s (u.logSummary x1) := by
  refine h.trans ?_
  unfold State.logSummary
  try dsimp only
  repeat' (first | with_reducible exact Sound.refl _ _ _ | with_reducible assumption | with_reducible apply State.log_sound | (with_reducible refine State.updLogs_sound ?_ ?_; (· (rintro x ⟨k1, k2⟩; refine ⟨?_, ?_⟩ <;> (try dsimp only) <;> (repeat' split) <;> first | with_reducible exact k1 | with_reducible exact k2 | (simp only [List.length_drop, List.length_nil]; omega)))) | with_reducible apply sound_ite | (with_reducible refine sound_foldl _ ?_ ?_; (first | (rintro t ⟨_, _⟩) | intro t _)) | split)

theorem State.flushTrace_sound (h : Sound m l s u) : Sound m l s u.flushTrace := by
  unfold State.flushTrace
  dsimp only
  refine sound_foldl _ (fun t x => ?_) (State.updLogs_sound (fun _ k => k) h)
  exact State.flushLog_sound _ (State.updLogs_sound (fun _ k => ⟨by simp, k.2⟩) (Sound.refl _ _ _))

/-! ### Bist -/

theorem State.takeTurn_sound (h : Sound m l s u) : Sound m l s (u.takeTurn) := 
  h.trans (Keeps.sound (G := [.bist]) ((State.takeTurn_keeps (by decide) ).mpr (Keeps.refl _ _)) (by decide))

theorem State.segmentEffect_sound (h : Sound m l s u) : Sound m l s (u.segmentEffect) := 
  h.trans (Keeps.sound (G := [.balance]) ((State.segmentEffect_keeps (by decide) ).mpr (Keeps.refl _ _)) (by decide))

theorem State.segmentRestore_sound (h : Sound m l s u) : Sound m l s (u.segmentRestore) := 
  h.trans (Keeps.sound (G := [.balance]) ((State.segmentRestore_keeps (by decide) ).mpr (Keeps.refl _ _)) (by decide))

theorem State.abandonSegment_sound (h : Sound m l s u) : Sound m l s (u.abandonSegment) := by
  refine h.trans ?_
  unfold State.abandonSegment
  try dsimp only
  repeat' (first | with_reducible exact Sound.refl _ _ _ | with_reducible assumption | with_reducible apply State.raise_sound | with_reducible apply State.updBist_sound | with_reducible apply State.segmentRestore_sound | with_reducible apply sound_ite | (with_reducible refine sound_foldl _ ?_ ?_; (first | (rintro t ⟨_, _⟩) | intro t _)) | split)

theorem State.coreGone_sound (h : Sound m l s u) : Sound m l s (u.coreGone) := by
  refine h.trans ?_
  unfold State.coreGone
  try dsimp only
  repeat' (first | with_reducible exact Sound.refl _ _ _ | with_reducible assumption | (with_reducible refine State.updDev_sound ?_ ?_; (· (first | with_reducible exact fun k => k | with_reducible exact fun _ => rfl | (intro k; (try dsimp only); (repeat' split) <;> first | with_reducible exact k | rfl)))) | with_reducible apply State.coreLost_sound | with_reducible apply State.fanCoreLost_sound | with_reducible apply State.updOutputs_sound | with_reducible apply State.commandOff_sound | with_reducible apply sound_ite | (with_reducible refine sound_foldl _ ?_ ?_; (first | (rintro t ⟨_, _⟩) | intro t _)) | split)

theorem State.fenceSlice_sound (x1) (h : Sound m l s u) : Sound m l s (u.fenceSlice x1) := by
  refine h.trans ?_
  unfold State.fenceSlice
  try dsimp only
  repeat' (first | with_reducible exact Sound.refl _ _ _ | with_reducible assumption | with_reducible apply State.updBist_sound | with_reducible apply State.endJobs_sound | with_reducible apply State.updBalance_sound | with_reducible apply State.fenceChan_sound | with_reducible apply State.updFan_sound | with_reducible apply State.coreGone_sound | with_reducible apply State.updVehicle_sound | with_reducible apply sound_ite | (with_reducible refine sound_foldl _ ?_ ?_; (first | (rintro t ⟨_, _⟩) | intro t _)) | split)

theorem State.sliceDone_sound (h : Sound m l s u) : Sound m l s (u.sliceDone) := 
  h.trans (Keeps.sound (G := [.bist]) ((State.sliceDone_keeps (by decide) ).mpr (Keeps.refl _ _)) (by decide))

theorem State.bankResult_sound (x1 x2) (h : Sound m l s u) : Sound m l s (u.bankResult x1 x2) := by
  refine h.trans ?_
  unfold State.bankResult
  try dsimp only
  repeat' (first | with_reducible exact Sound.refl _ _ _ | with_reducible assumption | with_reducible apply State.raise_sound | (with_reducible refine State.updDev_sound ?_ ?_; (· (first | with_reducible exact fun k => k | with_reducible exact fun _ => rfl | (intro k; (try dsimp only); (repeat' split) <;> first | with_reducible exact k | rfl)))) | with_reducible apply sound_ite | (with_reducible refine sound_foldl _ ?_ ?_; (first | (rintro t ⟨_, _⟩) | intro t _)) | split)

theorem State.bufferResult_sound (x1 x2) (h : Sound m l s u) : Sound m l s (u.bufferResult x1 x2) := by
  refine h.trans ?_
  unfold State.bufferResult
  try dsimp only
  repeat' (first | with_reducible exact Sound.refl _ _ _ | with_reducible assumption | with_reducible apply State.raise_sound | with_reducible apply State.updPort_sound | with_reducible apply sound_ite | (with_reducible refine sound_foldl _ ?_ ?_; (first | (rintro t ⟨_, _⟩) | intro t _)) | split)

theorem State.abandonTest_sound (h : Sound false l s u) : Sound false l s (u.abandonTest) := by
  refine h.trans ?_
  unfold State.abandonTest
  try dsimp only
  repeat' (first | with_reducible exact Sound.refl _ _ _ | with_reducible assumption | with_reducible apply State.resetDomains_sound | (with_reducible refine State.updKeeper_sound ?_ ?_; (· (first | with_reducible exact fun _ _ => rfl | with_reducible exact fun _ k => k | (intro _ k; (try dsimp only); (repeat' split) <;> first | with_reducible exact k | rfl)))) | with_reducible apply sound_ite | (with_reducible refine sound_foldl _ ?_ ?_; (first | (rintro t ⟨_, _⟩) | intro t _)) | split)

theorem State.beginTest_sound (x1) (h : Sound false l s u) : Sound false l s (u.beginTest x1) := by
  refine h.trans ?_
  unfold State.beginTest
  try dsimp only
  repeat' (first | with_reducible exact Sound.refl _ _ _ | with_reducible assumption | with_reducible apply State.abandonSegment_sound | with_reducible apply State.commandOff_sound | with_reducible apply State.updBalance_sound | with_reducible apply State.endJobs_sound | (with_reducible refine State.updDev_sound ?_ ?_; (· (first | with_reducible exact fun k => k | with_reducible exact fun _ => rfl | (intro k; (try dsimp only); (repeat' split) <;> first | with_reducible exact k | rfl)))) | with_reducible apply State.updBist_sound | with_reducible apply State.updPins_sound | with_reducible apply State.updDealer_sound | with_reducible apply State.updClocks_sound | with_reducible apply State.abandonTest_sound | with_reducible apply sound_ite | (with_reducible refine sound_foldl _ ?_ ?_; (first | (rintro t ⟨_, _⟩) | intro t _)) | split)

/-! ### Faults -/

theorem State.fenceCore_sound (x1 x2) (h : Sound m l s u) : Sound m l s (u.fenceCore x1 x2) := by
  refine h.trans ?_
  unfold State.fenceCore
  try dsimp only
  repeat' (first | with_reducible exact Sound.refl _ _ _ | with_reducible assumption | with_reducible apply State.raise_sound | with_reducible apply State.coreGone_sound | with_reducible apply sound_ite | (with_reducible refine sound_foldl _ ?_ ?_; (first | (rintro t ⟨_, _⟩) | intro t _)) | split)

theorem State.endReactions_sound (h : Sound m l s u) : Sound m l s (u.endReactions) := by
  refine h.trans ?_
  unfold State.endReactions
  try dsimp only
  repeat' (first | with_reducible exact Sound.refl _ _ _ | with_reducible assumption | with_reducible apply State.endReaction_sound | with_reducible apply sound_ite | (with_reducible refine sound_foldl _ ?_ ?_; (first | (rintro t ⟨_, _⟩) | intro t _)) | split)

theorem State.endAllReactions_sound (h : Sound m l s u) : Sound m l s (u.endAllReactions) := by
  refine h.trans ?_
  unfold State.endAllReactions
  try dsimp only
  repeat' (first | with_reducible exact Sound.refl _ _ _ | with_reducible assumption | with_reducible apply State.endReaction_sound | with_reducible apply sound_ite | (with_reducible refine sound_foldl _ ?_ ?_; (first | (rintro t ⟨_, _⟩) | intro t _)) | split)

/-! ### Images -/

theorem State.logImage_sound (x1 x2) (h : Sound m l s u) : Sound m l s (u.logImage x1 x2) := by
  refine h.trans ?_
  unfold State.logImage
  try dsimp only
  repeat' (first | with_reducible exact Sound.refl _ _ _ | with_reducible assumption | with_reducible apply State.log_sound | with_reducible apply sound_ite | (with_reducible refine sound_foldl _ ?_ ?_; (first | (rintro t ⟨_, _⟩) | intro t _)) | split)

/-! ### Power -/

theorem State.powerDown_sound (x1) (h : Sound false l s u) : Sound false l s (u.powerDown x1) := by
  refine h.trans ?_
  unfold State.powerDown
  try dsimp only
  repeat' (first | with_reducible exact Sound.refl _ _ _ | with_reducible assumption | with_reducible apply State.resetDomains_sound | (with_reducible refine State.updDev_sound ?_ ?_; (· (first | with_reducible exact fun k => k | with_reducible exact fun _ => rfl | (intro k; (try dsimp only); (repeat' split) <;> first | with_reducible exact k | rfl)))) | with_reducible apply State.updPins_sound | with_reducible apply State.updSupply_sound | with_reducible apply sound_ite | (with_reducible refine sound_foldl _ ?_ ?_; (first | (rintro t ⟨_, _⟩) | intro t _)) | split)

theorem State.beginBoot_sound (x1) (h : Sound false l s u) : Sound false l s (u.beginBoot x1) := by
  refine h.trans ?_
  unfold State.beginBoot
  try dsimp only
  repeat' (first | with_reducible exact Sound.refl _ _ _ | with_reducible assumption | with_reducible apply State.updSupply_sound | with_reducible apply State.resetDomains_sound | with_reducible apply sound_ite | (with_reducible refine sound_foldl _ ?_ ?_; (first | (rintro t ⟨_, _⟩) | intro t _)) | split)

theorem State.relayCarrier_sound (x1 x2) (h : Sound m l s u) : Sound m l s (u.relayCarrier x1 x2) := 
  h.trans (Keeps.sound (G := [.portN, .portS]) ((State.relayCarrier_keeps (by decide) _ _).mpr (Keeps.refl _ _)) (by decide))

theorem State.enterLifeline_sound (h : Sound false l s u) : Sound false l s (u.enterLifeline) := by
  refine h.trans ?_
  unfold State.enterLifeline
  try dsimp only
  repeat' (first | with_reducible exact Sound.refl _ _ _ | with_reducible assumption | with_reducible apply State.powerDown_sound | with_reducible apply State.updLife_sound | with_reducible apply sound_ite | (with_reducible refine sound_foldl _ ?_ ?_; (first | (rintro t ⟨_, _⟩) | intro t _)) | split)

theorem State.wake_sound (x1) (h : Sound false l s u) : Sound false l s (u.wake x1) := by
  refine h.trans ?_
  unfold State.wake
  try dsimp only
  repeat' (first | with_reducible exact Sound.refl _ _ _ | with_reducible assumption | with_reducible apply State.beginBoot_sound | with_reducible apply State.enterLifeline_sound | with_reducible apply sound_ite | (with_reducible refine sound_foldl _ ?_ ?_; (first | (rintro t ⟨_, _⟩) | intro t _)) | split)

theorem State.carrierWake_sound (x1 x2) (h : Sound false l s u) : Sound false l s (u.carrierWake x1 x2) := by
  refine h.trans ?_
  unfold State.carrierWake
  try dsimp only
  repeat' (first | with_reducible exact Sound.refl _ _ _ | with_reducible assumption | with_reducible apply State.relayCarrier_sound | with_reducible apply State.beginBoot_sound | with_reducible apply State.enterLifeline_sound | with_reducible apply sound_ite | (with_reducible refine sound_foldl _ ?_ ?_; (first | (rintro t ⟨_, _⟩) | intro t _)) | split)

theorem State.bootChecks_sound (x1) (h : Sound m l s u) : Sound m l s (u.bootChecks x1) := by
  refine h.trans ?_
  unfold State.bootChecks
  try dsimp only
  repeat' (first | with_reducible exact Sound.refl _ _ _ | with_reducible assumption | with_reducible apply State.updStraps_sound | (with_reducible refine State.updDev_sound ?_ ?_; (· (first | with_reducible exact fun k => k | with_reducible exact fun _ => rfl | (intro k; (try dsimp only); (repeat' split) <;> first | with_reducible exact k | rfl)))) | (with_reducible refine State.updKeeper_sound ?_ ?_; (· (first | with_reducible exact fun _ _ => rfl | with_reducible exact fun _ k => k | (intro _ k; (try dsimp only); (repeat' split) <;> first | with_reducible exact k | rfl)))) | with_reducible apply State.raise_sound | with_reducible apply sound_ite | (with_reducible refine sound_foldl _ ?_ ?_; (first | (rintro t ⟨_, _⟩) | intro t _)) | split)

theorem State.raiseInvalid_sound (h : Sound m l s u) : Sound m l s (u.raiseInvalid) := by
  refine h.trans ?_
  unfold State.raiseInvalid
  try dsimp only
  repeat' (first | with_reducible exact Sound.refl _ _ _ | with_reducible assumption | with_reducible apply State.raise_sound | with_reducible apply sound_ite | (with_reducible refine sound_foldl _ ?_ ?_; (first | (rintro t ⟨_, _⟩) | intro t _)) | split)

theorem State.bootRecords_sound (x1) (h : Sound m l s u) : Sound m l s (u.bootRecords x1) := by
  refine h.trans ?_
  unfold State.bootRecords
  try dsimp only
  repeat' (first | with_reducible exact Sound.refl _ _ _ | with_reducible assumption | with_reducible apply State.log_sound | with_reducible apply State.trace_sound | (with_reducible refine State.updKeeper_sound ?_ ?_; (· (first | with_reducible exact fun _ _ => rfl | with_reducible exact fun _ k => k | (intro _ k; (try dsimp only); (repeat' split) <;> first | with_reducible exact k | rfl)))) | with_reducible apply sound_ite | (with_reducible refine sound_foldl _ ?_ ?_; (first | (rintro t ⟨_, _⟩) | intro t _)) | split)

theorem State.restoreKeeper_sound (h : Sound m l s u) : Sound m l s (u.restoreKeeper) := by
  refine h.trans ?_
  unfold State.restoreKeeper
  try dsimp only
  repeat' (first | with_reducible exact Sound.refl _ _ _ | with_reducible assumption | (with_reducible refine State.updKeeper_sound ?_ ?_; (· (first | with_reducible exact fun _ _ => rfl | with_reducible exact fun _ k => k | (intro _ k; (try dsimp only); (repeat' split) <;> first | with_reducible exact k | rfl)))) | with_reducible apply sound_ite | (with_reducible refine sound_foldl _ ?_ ?_; (first | (rintro t ⟨_, _⟩) | intro t _)) | split)

theorem State.demandPending_sound (h : Sound m l s u) : Sound m l s (u.demandPending) := by
  refine h.trans ?_
  unfold State.demandPending
  try dsimp only
  repeat' (first | with_reducible exact Sound.refl _ _ _ | with_reducible assumption | with_reducible apply State.saveDemand_sound | (with_reducible refine State.updKeeper_sound ?_ ?_; (· (first | with_reducible exact fun _ _ => rfl | with_reducible exact fun _ k => k | (intro _ k; (try dsimp only); (repeat' split) <;> first | with_reducible exact k | rfl)))) | with_reducible apply sound_ite | (with_reducible refine sound_foldl _ ?_ ?_; (first | (rintro t ⟨_, _⟩) | intro t _)) | split)

theorem State.lockoutCopies_sound (h : Sound m l s u) : Sound m l s u.lockoutCopies := by
  have k : Sound m l s ((u.updKeeper fun x => { x with lockout := u.keeper.lockout || u.nv.lockout }).updNv
      fun n => { n with lockout := u.keeper.lockout || u.nv.lockout }) := by
    refine h.trans ⟨fun i => ⟨i.flash, i.blocks, i.queue, i.trace, i.fuses⟩, fun _ _ _ q => q, fun _ k => k, fun _ a b => ⟨?_, ?_, id⟩⟩ <;>
      simp [State.updKeeper, State.updNv, a]
  unfold State.lockoutCopies
  dsimp only
  refine State.lockPin_sound ?_
  have two : ∀ (c : Prop) [Decidable c] (v : State), Sound m l s v →
      Sound m l s (if c then v else (v.raise .keeper 4).logLockout 4 0 0) := fun c _ v q =>
    sound_ite q (State.logLockout_sound _ _ _ (State.raise_sound _ _ q))
  exact sound_ite (State.demandPending_sound (two _ _ k)) (two _ _ k)

theorem State.restoreServices_sound (h : Sound m l s u) : Sound m l s (u.restoreServices) := by
  refine h.trans ?_
  unfold State.restoreServices
  try dsimp only
  repeat' (first | with_reducible exact Sound.refl _ _ _ | with_reducible assumption | (with_reducible refine State.updServices_sound ?_ ?_; (· (first | with_reducible exact fun _ k => k | with_reducible exact fun _ _ => rfl | (intro _ k; (try dsimp only); (repeat' split) <;> first | with_reducible exact k | rfl)))) | with_reducible apply sound_ite | (with_reducible refine sound_foldl _ ?_ ?_; (first | (rintro t ⟨_, _⟩) | intro t _)) | split)

theorem State.startChecks_sound (x1 x2) (h : Sound m l s u) : Sound m l s (u.startChecks x1 x2) := by
  refine h.trans ?_
  unfold State.startChecks
  try dsimp only
  repeat' (first | with_reducible exact Sound.refl _ _ _ | with_reducible assumption | with_reducible apply State.raiseIf_sound | with_reducible apply State.updStraps_sound | (with_reducible refine State.updKeeper_sound ?_ ?_; (· (first | with_reducible exact fun _ _ => rfl | with_reducible exact fun _ k => k | (intro _ k; (try dsimp only); (repeat' split) <;> first | with_reducible exact k | rfl)))) | with_reducible apply State.bistFalls_sound | with_reducible apply State.updPins_sound | with_reducible apply sound_ite | (with_reducible refine sound_foldl _ ?_ ?_; (first | (rintro t ⟨_, _⟩) | intro t _)) | split)

theorem setSlot_fuses (b : Bool) (x : SlotState) (n : NonVolatile) :
    (setSlot b x n).fuses = n.fuses ∧ (setSlot b x n).lockout = n.lockout := by
  unfold setSlot
  split <;> exact ⟨rfl, rfl⟩

theorem failSlots_fuses (bs : List Bool) (n : NonVolatile) :
    (bs.foldl (fun m x => if slotOf m x = .empty then m else setSlot x .failed m) n).fuses = n.fuses ∧
    (bs.foldl (fun m x => if slotOf m x = .empty then m else setSlot x .failed m) n).lockout = n.lockout := by
  induction bs generalizing n with
  | nil => exact ⟨rfl, rfl⟩
  | cons b bs ih =>
    rw [List.foldl_cons, (ih _).1, (ih _).2]
    split
    · exact ⟨rfl, rfl⟩
    · exact setSlot_fuses _ _ _

theorem State.chooseSlot_sound (h : Sound m l s u) : Sound m l s u.chooseSlot := by
  unfold State.chooseSlot
  dsimp only
  split
  · exact State.raise_sound _ _ (State.updKeeper_sound (fun _ k => k) h)
  · have k : ∀ (b : Bool) (bs : List Bool) (a : Option Bool) (c : NonVolatile → Bool), Sound m l s (((u.updKeeper fun x => { x with slotVerified := true }).updNv fun n =>
        { setSlot b .verified (List.foldl (fun m x => if slotOf m x = .empty then m else setSlot x .failed m) n bs) with
          activeB := b, armedB := a, committed := c n }).updDev fun d => { d with coreStarted := !d.coreBarred && !d.fatal }) := by
      intro b bs a c
      refine State.updDev_sound (fun k => k) (State.updNv_sound ?_ ?_ (State.updKeeper_sound (fun _ k => k) h))
      · intro k
        show (setSlot b .verified _).fuses ≤ 32
        rw [(setSlot_fuses _ _ _).1, (failSlots_fuses _ _).1]
        exact k
      · intro _ k
        show (setSlot b .verified _).lockout = true
        rw [(setSlot_fuses _ _ _).2, (failSlots_fuses _ _).2]
        exact k
    split
    · exact k _ _ none fun n => if u.nv.armedB = some _ then true else n.committed && decide (_ = u.nv.activeB)
    · exact State.raise_sound _ _ (k _ _ none fun n => if u.nv.armedB = some _ then true else n.committed && decide (_ = u.nv.activeB))

theorem State.imageRecords_sound (x1) (h : Sound m l s u) : Sound m l s (u.imageRecords x1) := by
  refine h.trans ?_
  unfold State.imageRecords
  try dsimp only
  repeat' (first | with_reducible exact Sound.refl _ _ _ | with_reducible assumption | with_reducible apply State.logImage_sound | with_reducible apply sound_ite | (with_reducible refine sound_foldl _ ?_ ?_; (first | (rintro t ⟨_, _⟩) | intro t _)) | split)

theorem State.probeRecords_sound (h : Sound m l s u) : Sound m l s (u.probeRecords) := by
  refine h.trans ?_
  unfold State.probeRecords
  try dsimp only
  repeat' (first | with_reducible exact Sound.refl _ _ _ | with_reducible assumption | with_reducible apply State.log_sound | (with_reducible refine State.updNv_sound ?_ ?_ ?_; (· (first | with_reducible exact fun k => k | (intro k; (try dsimp only); (repeat' split) <;> first | with_reducible exact k | omega))); (· (first | with_reducible exact fun _ _ => rfl | with_reducible exact fun _ k => k | (intro _ k; (try dsimp only); (repeat' split) <;> first | with_reducible exact k | rfl)))) | with_reducible apply sound_ite | (with_reducible refine sound_foldl _ ?_ ?_; (first | (rintro t ⟨_, _⟩) | intro t _)) | split)

theorem State.beginEntry_sound (h : Sound m l s u) : Sound m l s (u.beginEntry) := by
  refine h.trans ?_
  unfold State.beginEntry
  try dsimp only
  repeat' (first | with_reducible exact Sound.refl _ _ _ | with_reducible assumption | with_reducible apply State.updDealer_sound | (with_reducible refine State.updDev_sound ?_ ?_; (· (first | with_reducible exact fun k => k | with_reducible exact fun _ => rfl | (intro k; (try dsimp only); (repeat' split) <;> first | with_reducible exact k | rfl)))) | with_reducible apply sound_ite | (with_reducible refine sound_foldl _ ?_ ?_; (first | (rintro t ⟨_, _⟩) | intro t _)) | split)

theorem State.logNow_sound (x y) (h : Sound m l s u) : Sound m l s (u.logNow x y) := by
  unfold State.logNow
  exact sound_foldl _ (fun t p => State.flushLog_sound 2 (State.log_sound _ _ (Sound.refl _ _ _))) h

theorem State.entryRecords_sound (x1) (h : Sound m l s u) : Sound m l s (u.entryRecords x1) := by
  refine h.trans ?_
  unfold State.entryRecords
  try dsimp only
  repeat' (first | with_reducible exact Sound.refl _ _ _ | with_reducible assumption | with_reducible apply State.flushLog_sound | with_reducible apply State.endAllReactions_sound | with_reducible apply State.trace_sound | with_reducible apply State.logNow_sound | with_reducible apply State.saveServices_sound | with_reducible apply State.logSummary_sound | with_reducible apply State.logTotals_sound | with_reducible apply State.saveDemand_sound | with_reducible apply State.logEnergy_sound | with_reducible apply State.flushTrace_sound | with_reducible apply sound_ite | (with_reducible refine sound_foldl _ ?_ ?_; (first | (rintro t ⟨_, _⟩) | intro t _)) | split)

theorem State.traceAlert_sound (x1 x2) (h : Sound m l s u) : Sound m l s (u.traceAlert x1 x2) := by
  refine h.trans ?_
  unfold State.traceAlert
  try dsimp only
  repeat' (first | with_reducible exact Sound.refl _ _ _ | with_reducible assumption | with_reducible apply State.trace_sound | with_reducible apply sound_ite | (with_reducible refine sound_foldl _ ?_ ?_; (first | (rintro t ⟨_, _⟩) | intro t _)) | split)

theorem State.enterLowest_sound (x1) (h : Sound m l s u) : Sound m l s (u.enterLowest x1) := by
  refine h.trans ?_
  unfold State.enterLowest
  try dsimp only
  repeat' (first | with_reducible exact Sound.refl _ _ _ | with_reducible assumption | with_reducible apply State.traceAlert_sound | with_reducible apply State.updSupply_sound | with_reducible apply State.updBalance_sound | with_reducible apply State.freezeFan_sound | with_reducible apply State.endJobs_sound | with_reducible apply State.noteReasons_sound | with_reducible apply State.updPort_sound | with_reducible apply sound_ite | (with_reducible refine sound_foldl _ ?_ ?_; (first | (rintro t ⟨_, _⟩) | intro t _)) | split)

theorem State.alert_sound (x1) (h : Sound m l s u) : Sound m l s (u.alert x1) := by
  refine h.trans ?_
  unfold State.alert
  try dsimp only
  repeat' (first | with_reducible exact Sound.refl _ _ _ | with_reducible assumption | with_reducible apply State.enterLowest_sound | with_reducible apply State.raise_sound | with_reducible apply State.updSupply_sound | with_reducible apply sound_ite | (with_reducible refine sound_foldl _ ?_ ?_; (first | (rintro t ⟨_, _⟩) | intro t _)) | split)

theorem State.leaveLowest_sound (h : Sound m l s u) : Sound m l s (u.leaveLowest) := by
  refine h.trans ?_
  unfold State.leaveLowest
  try dsimp only
  repeat' (first | with_reducible exact Sound.refl _ _ _ | with_reducible assumption | with_reducible apply State.traceAlert_sound | with_reducible apply State.updSupply_sound | with_reducible apply State.restartAfterLowest_sound | with_reducible apply State.thawFan_sound | with_reducible apply State.updPort_sound | with_reducible apply sound_ite | (with_reducible refine sound_foldl _ ?_ ?_; (first | (rintro t ⟨_, _⟩) | intro t _)) | split)

/-! ### Measure -/

theorem State.breach_sound (x1 x2 x3 x4 x5) (h : Sound m l s u) : Sound m l s (u.breach x1 x2 x3 x4 x5) := by
  refine h.trans ?_
  unfold State.breach
  try dsimp only
  repeat' (first | with_reducible exact Sound.refl _ _ _ | with_reducible assumption | with_reducible apply State.trip_sound | with_reducible apply State.headOpens_sound | with_reducible apply State.sendTrumpWords_sound | with_reducible apply sound_ite | (with_reducible refine sound_foldl _ ?_ ?_; (first | (rintro t ⟨_, _⟩) | intro t _)) | split)

theorem State.checkCodes_sound (x1 x2 x3 x4 x5 x6) (h : Sound m l s u) : Sound m l s (u.checkCodes x1 x2 x3 x4 x5 x6) := by
  refine h.trans ?_
  unfold State.checkCodes
  try dsimp only
  repeat' (first | with_reducible exact Sound.refl _ _ _ | with_reducible assumption | with_reducible apply State.breach_sound | with_reducible apply sound_ite | (with_reducible refine sound_foldl _ ?_ ?_; (first | (rintro t ⟨_, _⟩) | intro t _)) | split)

theorem State.checkCells_sound (h : Sound m l s u) : Sound m l s (u.checkCells) := by
  refine h.trans ?_
  unfold State.checkCells
  try dsimp only
  repeat' (first | with_reducible exact Sound.refl _ _ _ | with_reducible assumption | with_reducible apply State.checkCodes_sound | with_reducible apply sound_ite | (with_reducible refine sound_foldl _ ?_ ?_; (first | (rintro t ⟨_, _⟩) | intro t _)) | split)

theorem State.checkNtc_sound (h : Sound m l s u) : Sound m l s (u.checkNtc) := by
  refine h.trans ?_
  unfold State.checkNtc
  try dsimp only
  repeat' (first | with_reducible exact Sound.refl _ _ _ | with_reducible assumption | with_reducible apply State.checkCodes_sound | with_reducible apply sound_ite | (with_reducible refine sound_foldl _ ?_ ?_; (first | (rintro t ⟨_, _⟩) | intro t _)) | split)

theorem State.takeCell_sound (x0 x2) (h : Sound m l s u) : Sound m l s (State.takeCell x0 u x2) := by
  refine h.trans ?_
  unfold State.takeCell
  try dsimp only
  repeat' (first | with_reducible exact Sound.refl _ _ _ | with_reducible assumption | with_reducible apply State.updMeas_sound | with_reducible apply State.raiseIf_sound | with_reducible apply sound_ite | (with_reducible refine sound_foldl _ ?_ ?_; (first | (rintro t ⟨_, _⟩) | intro t _)) | split)

theorem State.checkRefp_sound (x1) (h : Sound m l s u) : Sound m l s (u.checkRefp x1) := by
  refine h.trans ?_
  unfold State.checkRefp
  try dsimp only
  repeat' (first | with_reducible exact Sound.refl _ _ _ | with_reducible assumption | with_reducible apply State.raiseIf_sound | with_reducible apply State.updMeas_sound | with_reducible apply sound_ite | (with_reducible refine sound_foldl _ ?_ ?_; (first | (rintro t ⟨_, _⟩) | intro t _)) | split)

theorem State.checkStack_sound (h : Sound m l s u) : Sound m l s (u.checkStack) := by
  refine h.trans ?_
  unfold State.checkStack
  try dsimp only
  repeat' (first | with_reducible exact Sound.refl _ _ _ | with_reducible assumption | with_reducible apply State.raiseIf_sound | with_reducible apply State.updMeas_sound | with_reducible apply sound_ite | (with_reducible refine sound_foldl _ ?_ ?_; (first | (rintro t ⟨_, _⟩) | intro t _)) | split)

theorem State.checkDie_sound (x1) (h : Sound m l s u) : Sound m l s (u.checkDie x1) := by
  refine h.trans ?_
  unfold State.checkDie
  try dsimp only
  repeat' (first | with_reducible exact Sound.refl _ _ _ | with_reducible assumption | with_reducible apply State.updMeas_sound | with_reducible apply State.raiseIf_sound | with_reducible apply sound_ite | (with_reducible refine sound_foldl _ ?_ ?_; (first | (rintro t ⟨_, _⟩) | intro t _)) | split)

theorem State.releaseComparators_sound (x1) (h : Sound m l s u) : Sound m l s (u.releaseComparators x1) := 
  h.trans (Keeps.sound (G := [.balance]) ((State.releaseComparators_keeps (by decide) _).mpr (Keeps.refl _ _)) (by decide))

theorem State.faultNtc_sound (h : Sound m l s u) : Sound m l s (u.faultNtc) := by
  refine h.trans ?_
  unfold State.faultNtc
  try dsimp only
  repeat' (first | with_reducible exact Sound.refl _ _ _ | with_reducible assumption | with_reducible apply State.raise_sound | with_reducible apply State.updMeas_sound | with_reducible apply sound_ite | (with_reducible refine sound_foldl _ ?_ ?_; (first | (rintro t ⟨_, _⟩) | intro t _)) | split)

theorem State.takeCurrent_sound (x1) (h : Sound m l s u) : Sound m l s (u.takeCurrent x1) := by
  refine h.trans ?_
  unfold State.takeCurrent
  try dsimp only
  repeat' (first | with_reducible exact Sound.refl _ _ _ | with_reducible assumption | with_reducible apply State.updMeas_sound | with_reducible apply State.raiseIf_sound | with_reducible apply sound_ite | (with_reducible refine sound_foldl _ ?_ ?_; (first | (rintro t ⟨_, _⟩) | intro t _)) | split)

theorem State.meldSent_sound (h : Sound m l s u) : Sound m l s (u.meldSent) := 
  h.trans (Keeps.sound (G := [.balance, .ring]) ((State.meldSent_keeps (by decide) ).mpr (Keeps.refl _ _)) (by decide))

theorem State.assemble_sound (x1 x2) (h : Sound m l s u) : Sound m l s (u.assemble x1 x2) := 
  h.trans (Keeps.sound (G := [.dealer, .balance, .ring, .portN, .portS]) ((State.assemble_keeps (by decide) _ _).mpr (Keeps.refl _ _)) (by decide))

theorem State.legacyMelds_sound (h : Sound m l s u) : Sound m l s (u.legacyMelds) := 
  h.trans (Keeps.sound (G := [.dealer, .portN, .portS]) ((State.legacyMelds_keeps (by decide) ).mpr (Keeps.refl _ _)) (by decide))

theorem State.publishedWord_sound (r w) (h : Sound m l s u) : Sound m l s (u.publishedWord r w).2 := by
  unfold State.publishedWord
  split
  · exact h
  · exact State.drawWord_sound h

theorem State.takeReadings_sound (x1) (h : Sound m l s u) : Sound m l s (u.takeReadings x1) := by
  refine h.trans ?_
  unfold State.takeReadings
  try dsimp only
  repeat' (first | with_reducible exact Sound.refl _ _ _ | with_reducible assumption | with_reducible apply State.updMeas_sound | with_reducible apply State.takeCell_sound | with_reducible apply State.faultNtc_sound | with_reducible apply State.takeCurrent_sound | with_reducible apply State.checkNtc_sound | with_reducible apply State.checkCells_sound | with_reducible apply State.checkDie_sound | with_reducible apply State.checkRefp_sound | with_reducible apply State.checkStack_sound | with_reducible apply State.releaseComparators_sound | with_reducible apply State.endJobs_sound | (with_reducible refine State.updDev_sound ?_ ?_; (· (first | with_reducible exact fun k => k | with_reducible exact fun _ => rfl | (intro k; (try dsimp only); (repeat' split) <;> first | with_reducible exact k | rfl)))) | with_reducible apply sound_ite | (with_reducible refine sound_foldl _ ?_ ?_; (first | (rintro t ⟨_, _⟩) | intro t _)) | split)

theorem State.afterAperture_sound (h : Sound m l s u) : Sound m l s (u.afterAperture) := 
  h.trans (Keeps.sound (G := [.meas, .balance]) ((State.afterAperture_keeps (by decide) ).mpr (Keeps.refl _ _)) (by decide))

theorem State.wireResult_sound (x0 x1 x3) (h : Sound m l s u) : Sound m l s (State.wireResult x0 x1 u x3) := by
  refine h.trans ?_
  unfold State.wireResult
  try dsimp only
  repeat' (first | with_reducible exact Sound.refl _ _ _ | with_reducible assumption | with_reducible apply State.endJobs_sound | with_reducible apply State.raise_sound | with_reducible apply State.updMeas_sound | with_reducible apply sound_ite | (with_reducible refine sound_foldl _ ?_ ?_; (first | (rintro t ⟨_, _⟩) | intro t _)) | split)

theorem State.liveRead_sound (x0 x2) (h : Sound m l s u) : Sound m l s (State.liveRead x0 u x2) := by
  refine h.trans ?_
  unfold State.liveRead
  try dsimp only
  repeat' (first | with_reducible exact Sound.refl _ _ _ | with_reducible assumption | with_reducible apply State.updStraps_sound | with_reducible apply State.raiseIf_sound | with_reducible apply State.raise_sound | with_reducible apply sound_ite | (with_reducible refine sound_foldl _ ?_ ?_; (first | (rintro t ⟨_, _⟩) | intro t _)) | split)

/-! ### Lifeline -/

theorem State.carrierOut_sound (x1 x2 x3) (h : Sound m l s u) : Sound m l s (u.carrierOut x1 x2 x3) := 
  h.trans (Keeps.sound (G := [.portN, .portS]) ((State.carrierOut_keeps (by decide) _ _ _).mpr (Keeps.refl _ _)) (by decide))

theorem State.startFeed_sound (x1) (h : Sound m l s u) : Sound m l s (u.startFeed x1) := 
  h.trans (Keeps.sound (G := [.portN, .portS]) ((State.startFeed_keeps (by decide) _).mpr (Keeps.refl _ _)) (by decide))

theorem State.countUnacked_sound (h : Sound m l s u) : Sound m l s (u.countUnacked) := 
  h.trans (Keeps.sound (G := [.life]) ((State.countUnacked_keeps (by decide) ).mpr (Keeps.refl _ _)) (by decide))

theorem State.sendReport_sound (x1) (h : Sound m l s u) : Sound m l s (u.sendReport x1) := by
  refine h.trans ?_
  unfold State.sendReport
  try dsimp only
  repeat' (first | with_reducible exact Sound.refl _ _ _ | with_reducible assumption | with_reducible apply State.countUnacked_sound | with_reducible apply State.drawWord_sound | with_reducible apply State.updLife_sound | with_reducible apply State.updPort_sound | with_reducible apply sound_ite | (with_reducible refine sound_foldl _ ?_ ?_; (first | (rintro t ⟨_, _⟩) | intro t _)) | split)

/-! ### Probes -/

theorem State.updSlot_sound (x1 x2) (h : Sound m l s u) : Sound m l s (u.updSlot x1 x2) := 
  h.trans (Keeps.sound (G := [.probes]) ((State.updSlot_keeps (by decide) _ _).mpr (Keeps.refl _ _)) (by decide))

theorem State.park_sound (x1 x2) (h : Sound m l s u) : Sound m l s (u.park x1 x2) := by
  refine h.trans ?_
  unfold State.park
  try dsimp only
  repeat' (first | with_reducible exact Sound.refl _ _ _ | with_reducible assumption | with_reducible apply State.raise_sound | with_reducible apply State.updProbes_sound | with_reducible apply sound_ite | (with_reducible refine sound_foldl _ ?_ ?_; (first | (rintro t ⟨_, _⟩) | intro t _)) | split)

theorem State.probePass_sound (x1) (h : Sound m l s u) : Sound m l s (u.probePass x1) := by
  refine h.trans ?_
  unfold State.probePass
  try dsimp only
  repeat' (first | with_reducible exact Sound.refl _ _ _ | with_reducible assumption | with_reducible apply State.park_sound | with_reducible apply State.updSlot_sound | with_reducible apply State.raise_sound | with_reducible apply sound_ite | (with_reducible refine sound_foldl _ ?_ ?_; (first | (rintro t ⟨_, _⟩) | intro t _)) | split)

theorem State.censusMissing_sound (h : Sound m l s u) : Sound m l s (u.censusMissing) := by
  refine h.trans ?_
  unfold State.censusMissing
  try dsimp only
  repeat' (first | with_reducible exact Sound.refl _ _ _ | with_reducible assumption | with_reducible apply State.raise_sound | with_reducible apply State.raiseIf_sound | with_reducible apply sound_ite | (with_reducible refine sound_foldl _ ?_ ?_; (first | (rintro t ⟨_, _⟩) | intro t _)) | split)

theorem State.wireFails_sound (h : Sound m l s u) : Sound m l s (u.wireFails) := by
  refine h.trans ?_
  unfold State.wireFails
  try dsimp only
  repeat' (first | with_reducible exact Sound.refl _ _ _ | with_reducible assumption | with_reducible apply State.updProbes_sound | with_reducible apply State.raise_sound | with_reducible apply State.probeRecords_sound | with_reducible apply sound_ite | (with_reducible refine sound_foldl _ ?_ ?_; (first | (rintro t ⟨_, _⟩) | intro t _)) | split)

theorem State.endSlot_sound (x1) (h : Sound m l s u) : Sound m l s (u.endSlot x1) := by
  refine h.trans ?_
  unfold State.endSlot
  try dsimp only
  repeat' (first | with_reducible exact Sound.refl _ _ _ | with_reducible assumption | with_reducible apply State.raiseIf_sound | with_reducible apply State.updSlot_sound | with_reducible apply sound_ite | (with_reducible refine sound_foldl _ ?_ ?_; (first | (rintro t ⟨_, _⟩) | intro t _)) | split)

theorem State.checkProbes_sound (h : Sound m l s u) : Sound m l s (u.checkProbes) := by
  refine h.trans ?_
  unfold State.checkProbes
  try dsimp only
  repeat' (first | with_reducible exact Sound.refl _ _ _ | with_reducible assumption | with_reducible apply State.checkCodes_sound | with_reducible apply sound_ite | (with_reducible refine sound_foldl _ ?_ ?_; (first | (rintro t ⟨_, _⟩) | intro t _)) | split)

theorem State.writeRecord_sound (x y) (h : Sound m l s u) : Sound m l s (u.writeRecord x y) := by
  unfold State.writeRecord
  dsimp only
  split
  · exact State.eraseSpare_sound (State.putRecord_sound _ h)
  · exact State.putRecord_sound _ h

/-! ### L1 -/

theorem State.breachL1_sound (x1 x2 x3 x4 x5 x6) (h : Sound m l s u) : Sound m l s (u.breachL1 x1 x2 x3 x4 x5 x6) := by
  refine h.trans ?_
  unfold State.breachL1
  try dsimp only
  repeat' (first | with_reducible exact Sound.refl _ _ _ | with_reducible assumption | with_reducible apply State.trip_sound | with_reducible apply State.sendTrumpWords_sound | with_reducible apply sound_ite | (with_reducible refine sound_foldl _ ?_ ?_; (first | (rintro t ⟨_, _⟩) | intro t _)) | split)

theorem State.checkL1_sound (x1 x2 x3 x4 x5 x6 x7 x8) (h : Sound m l s u) : Sound m l s (u.checkL1 x1 x2 x3 x4 x5 x6 x7 x8) := by
  refine h.trans ?_
  unfold State.checkL1
  try dsimp only
  repeat' (first | with_reducible exact Sound.refl _ _ _ | with_reducible assumption | with_reducible apply State.breachL1_sound | with_reducible apply sound_ite | (with_reducible refine sound_foldl _ ?_ ?_; (first | (rintro t ⟨_, _⟩) | intro t _)) | split)

theorem State.checkReply_sound (x1 x2) (h : Sound m l s u) : Sound m l s (u.checkReply x1 x2) := by
  refine h.trans ?_
  unfold State.checkReply
  try dsimp only
  repeat' (first | with_reducible exact Sound.refl _ _ _ | with_reducible assumption | with_reducible apply State.checkL1_sound | with_reducible apply sound_ite | (with_reducible refine sound_foldl _ ?_ ?_; (first | (rintro t ⟨_, _⟩) | intro t _)) | split)

/-! ### Sealing -/

theorem State.logSeal_sound (x1 x2 x3 x4) (h : Sound m l s u) : Sound m l s (u.logSeal x1 x2 x3 x4) := by
  refine h.trans ?_
  unfold State.logSeal
  try dsimp only
  repeat' (first | with_reducible exact Sound.refl _ _ _ | with_reducible assumption | with_reducible apply State.log_sound | with_reducible apply sound_ite | (with_reducible refine sound_foldl _ ?_ ?_; (first | (rintro t ⟨_, _⟩) | intro t _)) | split)

theorem State.logSealOf_sound (x1 x2) (h : Sound m l s u) : Sound m l s (u.logSealOf x1 x2) := by
  refine h.trans ?_
  unfold State.logSealOf
  try dsimp only
  repeat' (first | with_reducible exact Sound.refl _ _ _ | with_reducible assumption | with_reducible apply State.logSeal_sound | with_reducible apply sound_ite | (with_reducible refine sound_foldl _ ?_ ?_; (first | (rintro t ⟨_, _⟩) | intro t _)) | split)

theorem State.writeCensus_sound (h : Sound m l s u) : Sound m l s (u.writeCensus) := by
  refine h.trans ?_
  unfold State.writeCensus
  try dsimp only
  repeat' (first | with_reducible exact Sound.refl _ _ _ | with_reducible assumption | with_reducible apply State.logSeal_sound | (with_reducible refine State.updNv_sound ?_ ?_ ?_; (· (first | with_reducible exact fun k => k | (intro k; (try dsimp only); (repeat' split) <;> first | with_reducible exact k | omega))); (· (first | with_reducible exact fun _ _ => rfl | with_reducible exact fun _ k => k | (intro _ k; (try dsimp only); (repeat' split) <;> first | with_reducible exact k | rfl)))) | with_reducible apply sound_ite | (with_reducible refine sound_foldl _ ?_ ?_; (first | (rintro t ⟨_, _⟩) | intro t _)) | split)

theorem State.demandUntilBoot_sound (h : Sound m l s u) : Sound m l s (u.demandUntilBoot) := by
  refine h.trans ?_
  unfold State.demandUntilBoot
  try dsimp only
  repeat' (first | with_reducible exact Sound.refl _ _ _ | with_reducible assumption | with_reducible apply State.updSafety_sound | with_reducible apply State.demandPending_sound | with_reducible apply sound_ite | (with_reducible refine sound_foldl _ ?_ ?_; (first | (rintro t ⟨_, _⟩) | intro t _)) | split)

theorem State.commitSeal_sound (x1) (h : Sound m l s u) : Sound m l s (u.commitSeal x1) := by
  refine h.trans ?_
  unfold State.commitSeal
  try dsimp only
  repeat' (first | with_reducible exact Sound.refl _ _ _ | with_reducible assumption | (with_reducible refine State.updNv_sound ?_ ?_ ?_; (· (first | with_reducible exact fun k => k | (intro k; (try dsimp only); (repeat' split) <;> first | with_reducible exact k | omega))); (· (first | with_reducible exact fun _ _ => rfl | with_reducible exact fun _ k => k | (intro _ k; (try dsimp only); (repeat' split) <;> first | with_reducible exact k | rfl)))) | with_reducible apply State.writeCensus_sound | with_reducible apply State.logSealOf_sound | with_reducible apply State.demandUntilBoot_sound | with_reducible apply State.updDealer_sound | with_reducible apply sound_ite | (with_reducible refine sound_foldl _ ?_ ?_; (first | (rintro t ⟨_, _⟩) | intro t _)) | split)

theorem State.tryCommit_sound (h : Sound m l s u) : Sound m l s (u.tryCommit) := by
  refine h.trans ?_
  unfold State.tryCommit
  try dsimp only
  repeat' (first | with_reducible exact Sound.refl _ _ _ | with_reducible assumption | with_reducible apply State.commitSeal_sound | with_reducible apply sound_ite | (with_reducible refine sound_foldl _ ?_ ?_; (first | (rintro t ⟨_, _⟩) | intro t _)) | split)

theorem State.startSealing_sound (h : Sound m l s u) : Sound m l s (u.startSealing) := by
  refine h.trans ?_
  unfold State.startSealing
  try dsimp only
  repeat' (first | with_reducible exact Sound.refl _ _ _ | with_reducible assumption | with_reducible apply State.logSeal_sound | with_reducible apply State.logSealOf_sound | (with_reducible refine State.updNv_sound ?_ ?_ ?_; (· (first | with_reducible exact fun k => k | (intro k; (try dsimp only); (repeat' split) <;> first | with_reducible exact k | omega))); (· (first | with_reducible exact fun _ _ => rfl | with_reducible exact fun _ k => k | (intro _ k; (try dsimp only); (repeat' split) <;> first | with_reducible exact k | rfl)))) | with_reducible apply State.updDealer_sound | with_reducible apply State.tryCommit_sound | with_reducible apply sound_ite | (with_reducible refine sound_foldl _ ?_ ?_; (first | (rintro t ⟨_, _⟩) | intro t _)) | split)

theorem State.discardPending_sound (h : Sound m l s u) : Sound m l s (u.discardPending) := by
  refine h.trans ?_
  unfold State.discardPending
  try dsimp only
  repeat' (first | with_reducible exact Sound.refl _ _ _ | with_reducible assumption | with_reducible apply State.logSealOf_sound | (with_reducible refine State.updNv_sound ?_ ?_ ?_; (· (first | with_reducible exact fun k => k | (intro k; (try dsimp only); (repeat' split) <;> first | with_reducible exact k | omega))); (· (first | with_reducible exact fun _ _ => rfl | with_reducible exact fun _ k => k | (intro _ k; (try dsimp only); (repeat' split) <;> first | with_reducible exact k | rfl)))) | with_reducible apply sound_ite | (with_reducible refine sound_foldl _ ?_ ?_; (first | (rintro t ⟨_, _⟩) | intro t _)) | split)

theorem State.handleSealChunk_sound (x1) (h : Sound m l s u) : Sound m l s (u.handleSealChunk x1) := by
  refine h.trans ?_
  unfold State.handleSealChunk
  try dsimp only
  repeat' (first | with_reducible exact Sound.refl _ _ _ | with_reducible assumption | with_reducible apply State.updRing_sound | with_reducible apply State.logSealOf_sound | (with_reducible refine State.updNv_sound ?_ ?_ ?_; (· (first | with_reducible exact fun k => k | (intro k; (try dsimp only); (repeat' split) <;> first | with_reducible exact k | omega))); (· (first | with_reducible exact fun _ _ => rfl | with_reducible exact fun _ k => k | (intro _ k; (try dsimp only); (repeat' split) <;> first | with_reducible exact k | rfl)))) | with_reducible apply State.send_sound | with_reducible apply sound_ite | (with_reducible refine sound_foldl _ ?_ ?_; (first | (rintro t ⟨_, _⟩) | intro t _)) | split)

theorem State.handleSealConfirm_sound (x1 x2) (h : Sound m l s u) : Sound m l s (u.handleSealConfirm x1 x2) := by
  refine h.trans ?_
  unfold State.handleSealConfirm
  try dsimp only
  repeat' (first | with_reducible exact Sound.refl _ _ _ | with_reducible assumption | with_reducible apply State.tryCommit_sound | with_reducible apply State.updDealer_sound | with_reducible apply sound_ite | (with_reducible refine sound_foldl _ ?_ ?_; (first | (rintro t ⟨_, _⟩) | intro t _)) | split)

theorem State.pendingAtBeacon_sound (x1 x2 x3) (h : Sound m l s u) : Sound m l s (u.pendingAtBeacon x1 x2 x3) := by
  refine h.trans ?_
  unfold State.pendingAtBeacon
  try dsimp only
  repeat' (first | with_reducible exact Sound.refl _ _ _ | with_reducible assumption | with_reducible apply State.writeCensus_sound | with_reducible apply State.logSealOf_sound | (with_reducible refine State.updNv_sound ?_ ?_ ?_; (· (first | with_reducible exact fun k => k | (intro k; (try dsimp only); (repeat' split) <;> first | with_reducible exact k | omega))); (· (first | with_reducible exact fun _ _ => rfl | with_reducible exact fun _ k => k | (intro _ k; (try dsimp only); (repeat' split) <;> first | with_reducible exact k | rfl)))) | with_reducible apply State.discardPending_sound | with_reducible apply sound_ite | (with_reducible refine sound_foldl _ ?_ ?_; (first | (rintro t ⟨_, _⟩) | intro t _)) | split)

theorem State.clearLockout_sound (x) (h : Sound m false s u) : Sound m false s (u.clearLockout x) := by
  unfold State.clearLockout
  dsimp only
  refine State.demandUntilBoot_sound (State.updDealer_sound _ (State.lockPin_sound (State.updNv_sound (fun k => k) ?_
    (State.updKeeper_sound ?_ (State.logLockout_sound _ _ _ h)))))
  · exact fun q => nomatch q
  · exact fun q => nomatch q

theorem State.traceClear_sound (x1 x2) (h : Sound m l s u) : Sound m l s (u.traceClear x1 x2) := by
  refine h.trans ?_
  unfold State.traceClear
  try dsimp only
  repeat' (first | with_reducible exact Sound.refl _ _ _ | with_reducible assumption | with_reducible apply State.trace_sound | with_reducible apply sound_ite | (with_reducible refine sound_foldl _ ?_ ?_; (first | (rintro t ⟨_, _⟩) | intro t _)) | split)

/-! ### SafetyFn -/

theorem State.sendInterlock_sound (h : Sound m l s u) : Sound m l s (u.sendInterlock) := by
  refine h.trans ?_
  unfold State.sendInterlock
  try dsimp only
  repeat' (first | with_reducible exact Sound.refl _ _ _ | with_reducible assumption | with_reducible apply State.updSafety_sound | with_reducible apply State.sendTrumpWords_sound | with_reducible apply sound_ite | (with_reducible refine sound_foldl _ ?_ ?_; (first | (rintro t ⟨_, _⟩) | intro t _)) | split)

theorem State.interlockChanged_sound (x1) (h : Sound m l s u) : Sound m l s (u.interlockChanged x1) := by
  refine h.trans ?_
  unfold State.interlockChanged
  try dsimp only
  repeat' (first | with_reducible exact Sound.refl _ _ _ | with_reducible assumption | with_reducible apply State.trip_sound | with_reducible apply State.headOpens_sound | with_reducible apply State.sendInterlock_sound | with_reducible apply sound_ite | (with_reducible refine sound_foldl _ ?_ ?_; (first | (rintro t ⟨_, _⟩) | intro t _)) | split)

theorem State.judgeSource_sound (x1 x2 x3 x4) (h : Sound m l s u) : Sound m l s (u.judgeSource x1 x2 x3 x4) := by
  refine h.trans ?_
  unfold State.judgeSource
  try dsimp only
  repeat' (first | with_reducible exact Sound.refl _ _ _ | with_reducible assumption | with_reducible apply State.updSafety_sound | with_reducible apply State.raise_sound | with_reducible apply sound_ite | (with_reducible refine sound_foldl _ ?_ ?_; (first | (rintro t ⟨_, _⟩) | intro t _)) | split)

theorem State.judgeSamples_sound (x1 x2 x3) (h : Sound m l s u) : Sound m l s (u.judgeSamples x1 x2 x3) := by
  refine h.trans ?_
  unfold State.judgeSamples
  try dsimp only
  repeat' (first | with_reducible exact Sound.refl _ _ _ | with_reducible assumption | with_reducible apply State.updSafety_sound | with_reducible apply State.raiseIf_sound | with_reducible apply sound_ite | (with_reducible refine sound_foldl _ ?_ ?_; (first | (rintro t ⟨_, _⟩) | intro t _)) | split)

/-! ### Vehicle -/

theorem State.stagePublication_sound (h : Sound m l s u) : Sound m l s (u.stagePublication) := 
  h.trans (Keeps.sound (G := [.vehicle]) ((State.stagePublication_keeps (by decide) ).mpr (Keeps.refl _ _)) (by decide))

theorem State.busOff_sound (h : Sound m l s u) : Sound m l s (u.busOff) := by
  refine h.trans ?_
  unfold State.busOff
  try dsimp only
  repeat' (first | with_reducible exact Sound.refl _ _ _ | with_reducible assumption | with_reducible apply State.updVehicle_sound | with_reducible apply State.raiseIf_sound | with_reducible apply State.raise_sound | with_reducible apply sound_ite | (with_reducible refine sound_foldl _ ?_ ?_; (first | (rintro t ⟨_, _⟩) | intro t _)) | split)

theorem State.canCounters_sound (x1 x2) (h : Sound m l s u) : Sound m l s (u.canCounters x1 x2) := by
  refine h.trans ?_
  unfold State.canCounters
  try dsimp only
  repeat' (first | with_reducible exact Sound.refl _ _ _ | with_reducible assumption | with_reducible apply State.raiseIf_sound | with_reducible apply State.updVehicle_sound | with_reducible apply sound_ite | (with_reducible refine sound_foldl _ ?_ ?_; (first | (rintro t ⟨_, _⟩) | intro t _)) | split)

/-! ### ServicePort -/

theorem State.sendService_sound (x1 x2) (h : Sound m l s u) : Sound m l s (u.sendService x1 x2) := 
  h.trans (Keeps.sound (G := [.portN, .portS, .service]) ((State.sendService_keeps (by decide) _ _).mpr (Keeps.refl _ _)) (by decide))

theorem State.releaseHeld_sound (h : Sound m l s u) : Sound m l s (u.releaseHeld) := 
  h.trans (Keeps.sound (G := [.portN, .portS, .service]) ((State.releaseHeld_keeps (by decide) ).mpr (Keeps.refl _ _)) (by decide))

theorem State.respond_sound (x1 x2 x3 x4) (h : Sound m l s u) : Sound m l s (u.respond x1 x2 x3 x4) := by
  refine h.trans ?_
  unfold State.respond
  try dsimp only
  repeat' (first | with_reducible exact Sound.refl _ _ _ | with_reducible assumption | with_reducible apply State.updService_sound | with_reducible apply State.trace_sound | with_reducible apply sound_ite | (with_reducible refine sound_foldl _ ?_ ?_; (first | (rintro t ⟨_, _⟩) | intro t _)) | split)

theorem State.serve_sound {f : State → State} (hf : ∀ t, Sound m l t (f t)) (x y) (h : Sound m l s u) :
    Sound m l s (u.serve x y f) := by
  unfold State.serve
  split
  · exact h
  · split
    · exact State.respond_sound _ _ _ _ h
    · exact h.trans (hf u)

theorem State.answer_sound (x1 x2) (h : Sound m l s u) : Sound m l s (u.answer x1 x2) := by
  refine h.trans ?_
  unfold State.answer
  try dsimp only
  repeat' (first | with_reducible exact Sound.refl _ _ _ | with_reducible assumption | with_reducible apply State.updService_sound | with_reducible apply State.respond_sound | with_reducible apply sound_ite | (with_reducible refine sound_foldl _ ?_ ?_; (first | (rintro t ⟨_, _⟩) | intro t _)) | split)

theorem State.seqBounds_sound (h : Sound m l s u) : Sound m l s u.seqBounds.2 := by
  unfold State.seqBounds
  split
  · exact h
  · exact State.drawWord_sound (State.drawWord_sound h)

theorem State.firstReturned_sound (x) (h : Sound m l s u) : Sound m l s (u.firstReturned x).2 := by
  unfold State.firstReturned
  split
  · exact h
  · exact State.drawWord_sound h

theorem State.readOwn_sound (x y z) (h : Sound m l s u) : Sound m l s (u.readOwn x y z) :=
  State.respond_sound _ _ _ _ (State.firstReturned_sound _ h)

theorem State.readRemote_sound (x1 x2 x3 x4) (h : Sound m l s u) : Sound m l s (u.readRemote x1 x2 x3 x4) := by
  refine h.trans ?_
  unfold State.readRemote
  try dsimp only
  repeat' (first | with_reducible exact Sound.refl _ _ _ | with_reducible assumption | with_reducible apply State.respond_sound | with_reducible apply State.updService_sound | with_reducible apply State.sendService_sound | with_reducible apply sound_ite | (with_reducible refine sound_foldl _ ?_ ?_; (first | (rintro t ⟨_, _⟩) | intro t _)) | split)

theorem State.handleLogRequest_sound (x1) (h : Sound m l s u) : Sound m l s (u.handleLogRequest x1) := by
  refine h.trans ?_
  unfold State.handleLogRequest
  try dsimp only
  repeat' (first | with_reducible exact Sound.refl _ _ _ | with_reducible assumption | with_reducible apply State.firstReturned_sound | with_reducible apply State.sendService_sound | with_reducible apply sound_ite | (with_reducible refine sound_foldl _ ?_ ?_; (first | (rintro t ⟨_, _⟩) | intro t _)) | split)

theorem State.handleLogRecords_sound (x1 x2) (h : Sound m l s u) : Sound m l s (u.handleLogRecords x1 x2) := by
  refine h.trans ?_
  unfold State.handleLogRecords
  try dsimp only
  repeat' (first | with_reducible exact Sound.refl _ _ _ | with_reducible assumption | with_reducible apply State.answer_sound | with_reducible apply sound_ite | (with_reducible refine sound_foldl _ ?_ ?_; (first | (rintro t ⟨_, _⟩) | intro t _)) | split)

theorem State.writeBlock_sound (x y z) (h : Sound m l s u) : Sound m l s (u.writeBlock x y z) := by
  have k : ∀ (v : State) (c : List Host.Cell), Sound m l s v → (Memory.wf v.flash = true → Memory.wf c = true) →
      Sound m l s ((({ v with flash := c } : State).updNv fun n =>
        { setSlot u.inactive .loading n with shipped := n.shipped && u.inactive }).updService fun w =>
        { w with nextBlock := x + 1, total := y }) := by
    intro v c hv hc
    refine State.updService_sound _ (State.updNv_sound ?_ ?_ (flash_sound hc hv))
    · intro k
      show (setSlot _ _ _).fuses ≤ 32
      rw [(setSlot_fuses _ _ _).1]; exact k
    · intro _ k
      show (setSlot _ _ _).lockout = true
      rw [(setSlot_fuses _ _ _).2]; exact k
  have erased : ∀ (v : State) (a : Nat), Memory.wf v.flash = true →
      Memory.wf (Memory.program (if x % 64 = 0 then Memory.erase v.flash a 4096 else v.flash) a (padTo 64 z)) = true := by
    intro v a hv
    split
    · exact Memory.program_wf (Memory.erase_wf hv _ _) _ _
    · exact Memory.program_wf hv _ _
  unfold State.writeBlock
  dsimp only
  split
  · exact State.logImage_sound _ _ (k _ _ (State.updNv_sound (fun k => k) (fun _ k => k) (State.updService_sound _ h)) (erased _ _))
  · exact k _ _ h (erased _ _)

theorem State.writeBlocks_sound (x n y) (h : Sound m l s u) : Sound m l s (State.writeBlocks x n y u) := by
  induction y generalizing u n with
  | nil => exact h
  | cons y ys ih =>
    unfold State.writeBlocks
    split
    · exact ih _ (State.writeBlock_sound _ _ _ h)
    · exact h

theorem State.sendImageStatus_sound (x1 x2) (h : Sound m l s u) : Sound m l s (u.sendImageStatus x1 x2) := 
  h.trans (Keeps.sound (G := [.portN, .portS, .service]) ((State.sendImageStatus_keeps (by decide) _ _).mpr (Keeps.refl _ _)) (by decide))

theorem State.statusOfCheck_sound (x) (h : Sound m l s u) : Sound m l s (u.statusOfCheck x).2 := by
  cases x
  · exact h
  · exact h
  · exact h
  · exact State.drawWord_sound h

theorem State.handleImageBlock_sound (x) (h : Sound m l s u) : Sound m l s (u.handleImageBlock x) := by
  unfold State.handleImageBlock
  dsimp only
  split
  · exact h
  · split
    · split
      · exact State.sendImageStatus_sound _ _ (State.logImage_sound _ _ (State.updNv_sound (fun k => k) (fun _ k => k) h))
      · exact h
    · split
      · exact State.writeBlock_sound _ _ _ h
      · exact h

theorem State.sendAllPorts_sound (x1) (h : Sound m l s u) : Sound m l s (u.sendAllPorts x1) := 
  h.trans (Keeps.sound (G := [.portN, .portS, .service]) ((State.sendAllPorts_keeps (by decide) _).mpr (Keeps.refl _ _)) (by decide))

theorem State.distributeBlocks_sound (h : Sound m l s u) : Sound m l s (u.distributeBlocks) := 
  h.trans (Keeps.sound (G := [.portN, .portS, .service]) ((State.distributeBlocks_keeps (by decide) ).mpr (Keeps.refl _ _)) (by decide))

theorem State.handleImageStatus_sound (x1 x2) (h : Sound m l s u) : Sound m l s (u.handleImageStatus x1 x2) := by
  refine h.trans ?_
  unfold State.handleImageStatus
  try dsimp only
  repeat' (first | with_reducible exact Sound.refl _ _ _ | with_reducible assumption | with_reducible apply State.updService_sound | with_reducible apply State.answer_sound | with_reducible apply sound_ite | (with_reducible refine sound_foldl _ ?_ ?_; (first | (rintro t ⟨_, _⟩) | intro t _)) | split)

theorem State.sendCommitBlock_sound (h : Sound m l s u) : Sound m l s (u.sendCommitBlock) := by
  refine h.trans ?_
  unfold State.sendCommitBlock
  try dsimp only
  repeat' (first | with_reducible exact Sound.refl _ _ _ | with_reducible assumption | (with_reducible refine State.updDev_sound ?_ ?_; (· (first | with_reducible exact fun k => k | with_reducible exact fun _ => rfl | (intro k; (try dsimp only); (repeat' split) <;> first | with_reducible exact k | rfl)))) | with_reducible apply State.sendAllPorts_sound | with_reducible apply sound_ite | (with_reducible refine sound_foldl _ ?_ ?_; (first | (rintro t ⟨_, _⟩) | intro t _)) | split)

theorem State.arm_sound (x1) (h : Sound m l s u) : Sound m l s (u.arm x1) := by
  refine h.trans ?_
  unfold State.arm
  try dsimp only
  repeat' (first | with_reducible exact Sound.refl _ _ _ | with_reducible assumption | with_reducible apply State.logImage_sound | with_reducible apply State.updService_sound | (with_reducible refine State.updNv_sound ?_ ?_ ?_; (· (first | with_reducible exact fun k => k | (intro k; (try dsimp only); (repeat' split) <;> first | with_reducible exact k | omega))); (· (first | with_reducible exact fun _ _ => rfl | with_reducible exact fun _ k => k | (intro _ k; (try dsimp only); (repeat' split) <;> first | with_reducible exact k | rfl)))) | with_reducible apply State.sendCommitBlock_sound | with_reducible apply sound_ite | (with_reducible refine sound_foldl _ ?_ ?_; (first | (rintro t ⟨_, _⟩) | intro t _)) | split)

theorem State.armPending_sound (h : Sound m l s u) : Sound m l s (u.armPending) := by
  refine h.trans ?_
  unfold State.armPending
  try dsimp only
  repeat' (first | with_reducible exact Sound.refl _ _ _ | with_reducible assumption | with_reducible apply State.arm_sound | with_reducible apply sound_ite | (with_reducible refine sound_foldl _ ?_ ?_; (first | (rintro t ⟨_, _⟩) | intro t _)) | split)

/-! ### Deal -/

theorem State.kittyPeriod_sound (x1) (h : Sound m l s u) : Sound m l s (u.kittyPeriod x1) := 
  h.trans (Keeps.sound (G := [.dealer, .vehicle]) ((State.kittyPeriod_keeps (by decide) _).mpr (Keeps.refl _ _)) (by decide))

theorem State.takeBaseline_sound (h : Sound m l s u) : Sound m l s (u.takeBaseline) := 
  h.trans (Keeps.sound (G := [.balance]) ((State.takeBaseline_keeps (by decide) ).mpr (Keeps.refl _ _)) (by decide))

theorem State.dealerDeal_sound (x1 x2) (h : Sound m l s u) : Sound m l s (u.dealerDeal x1 x2) := 
  h.trans (Keeps.sound (G := [.ring, .portN, .portS, .dealer, .vehicle]) ((State.dealerDeal_keeps (by decide) _ _).mpr (Keeps.refl _ _)) (by decide))

theorem State.endPace_sound (h : Sound m l s u) : Sound m l s (u.endPace) := by
  refine h.trans ?_
  unfold State.endPace
  try dsimp only
  repeat' (first | with_reducible exact Sound.refl _ _ _ | with_reducible assumption | with_reducible apply State.ringEpisode_sound | with_reducible apply sound_ite | (with_reducible refine sound_foldl _ ?_ ?_; (first | (rintro t ⟨_, _⟩) | intro t _)) | split)

theorem State.sendCommands_sound (h : Sound m l s u) : Sound m l s (u.sendCommands) := by
  refine h.trans ?_
  unfold State.sendCommands
  try dsimp only
  repeat' (first | with_reducible exact Sound.refl _ _ _ | with_reducible assumption | (with_reducible refine State.updServices_sound ?_ ?_; (· (first | with_reducible exact fun _ k => k | with_reducible exact fun _ _ => rfl | (intro _ k; (try dsimp only); (repeat' split) <;> first | with_reducible exact k | rfl)))) | with_reducible apply sound_ite | (with_reducible refine sound_foldl _ ?_ ?_; (first | (rintro t ⟨_, _⟩) | intro t _)) | split)

theorem State.takeOwnBeacon_sound (x1) (h : Sound m l s u) : Sound m l s (u.takeOwnBeacon x1) := by
  refine h.trans ?_
  unfold State.takeOwnBeacon
  try dsimp only
  repeat' (first | with_reducible exact Sound.refl _ _ _ | with_reducible assumption | with_reducible apply State.updRing_sound | with_reducible apply State.endJobs_sound | with_reducible apply sound_ite | (with_reducible refine sound_foldl _ ?_ ?_; (first | (rintro t ⟨_, _⟩) | intro t _)) | split)

theorem State.sendChunks_sound (h : Sound m l s u) : Sound m l s (u.sendChunks) := 
  h.trans (Keeps.sound (G := [.portN, .portS, .dealer]) ((State.sendChunks_keeps (by decide) ).mpr (Keeps.refl _ _)) (by decide))

theorem State.afterBeacon_sound (x1) (h : Sound m l s u) : Sound m l s (u.afterBeacon x1) := by
  refine h.trans ?_
  unfold State.afterBeacon
  try dsimp only
  repeat' (first | with_reducible exact Sound.refl _ _ _ | with_reducible assumption | with_reducible apply State.updDealer_sound | (with_reducible refine State.updDev_sound ?_ ?_; (· (first | with_reducible exact fun k => k | with_reducible exact fun _ => rfl | (intro k; (try dsimp only); (repeat' split) <;> first | with_reducible exact k | rfl)))) | with_reducible apply sound_ite | (with_reducible refine sound_foldl _ ?_ ?_; (first | (rintro t ⟨_, _⟩) | intro t _)) | split)

theorem State.packAtT0_sound (h : Sound m l s u) : Sound m l s (u.packAtT0) := by
  refine h.trans ?_
  unfold State.packAtT0
  try dsimp only
  repeat' (first | with_reducible exact Sound.refl _ _ _ | with_reducible assumption | with_reducible apply State.outputCommand_sound | with_reducible apply State.endOpening_sound | with_reducible apply State.updPins_sound | with_reducible apply sound_ite | (with_reducible refine sound_foldl _ ?_ ?_; (first | (rintro t ⟨_, _⟩) | intro t _)) | split)

theorem State.storageAfterOpening_sound (h : Sound m l s u) : Sound m l s (u.storageAfterOpening) := by
  refine h.trans ?_
  unfold State.storageAfterOpening
  try dsimp only
  repeat' (first | with_reducible exact Sound.refl _ _ _ | with_reducible assumption | with_reducible apply State.beginEntry_sound | (with_reducible refine State.updServices_sound ?_ ?_; (· (first | with_reducible exact fun _ k => k | with_reducible exact fun _ _ => rfl | (intro _ k; (try dsimp only); (repeat' split) <;> first | with_reducible exact k | rfl)))) | with_reducible apply sound_ite | (with_reducible refine sound_foldl _ ?_ ?_; (first | (rintro t ⟨_, _⟩) | intro t _)) | split)

theorem State.absent_sound (x1) (h : Sound m l s u) : Sound m l s (u.absent x1) := by
  refine h.trans ?_
  unfold State.absent
  try dsimp only
  repeat' (first | with_reducible exact Sound.refl _ _ _ | with_reducible assumption | with_reducible apply State.raise_sound | with_reducible apply State.updPos_sound | with_reducible apply State.setPos_sound | with_reducible apply sound_ite | (with_reducible refine sound_foldl _ ?_ ?_; (first | (rintro t ⟨_, _⟩) | intro t _)) | split)

theorem State.closePosition_sound (x1) (h : Sound m l s u) : Sound m l s (u.closePosition x1) := by
  refine h.trans ?_
  unfold State.closePosition
  try dsimp only
  repeat' (first | with_reducible exact Sound.refl _ _ _ | with_reducible assumption | with_reducible apply State.updPos_sound | with_reducible apply State.updDealer_sound | with_reducible apply State.raise_sound | with_reducible apply State.setPos_sound | with_reducible apply State.absent_sound | with_reducible apply sound_ite | (with_reducible refine sound_foldl _ ?_ ?_; (first | (rintro t ⟨_, _⟩) | intro t _)) | split)

theorem State.countJobs_sound (h : Sound m l s u) : Sound m l s (u.countJobs) := by
  refine h.trans ?_
  unfold State.countJobs
  try dsimp only
  repeat' (first | with_reducible exact Sound.refl _ _ _ | with_reducible assumption | with_reducible apply State.updDealer_sound | (with_reducible refine State.updServices_sound ?_ ?_; (· (first | with_reducible exact fun _ k => k | with_reducible exact fun _ _ => rfl | (intro _ k; (try dsimp only); (repeat' split) <;> first | with_reducible exact k | rfl)))) | with_reducible apply sound_ite | (with_reducible refine sound_foldl _ ?_ ?_; (first | (rintro t ⟨_, _⟩) | intro t _)) | split)

theorem State.servePack_sound (h : Sound m l s u) : Sound m l s (u.servePack) := by
  refine h.trans ?_
  unfold State.servePack
  try dsimp only
  repeat' (first | with_reducible exact Sound.refl _ _ _ | with_reducible assumption | with_reducible apply State.currentReason_sound | with_reducible apply State.target_sound | with_reducible apply State.countJobs_sound | with_reducible apply State.serveString_sound | with_reducible apply State.publishLimits_sound | with_reducible apply State.packStep_sound | (with_reducible refine State.updServices_sound ?_ ?_; (· (first | with_reducible exact fun _ k => k | with_reducible exact fun _ _ => rfl | (intro _ k; (try dsimp only); (repeat' split) <;> first | with_reducible exact k | rfl)))) | with_reducible apply sound_ite | (with_reducible refine sound_foldl _ ?_ ?_; (first | (rintro t ⟨_, _⟩) | intro t _)) | split)

theorem State.moveDeal_sound (h : Sound m l s u) : Sound m l s (u.moveDeal) := 
  h.trans (Keeps.sound (G := [.ring, .portN, .portS, .service]) ((State.moveDeal_keeps (by decide) ).mpr (Keeps.refl _ _)) (by decide))

theorem State.countCheckIn_sound (h : Sound m l s u) : Sound m l s (u.countCheckIn) := by
  refine h.trans ?_
  unfold State.countCheckIn
  try dsimp only
  repeat' (first | with_reducible exact Sound.refl _ _ _ | with_reducible assumption | (with_reducible refine State.updDev_sound ?_ ?_; (· (first | with_reducible exact fun k => k | with_reducible exact fun _ => rfl | (intro k; (try dsimp only); (repeat' split) <;> first | with_reducible exact k | rfl)))) | with_reducible apply sound_ite | (with_reducible refine sound_foldl _ ?_ ?_; (first | (rintro t ⟨_, _⟩) | intro t _)) | split)

theorem State.repeatFatal_sound (h : Sound m l s u) : Sound m l s (u.repeatFatal) := by
  refine h.trans ?_
  unfold State.repeatFatal
  try dsimp only
  repeat' (first | with_reducible exact Sound.refl _ _ _ | with_reducible assumption | with_reducible apply State.updRing_sound | with_reducible apply State.sendTrumpWords_sound | with_reducible apply sound_ite | (with_reducible refine sound_foldl _ ?_ ?_; (first | (rintro t ⟨_, _⟩) | intro t _)) | split)

/-! ### Receive -/

theorem State.countDropped_sound (x1) (h : Sound m l s u) : Sound m l s (u.countDropped x1) := by
  refine h.trans ?_
  unfold State.countDropped
  try dsimp only
  repeat' (first | with_reducible exact Sound.refl _ _ _ | with_reducible assumption | with_reducible apply State.noteSeen_sound | with_reducible apply State.raise_sound | with_reducible apply sound_ite | (with_reducible refine sound_foldl _ ?_ ?_; (first | (rintro t ⟨_, _⟩) | intro t _)) | split)

theorem State.endCopy_sound (x1 x2 x3) (h : Sound m l s u) : Sound m l s (u.endCopy x1 x2 x3) := 
  h.trans (Keeps.sound (G := [.portN, .portS]) ((State.endCopy_keeps (by decide) _ _ _).mpr (Keeps.refl _ _)) (by decide))

theorem State.discard_sound (x1 x2 x3) (h : Sound m l s u) : Sound m l s (u.discard x1 x2 x3) := 
  h.trans (Keeps.sound (G := [.portN, .portS]) ((State.discard_keeps (by decide) _ _ _).mpr (Keeps.refl _ _)) (by decide))

theorem State.relay_sound (x1 x2 x3) (h : Sound m l s u) : Sound m l s (u.relay x1 x2 x3) := by
  refine h.trans ?_
  unfold State.relay
  try dsimp only
  repeat' (first | with_reducible exact Sound.refl _ _ _ | with_reducible assumption | with_reducible apply State.freeSlot_sound | with_reducible apply State.queue_sound | with_reducible apply State.endCopy_sound | with_reducible apply State.raise_sound | with_reducible apply State.updPort_sound | with_reducible apply sound_ite | (with_reducible refine sound_foldl _ ?_ ?_; (first | (rintro t ⟨_, _⟩) | intro t _)) | split)

theorem State.keepMeld_sound (x1 x2) (h : Sound m l s u) : Sound m l s (u.keepMeld x1 x2) := 
  h.trans (Keeps.sound (G := [.dealer]) ((State.keepMeld_keeps (by decide) _ _).mpr (Keeps.refl _ _)) (by decide))

theorem State.completeAdmission_sound (x1 x2) (h : Sound m l s u) : Sound m l s (u.completeAdmission x1 x2) := by
  refine h.trans ?_
  unfold State.completeAdmission
  try dsimp only
  repeat' (first | with_reducible exact Sound.refl _ _ _ | with_reducible assumption | with_reducible apply State.setPos_sound | with_reducible apply State.degradedTimer_sound | with_reducible apply State.updPos_sound | with_reducible apply sound_ite | (with_reducible refine sound_foldl _ ?_ ?_; (first | (rintro t ⟨_, _⟩) | intro t _)) | split)

theorem State.handleMeld_sound (x1 x2 x3 x4) (h : Sound m l s u) : Sound m l s (u.handleMeld x1 x2 x3 x4) := by
  refine h.trans ?_
  unfold State.handleMeld
  try dsimp only
  repeat' (first | with_reducible exact Sound.refl _ _ _ | with_reducible assumption | with_reducible apply State.raise_sound | with_reducible apply State.updDealer_sound | with_reducible apply State.completeAdmission_sound | with_reducible apply State.keepMeld_sound | with_reducible apply sound_ite | (with_reducible refine sound_foldl _ ?_ ?_; (first | (rintro t ⟨_, _⟩) | intro t _)) | split)

theorem State.traceTrump_sound (x1 x2 x3 x4) (h : Sound m l s u) : Sound m l s (u.traceTrump x1 x2 x3 x4) := by
  refine h.trans ?_
  unfold State.traceTrump
  try dsimp only
  repeat' (first | with_reducible exact Sound.refl _ _ _ | with_reducible assumption | with_reducible apply State.trace_sound | with_reducible apply sound_ite | (with_reducible refine sound_foldl _ ?_ ?_; (first | (rintro t ⟨_, _⟩) | intro t _)) | split)

theorem State.actTrump_sound (x1 x2 x3) (h : Sound m l s u) : Sound m l s (u.actTrump x1 x2 x3) := by
  refine h.trans ?_
  unfold State.actTrump
  try dsimp only
  repeat' (first | with_reducible exact Sound.refl _ _ _ | with_reducible assumption | with_reducible apply State.trip_sound | with_reducible apply State.updPos_sound | with_reducible apply State.updStr_sound | with_reducible apply sound_ite | (with_reducible refine sound_foldl _ ?_ ?_; (first | (rintro t ⟨_, _⟩) | intro t _)) | split)

theorem State.handleTrump_sound (x1 x2 x3) (h : Sound m l s u) : Sound m l s (u.handleTrump x1 x2 x3) := by
  refine h.trans ?_
  unfold State.handleTrump
  try dsimp only
  repeat' (first | with_reducible exact Sound.refl _ _ _ | with_reducible assumption | with_reducible apply State.traceTrump_sound | with_reducible apply State.updDealer_sound | with_reducible apply State.updPins_sound | with_reducible apply State.actTrump_sound | with_reducible apply sound_ite | (with_reducible refine sound_foldl _ ?_ ?_; (first | (rintro t ⟨_, _⟩) | intro t _)) | split)

theorem State.handleLifeline_sound (x1 x2) (h : Sound m l s u) : Sound m l s (u.handleLifeline x1 x2) := 
  h.trans (Keeps.sound (G := [.dealer]) ((State.handleLifeline_keeps (by decide) _ _).mpr (Keeps.refl _ _)) (by decide))

theorem State.relayLifeline_sound (x1 x2) (h : Sound m l s u) : Sound m l s (u.relayLifeline x1 x2) := by
  refine h.trans ?_
  unfold State.relayLifeline
  try dsimp only
  repeat' (first | with_reducible exact Sound.refl _ _ _ | with_reducible assumption | with_reducible apply State.discard_sound | with_reducible apply State.updPort_sound | with_reducible apply State.relay_sound | with_reducible apply sound_ite | (with_reducible refine sound_foldl _ ?_ ?_; (first | (rintro t ⟨_, _⟩) | intro t _)) | split)

theorem State.consume_sound (x1 x2 x3 x4) (h : Sound false l s u) : Sound false l s (u.consume x1 x2 x3 x4) := by
  refine h.trans ?_
  unfold State.consume
  try dsimp only
  repeat' (first | with_reducible exact Sound.refl _ _ _ | with_reducible assumption | with_reducible apply State.handleMeld_sound | with_reducible apply State.handleTrump_sound | with_reducible apply State.handleLifeline_sound | with_reducible apply State.handleCall_sound | with_reducible apply State.handleAnswer_sound | with_reducible apply State.handleSealChunk_sound | with_reducible apply State.handleSealConfirm_sound | with_reducible apply State.handleRejoin_sound | with_reducible apply State.handleImageBlock_sound | with_reducible apply State.handleImageStatus_sound | with_reducible apply State.handleLogRequest_sound | with_reducible apply State.handleLogRecords_sound | with_reducible apply sound_ite | (with_reducible refine sound_foldl _ ?_ ?_; (first | (rintro t ⟨_, _⟩) | intro t _)) | split)

theorem State.noteFrame_sound (x1 x2 x3) (h : Sound m l s u) : Sound m l s (u.noteFrame x1 x2 x3) := by
  refine h.trans ?_
  unfold State.noteFrame
  try dsimp only
  repeat' (first | with_reducible exact Sound.refl _ _ _ | with_reducible assumption | with_reducible apply State.noteSeen_sound | with_reducible apply sound_ite | (with_reducible refine sound_foldl _ ?_ ?_; (first | (rintro t ⟨_, _⟩) | intro t _)) | split)

theorem State.take_sound (x1 x2 x3 x4) (h : Sound false l s u) : Sound false l s (u.take x1 x2 x3 x4) := by
  refine h.trans ?_
  unfold State.take
  try dsimp only
  repeat' (first | with_reducible exact Sound.refl _ _ _ | with_reducible assumption | with_reducible apply State.updPort_sound | with_reducible apply State.discard_sound | with_reducible apply State.countDropped_sound | with_reducible apply State.noteFrame_sound | with_reducible apply State.consume_sound | with_reducible apply State.relayLifeline_sound | with_reducible apply State.relay_sound | with_reducible apply sound_ite | (with_reducible refine sound_foldl _ ?_ ?_; (first | (rintro t ⟨_, _⟩) | intro t _)) | split)

theorem State.drain_sound (p n) (h : Sound false l s u) : Sound false l s (State.drain p n u) := by
  induction n generalizing u with
  | zero => exact h
  | succ n ih =>
    unfold State.drain
    dsimp only
    split
    · exact ih (State.updPort_sound _ _ h)
    · split
      · exact h
      · exact ih (State.take_sound _ _ _ _ (State.updPort_sound _ _ h))

theorem State.drainAll_sound (x1) (h : Sound false l s u) : Sound false l s (u.drainAll x1) := by
  refine h.trans ?_
  unfold State.drainAll
  try dsimp only
  repeat' (first | with_reducible exact Sound.refl _ _ _ | with_reducible assumption | with_reducible apply State.drain_sound | with_reducible apply State.updPort_sound | with_reducible apply sound_ite | (with_reducible refine sound_foldl _ ?_ ?_; (first | (rintro t ⟨_, _⟩) | intro t _)) | split)

theorem State.inOrder_sound (x1 x2 x3 x4) (h : Sound false l s u) : Sound false l s (u.inOrder x1 x2 x3 x4) := by
  refine h.trans ?_
  unfold State.inOrder
  try dsimp only
  repeat' (first | with_reducible exact Sound.refl _ _ _ | with_reducible assumption | with_reducible apply State.updPort_sound | with_reducible apply State.drainAll_sound | with_reducible apply State.take_sound | with_reducible apply State.discard_sound | with_reducible apply sound_ite | (with_reducible refine sound_foldl _ ?_ ?_; (first | (rintro t ⟨_, _⟩) | intro t _)) | split)

theorem State.receive_sound (x1 x2 x3 x4) (h : Sound false l s u) : Sound false l s (u.receive x1 x2 x3 x4) := by
  refine h.trans ?_
  unfold State.receive
  try dsimp only
  repeat' (first | with_reducible exact Sound.refl _ _ _ | with_reducible assumption | with_reducible apply State.endFeed_sound | with_reducible apply State.inOrder_sound | with_reducible apply sound_ite | (with_reducible refine sound_foldl _ ?_ ?_; (first | (rintro t ⟨_, _⟩) | intro t _)) | split)

theorem State.receiveCall_sound (x1 x2 x3) (h : Sound false l s u) : Sound false l s (u.receiveCall x1 x2 x3) := by
  refine h.trans ?_
  unfold State.receiveCall
  try dsimp only
  repeat' (first | with_reducible exact Sound.refl _ _ _ | with_reducible assumption | with_reducible apply State.receive_sound | with_reducible apply sound_ite | (with_reducible refine sound_foldl _ ?_ ?_; (first | (rintro t ⟨_, _⟩) | intro t _)) | split)

theorem State.receiveService_sound (x1 x2 x3) (h : Sound false l s u) : Sound false l s (u.receiveService x1 x2 x3) := by
  refine h.trans ?_
  unfold State.receiveService
  try dsimp only
  repeat' (first | with_reducible exact Sound.refl _ _ _ | with_reducible assumption | with_reducible apply State.receive_sound | with_reducible apply sound_ite | (with_reducible refine sound_foldl _ ?_ ?_; (first | (rintro t ⟨_, _⟩) | intro t _)) | split)

theorem State.feedAnswered_sound (x1) (h : Sound m l s u) : Sound m l s (u.feedAnswered x1) := 
  h.trans (Keeps.sound (G := [.portN, .portS]) ((State.feedAnswered_keeps (by decide) _).mpr (Keeps.refl _ _)) (by decide))

theorem State.beaconAtDealer_sound (x1 x2) (h : Sound m l s u) : Sound m l s (u.beaconAtDealer x1 x2) := by
  refine h.trans ?_
  unfold State.beaconAtDealer
  try dsimp only
  repeat' (first | with_reducible exact Sound.refl _ _ _ | with_reducible assumption | with_reducible apply State.raise_sound | with_reducible apply State.updDealer_sound | with_reducible apply sound_ite | (with_reducible refine sound_foldl _ ?_ ?_; (first | (rintro t ⟨_, _⟩) | intro t _)) | split)

theorem State.enterDeal_sound (x1) (h : Sound m l s u) : Sound m l s (u.enterDeal x1) := 
  h.trans (Keeps.sound (G := [.ring, .portN, .portS, .service]) ((State.enterDeal_keeps (by decide) _).mpr (Keeps.refl _ _)) (by decide))

theorem State.copyLock_sound (x) (h : Sound m false s u) : Sound m false s (u.copyLock x) := by
  unfold State.copyLock
  refine State.updNv_sound (fun k => k) ?_ (State.updKeeper_sound ?_ h)
  · exact fun q => nomatch q
  · exact fun q => nomatch q

theorem State.notePosition_sound (h : Sound m l s u) : Sound m l s (u.notePosition) := by
  refine h.trans ?_
  unfold State.notePosition
  try dsimp only
  repeat' (first | with_reducible exact Sound.refl _ _ _ | with_reducible assumption | (with_reducible refine State.updKeeper_sound ?_ ?_; (· (first | with_reducible exact fun _ _ => rfl | with_reducible exact fun _ k => k | (intro _ k; (try dsimp only); (repeat' split) <;> first | with_reducible exact k | rfl)))) | with_reducible apply sound_ite | (with_reducible refine sound_foldl _ ?_ ?_; (first | (rintro t ⟨_, _⟩) | intro t _)) | split)

theorem State.beaconSide_sound (x1 x2 x3) (h : Sound m l s u) : Sound m l s (u.beaconSide x1 x2 x3) := by
  refine h.trans ?_
  unfold State.beaconSide
  try dsimp only
  repeat' (first | with_reducible exact Sound.refl _ _ _ | with_reducible assumption | with_reducible apply State.updRing_sound | with_reducible apply State.takePhase_sound | with_reducible apply sound_ite | (with_reducible refine sound_foldl _ ?_ ?_; (first | (rintro t ⟨_, _⟩) | intro t _)) | split)

theorem State.acceptBeacon_sound (x1 x2 x3) (h : Sound m false s u) : Sound m false s (u.acceptBeacon x1 x2 x3) := by
  refine h.trans ?_
  unfold State.acceptBeacon
  try dsimp only
  repeat' (first | with_reducible exact Sound.refl _ _ _ | with_reducible assumption | with_reducible apply State.enterDeal_sound | with_reducible apply State.updRing_sound | with_reducible apply State.notePosition_sound | with_reducible apply State.beaconSide_sound | with_reducible apply State.copyLock_sound | with_reducible apply State.pendingAtBeacon_sound | with_reducible apply State.takeBaseline_sound | with_reducible apply State.endJobs_sound | with_reducible apply State.stringCommand_sound | (with_reducible refine State.updDev_sound ?_ ?_; (· (first | with_reducible exact fun k => k | with_reducible exact fun _ => rfl | (intro k; (try dsimp only); (repeat' split) <;> first | with_reducible exact k | rfl)))) | with_reducible apply sound_ite | (with_reducible refine sound_foldl _ ?_ ?_; (first | (rintro t ⟨_, _⟩) | intro t _)) | split)

theorem State.relayBeacon_sound (x1 x2) (h : Sound m l s u) : Sound m l s (u.relayBeacon x1 x2) := 
  h.trans (Keeps.sound (G := [.portN, .portS]) ((State.relayBeacon_keeps (by decide) _ _).mpr (Keeps.refl _ _)) (by decide))

theorem State.endBeaconCopy_sound (x1 x2) (h : Sound m l s u) : Sound m l s (u.endBeaconCopy x1 x2) := 
  h.trans (Keeps.sound (G := [.portN, .portS]) ((State.endBeaconCopy_keeps (by decide) _ _).mpr (Keeps.refl _ _)) (by decide))

/-! ### Tick -/

theorem State.tick_sound (h : Sound m l s u) : Sound m l s u.tick := by
  have k : Sound m l s (u.updKeeper (tickKeeper u.running)) :=
    State.updKeeper_sound (fun _ k => k) h
  unfold State.tick
  dsimp only
  refine sound_ite (State.leaveLowest_sound ?_) ?_ <;>
  · refine State.updSafety_sound _ (State.updDev_sound ?_ k)
    intro q
    try dsimp only
    split <;> exact q

end Sys2Proof.Machine
end

