-- ==== Sys2Proof/WellFormed.lean ====
section
/-!
DEFINITION. Which commands are well formed: those whose operands an event of the manual can bring. The meanings are total
and do not rest on these checks.
-/
namespace Sys2Proof

/-- A frame received good under R248: a payload of a length its type allows, an existing source position. -/
def RxFrame.wf (ft : Machine.FrameType) (f : RxFrame) : Bool :=
  ft.lenOk f.payload.length && f.src.toNat ≤ 47

/-- A ROLLCALL or SERVICE frame of the subtype its command names (Tables 9-14, 9-15). -/
def RxFrame.wfSub (ft : Machine.FrameType) (sub : Nat) (f : RxFrame) : Bool :=
  f.wf ft && Machine.subtype f.payload = sub

/-- A ratio of a divider lies between 0 and 1. -/
def ratioWf (r : Rat) : Bool := 0 ≤ r && r ≤ 1

/-- The 13 strap ratios in pin order (R57). -/
def strapsWf (rs : List Rat) : Bool := rs.length = 13 && rs.all ratioWf

/-- One reading per cell of the module. -/
def cellsWf (xs : List Int) : Bool := xs.length = 18

/-- The checks of every command. -/
def Instr.wf : Instr → Bool
  | .beaconReceived _ f _ _ => f.wf .beacon
  | .meldReceived _ f _ => f.wf .meld
  | .trumpReceived _ f => f.wf .trump
  | .lifelineReceived _ f => f.wf .lifeline
  | .call _ f => f.wfSub .rollcall 1
  | .answer _ f => f.wfSub .rollcall 2
  | .sealChunk _ f => f.wfSub .rollcall 3
  | .sealConfirm _ f => f.wfSub .rollcall 4
  | .rejoin _ f => f.wfSub .rollcall 5
  | .imageBlock _ f => f.wfSub .service 1
  | .imageStatus _ f => f.wfSub .service 2
  | .logRequest _ f => f.wfSub .service 3
  | .logRecords _ f => f.wfSub .service 4
  | .controlWordFailed _ w => (Machine.readControl w).isNone
  | .strapLiveRead rho => strapsWf rho
  | .strapLatch _ a b => strapsWf a && strapsWf b
  | .apertureClose r => cellsWf r.primary && cellsWf r.diverse && r.die.length = 4
  | .openWireTestEnd a b c => cellsWf a && cellsWf b && cellsWf c
  | .samplingInstant ntc => ntc.length ≤ 8
  | .l1Reply bytes => bytes.length = 37
  | .l1Read addr => addr ≠ 0
  | .l1ReplyTimeout addr => addr ≠ 0
  | .imageLoad _ _ _ _ blocks => 1 ≤ blocks.length && blocks.length ≤ 16 && blocks.all fun b => b.length = 64
  | .probeDiscovery passes _ => passes.length ≤ 32
  | .canFrameReceived x data => x < 2 ^ 29 && data.length ≤ 8
  | .bistSupplyMonitor mv => mv < 10000
  | _ => true

end Sys2Proof
end

