-- ==== Sys2Proof/Tests/Slice0.lean ====
section
/-!
SUPPORT. Tests: an ill-formed command for each check of `WellFormed`, states that meet the hypotheses of each statement, and
small tests against examples of the manual.
-/
namespace Sys2Proof.Tests
open Sys2Proof Sys2Proof.Machine

/-! ### Devices of TR-24 (Table 3-15) -/

/-- Strap levels in pin order. -/
def levels (ks : List Nat) : List (Option (Fin 32)) := ks.map fun k => some (Fin.ofNat 32 k)

def dealerLevels : List (Option (Fin 32)) := levels [10, 11, 10, 9, 5, 16, 21, 17, 4, 17, 18, 12, 21]
def headLevels : List (Option (Fin 32)) := levels [2, 11, 10, 11, 0, 16, 0, 17, 4, 12, 6, 0, 0]
def handLevels : List (Option (Fin 32)) := levels [1, 11, 10, 10, 0, 16, 0, 17, 0, 0, 0, 0, 0]
/-- A Hand with a legacy tail on Port N: STR_LINK 17, L1 on N and A on S. -/
def tailLevels : List (Option (Fin 32)) := levels [1, 11, 10, 17, 0, 16, 0, 17, 0, 0, 0, 0, 0]

/-- A device in RUN with its straps latched and both ring links up. -/
def device (ls : List (Option (Fin 32))) : State :=
  let s := State.reset
  let s := s.updDev fun d => { d with phase := .run, bootChecked := true, strapped := true, coreStarted := true }
  let s := s.updStraps fun x => { x with latched := ls }
  let s := s.updKeeper fun k => { k with straps := ls, time := 4000000000, pointersLost := false }
  let s := s.updClocks fun c => { c with locked := true }
  (s.updPort .n fun q => { q with up := true }).updPort .s fun q => { q with up := true }

/-- The Dealer of TR-24, its deals running, positions 1 to 23 admitted. -/
def dealer : State :=
  let s := device dealerLevels
  let s := s.updRing fun r => { r with count := 24, deal := 100, dealing := true, closed := true, bitSet := true, admitted := true }
  s.updDealer fun d => { d with
    firstBeacon := false, open_ := true, sent := [1, 2, 3],
    discovery := { d.discovery with done := true, found := 24 },
    positions := d.positions.zipIdx.map fun (p, i) => if 1 ≤ i ∧ i < 24 then { p with state := .inRing } else p }

/-- A device in the ring of TR-24, admitted, deal 100 running. -/
def member (ls : List (Option (Fin 32))) (pos : BitVec 6) : State :=
  (device ls).updRing fun r => { r with
    pos := some pos, latS := some 1000, latN := some 2000, count := 24, deal := 100, dealing := true, closed := true,
    bitSet := true, bitKnown := true, admitted := true, answered := true, beaconAt := 3999999900, gotPrimary := true }

def hand : State := member handLevels 5
def head : State := member headLevels 12
def tail : State := member tailLevels 11

/-- The same device alone: an open chain, no deal yet. -/
def fresh (ls : List (Option (Fin 32))) : State := device ls

/-- A frame of position `src` at the Dealer, or of the Dealer at position `hop`. -/
def frame (src hop : BitVec 6) (ws : List Word) : RxFrame :=
  { src := src, side := if src = 0 then .n else .s, deal := 100, hop := hop, seq := 0, payload := ws, reserve := false,
    forwarding := false }

/-- The checks of `Delivers` (with `c`) and `Reaches`. -/
def arrives (c : Bool) (s : State) (p : Port) (t : FrameType) (f : RxFrame) : Bool :=
  s.hears p && (s.port p).up && !(s.port p).fenced && f.seq == (s.port p).rxNext && (s.port p).heldFrames == [] &&
  (s.port p).heldSkips == [] && s.checksOk t f && (seenOf t f).all (fun x => !fenceHit (s.port p).seen x) &&
  (!c || s.consumes p t f) && s.actsOn t f

theorem reaches_of {s : State} {p : Port} {t : FrameType} {f : RxFrame} (h : arrives false s p t f = true) :
    Reaches s p t f := by
  simp [arrives] at h
  obtain ⟨⟨⟨⟨⟨⟨⟨⟨h1, h2⟩, h3⟩, h4⟩, h5⟩, h6⟩, h7⟩, h8⟩, h10⟩ := h
  exact ⟨h1, h2, h3, h4, h5, h6, h7, by intro x e; simpa [e] using h8, h10⟩

theorem delivers_of {s : State} {p : Port} {t : FrameType} {f : RxFrame} (h : arrives true s p t f = true) :
    Delivers s p t f := by
  simp [arrives] at h
  obtain ⟨⟨⟨⟨⟨⟨⟨⟨⟨h1, h2⟩, h3⟩, h4⟩, h5⟩, h6⟩, h7⟩, h8⟩, h9⟩, h10⟩ := h
  exact ⟨h1, h2, h3, h4, h5, h6, h7, by intro x e; simpa [e] using h8, h9, h10⟩

/-- A frame to send. -/
def outFrame (t : FrameType) : TxFrame := { ftype := t, src := 5, side := .s, deal := 100, hop := 1, payload := [1, 2], slot := none }

/-! ### Witnesses: links and frames -/

/-- A port with TRUMP `f` waiting. -/
def trumpWaits : State := hand.updPort .n fun q => { q with trumpQ := [outFrame .trump] }
def ackDue : State := hand.updPort .n fun q => { q with ackDue := some (.ack 3) }
def fencedPort : State := hand.updPort .n fun q => { q with fenced := true }

theorem witness_FrameBoundarySendsInOrder_controls :
    (ackDue.port .n).up = true ∧ ackDue.deaf .n = false ∧ controlsDue (ackDue.port .n) ≠ [] := by decide
theorem witness_FrameBoundarySendsInOrder_fenced :
    (fencedPort.port .n).up = true ∧ fencedPort.deaf .n = false ∧ controlsDue (fencedPort.port .n) = [] ∧
      (fencedPort.port .n).fenced = true := by decide
theorem witness_FrameBoundarySendsInOrder_trump :
    (trumpWaits.port .n).up = true ∧ trumpWaits.deaf .n = false ∧ controlsDue (trumpWaits.port .n) = [] ∧
      (trumpWaits.port .n).fenced = false ∧ (trumpWaits.port .n).trumpQ = [outFrame .trump] ∧
      (creditFor (trumpWaits.port .n) (outFrame .trump)).isSome = true ∧
      bufferRoom (trumpWaits.port .n) (outFrame .trump) = true := by decide

/-- A frame without acknowledgement, tried `n` times. -/
def sent (n : Nat) : Unacked := { seq := 4, frame := outFrame .meld, tries := n, abandoned := false }
def waiting (n : Nat) : State := hand.updPort .n fun q => { q with unacked := [sent n], txSeq := 5 }
def inLifeline : State :=
  ((hand.updDev fun d => { d with phase := .lifeline }).updLife fun l => { l with awaiting := true, port := .n })

theorem witness_AcknowledgementsAdvance :
    ((waiting 0).dev.phase ≠ .lifeline ∧ (waiting 0).deaf .n = false ∧ ((waiting 0).port .n).up = true) ∧
    (inLifeline.dev.phase = .lifeline ∧ inLifeline.life.awaiting = true ∧ inLifeline.life.port = .n) ∧
    (hand.hears .n = true ∧ (hand.port .n).up = true ∧ (hand.port .n).heldFrames = [] ∧ (hand.port .n).heldSkips = []) := by
  decide

theorem witness_LostFramesAreRepeatedThenSkipped :
    (((waiting 2).port .n).up = true ∧ (sent 2).abandoned = false ∧ meldLate ((waiting 2).port .n) (sent 2).frame = false ∧
      (sent 2).tries < 3 ∧ ((waiting 2).port .n).txFails < 7 ∧ (waiting 2).deaf .n = false ∧
      ((waiting 2).port .n).unacked.find? (fun v => v.seq = (sent 2).seq) = some (sent 2) ∧
      ((waiting 2).port .n).unacked = sent 2 :: []) ∧
    ((waiting 3).faults.length = 18 ∧ ((waiting 3).port .n).up = true ∧ (waiting 3).deaf .n = false ∧
      (sent 3).abandoned = false ∧ meldLate ((waiting 3).port .n) (sent 3).frame = false ∧ 3 ≤ (sent 3).tries ∧
      ((waiting 3).port .n).txFails < 7 ∧
      ((waiting 3).port .n).unacked.find? (fun v => v.seq = (sent 3).seq) = some (sent 3)) := by decide

theorem witness_ControlSymbolsAreTaken :
    hand.deaf .n = false ∧ (hand.port .n).up = true ∧ hand.running = true ∧ hand.faults.length = 18 ∧
      readControl 0x12C1E = none ∧ (readControl 0x12C1F).isSome = true := by decide

def oneBeforeDown : State := hand.updPort .s fun q => { q with fails := 6 }
def badFrame : FailedFrame := { beacon := false, reservedType := false, reserve := false, forwarding := false }

theorem witness_BadFramesAreAnswered :
    oneBeforeDown.faults.length = 18 ∧ (oneBeforeDown.port .s).up = true ∧ oneBeforeDown.deaf .s = false ∧
      (oneBeforeDown.port .s).nakSent = false ∧ badFrame.beacon = false ∧ badFrame.forwarding = false ∧
      badFrame.reservedType = false ∧ (oneBeforeDown.port .s).fails < 7 := by decide

/-- A device whose Port N has no link, after `n` failed trainings. -/
def noLink (n : Nat) : State := hand.updPort .n fun q => { q with up := false, trainFails := n }

theorem witness_LinksComeAndGo :
    ((noLink 2).running = true ∧ ((noLink 2).port .n).heldDown = false ∧ ((noLink 2).port .n).up = false ∧
      ((noLink 2).gen .n).ring = true ∧ 1 ≤ 5 * ((noLink 2).gen .n).reachM ∧ (noLink 2).faults.length = 18 ∧
      2 ≤ ((noLink 2).port .n).trainFails ∧ 5 * ((noLink 2).gen .n).reachM < 5 * ((noLink 2).gen .n).reachM + 1) ∧
    (hand.faults.length = 18 ∧ (hand.port .n).up = true ∧ hand.running = true) := by decide

def relayHolds : State := hand.updPort .n fun q => { q with beaconHeld := some (outFrame .beacon) }
def meldWaits : State := hand.updPort .n fun q => { q with normalQ := [outFrame .meld] }

theorem witness_DelaysAndDeadlines :
    ((relayHolds.port .n).beaconHeld = some (outFrame .beacon) ∧ (relayHolds.gen .n).ring = true ∧
      (relayHolds.port .n).heldDown = false) ∧
    (meldWaits.deals = true ∧ (outFrame .meld) ∈ (meldWaits.port .n).normalQ) := by decide

/-! ### Witnesses: discovery, membership and the deal -/

/-- A Dealer before its discovery, and one whose repeat is due, and one under way. -/
def dealerStart : State := (fresh dealerLevels).updSupply fun x => { x with vaux := true }
def dealerRepeat : State := dealerStart.updDealer fun d => { d with discovery := { d.discovery with repeatDue := true } }
def dealerSweep : State := dealerStart.updDealer fun d => { d with discovery := { d.discovery with active := true } }
def newHand : State := fresh handLevels
def theCall : RxFrame := frame 0 1 (callPayload 63 7 1 true 4 1000)

theorem witness_DiscoveryGivesPositions_start :
    dealerStart.isDealer = true ∧ dealerStart.running = true ∧ dealerStart.supply.vaux = true ∧ dealerStart.dev.fatal = false ∧
      dealerStart.dealer.discovery.active = false ∧ dealerStart.dealer.discovery.done = false ∧
      dealerStart.dealer.discovery.repeatDue = false := by decide
theorem witness_DiscoveryGivesPositions_repeat :
    dealerRepeat.isDealer = true ∧ dealerRepeat.running = true ∧ dealerRepeat.dealer.discovery.repeatDue = true ∧
      dealerSweep.isDealer = true ∧ dealerSweep.running = true ∧ dealerSweep.faults.length = 18 ∧
      dealerSweep.dealer.discovery.active = true := by decide
theorem witness_DiscoveryGivesPositions_call :
    Delivers newHand .s .rollcall theCall ∧ newHand.isDealer = false ∧ newHand.ring.dealing = false ∧ newHand.ring.pos = none ∧
      newHand.dev.fatal = false ∧ subtype theCall.payload = 1 ∧ targetOf theCall.payload = 63 :=
  ⟨delivers_of (by decide), by decide⟩

def theAnswer : RxFrame := frame 5 5 (callWord 2 0 0 :: List.replicate 12 0)
def theRejoin : RxFrame := frame 5 5 (callWord 5 0 0 :: List.replicate 12 0)
/-- A Hand whose REJOIN is due. -/
def outside : State := hand.updRing fun r => { r with admitted := false, bitSet := false, rejoinIn := 0 }

theorem witness_AnswersAndRejoin :
    (Delivers dealerSweep .n .rollcall theAnswer ∧ dealerSweep.isDealer = true ∧ theAnswer.src.toNat ≠ 0 ∧
      theAnswer.src.toNat < dealerSweep.dealer.positions.length ∧ subtype theAnswer.payload = 2 ∧
      dealerSweep.dealer.discovery.active = true) ∧
    (Delivers dealer .n .rollcall theRejoin ∧ dealer.isDealer = true ∧ theRejoin.src.toNat ≠ 0 ∧
      theRejoin.src.toNat < dealer.dealer.positions.length ∧ subtype theRejoin.payload = 5) ∧
    (outside.running = true ∧ outside.isDealer = false ∧ outside.ring.dealing = true ∧ outside.ring.pos.isSome = true ∧
      (outside.latency outside.ring.primary).isSome = true ∧ outside.ring.admitted = false ∧ outside.ring.rejoinIn = 0 ∧
      outside.dev.fatal = false ∧ (outside.port outside.ring.primary).up = true ∧
      (outside.port outside.ring.primary).fenced = false) :=
  ⟨⟨delivers_of (by decide), by decide⟩, ⟨delivers_of (by decide), by decide⟩, by decide⟩

def theMeld : RxFrame := frame 5 5 (List.replicate 20 0)
/-- A MELD of position 30, which is not in the ring. -/
def strayMeld : RxFrame := frame 23 23 (List.replicate 20 0)
def withoutLast : State := dealer.updPos 23 fun p => { p with state := .dummy }
def cellHigh : RxFrame := frame 5 5 (trumpWords 1 9 0 0 0 0)
def heardBefore : State := dealer.updDealer fun d => { d with trumps := [(5, 100, 1, 9)] }

theorem witness_MeldsAndTrumpsAtTheDealer_meld :
    Delivers dealer .n .meld theMeld ∧ dealer.isDealer = true ∧ theMeld.src.toNat < dealer.dealer.positions.length ∧
      meldPart theMeld.payload = 0 ∧ dealer.dealer.open_ = true ∧ theMeld.deal = dealer.ring.deal ∧ theMeld.src.toNat ≠ 0 ∧
      (dealer.pos theMeld.src.toNat).state.isAdmitted = true :=
  ⟨delivers_of (by decide), by decide⟩
theorem witness_MeldsAndTrumpsAtTheDealer_stray :
    Delivers withoutLast .n .meld strayMeld ∧ withoutLast.isDealer = true ∧
      strayMeld.src.toNat < withoutLast.dealer.positions.length ∧
      (withoutLast.pos strayMeld.src.toNat).state.isAdmitted = false :=
  ⟨delivers_of (by decide), by decide⟩
theorem witness_MeldsAndTrumpsAtTheDealer_trump :
    Delivers dealer .n .trump cellHigh ∧ dealer.isDealer = true ∧ cellHigh.src.toNat < dealer.dealer.positions.length ∧
      field (pw cellHigh.payload 0) 17 12 = 1 ∧ (dealer.pos cellHigh.src.toNat).state.isAdmitted = true ∧
      dealer.dealer.trumps.contains (cellHigh.src, cellHigh.deal, 1, field (pw cellHigh.payload 0) 11 7) = false :=
  ⟨delivers_of (by decide), by decide⟩
theorem witness_MeldsAndTrumpsAtTheDealer_again :
    Delivers heardBefore .n .trump cellHigh ∧ heardBefore.isDealer = true ∧
      cellHigh.src.toNat < heardBefore.dealer.positions.length ∧
      field (pw cellHigh.payload 0) 17 12 = 1 ∧ (heardBefore.pos cellHigh.src.toNat).state.isAdmitted = true ∧
      heardBefore.dealer.trumps.contains (cellHigh.src, cellHigh.deal, 1, field (pw cellHigh.payload 0) 11 7) = true :=
  ⟨delivers_of (by decide), by decide⟩

/-- A seal of 24 devices whose factory numbers are their positions. -/
def aSeal : SealRecord :=
  { number := 7, closed := true, l1Count := 0, check := 0,
    entries := (List.range 24).map fun i => { factory := BitVec.ofNat 64 i, fingerprint := [0, 0, 0, 0] } }
/-- The Dealer of a sealed ring with position 5 out of service. -/
def sealedDealer : State := (dealer.updNv fun n => { n with active := some aSeal }).updPos 5 fun p => { p with state := .dummy }
def theReport : RxFrame := frame 5 5 (words16 4 5 ++ [7, 0, 0, 0, 0])

theorem witness_LifelineFramesAtTheDealer :
    (Delivers sealedDealer .n .lifeline theReport ∧ (sealedDealer.gen .n).ring = true ∧ sealedDealer.isDealer = true ∧
      theReport.src.toNat < sealedDealer.dealer.positions.length ∧
      (sealedDealer.sealEntry theReport.src.toNat).any
        (fun e => e.factory.toNat = ofWords16 (theReport.payload.take 4)) = true ∧
      pw theReport.payload 4 = sealedDealer.sealNumber ∧ theReport.src.toNat ≠ 0 ∧
      (sealedDealer.pos theReport.src.toNat).state.isAdmitted = false) ∧
    (Delivers dealer .n .lifeline theReport ∧ (dealer.gen .n).ring = true ∧ dealer.isDealer = true ∧
      theReport.src.toNat < dealer.dealer.positions.length ∧ (dealer.pos theReport.src.toNat).state.isAdmitted = true) :=
  ⟨⟨delivers_of (by decide), by decide⟩, ⟨delivers_of (by decide), by decide⟩⟩

/-- A Dealer whose discovery has just ended. -/
def dealerFound : State := dealer.updDealer fun d => { d with firstBeacon := true, open_ := false }

theorem witness_DealerOpensTheDeal :
    dealerFound.isDealer = true ∧ dealerFound.running = true ∧ dealerFound.dealer.discovery.done = true ∧
      dealerFound.dev.fatal = false ∧ dealerFound.dealer.stopped = false ∧ dealerFound.dev.offTest = false ∧
      (dealerFound.gen .n).ring = true ∧ (dealerFound.port .n).heldDown = false := by decide

def nextBeacon : RxFrame := { frame 0 5 (List.replicate 12 0) with deal := 101 }
def farBeacon : RxFrame := { frame 0 5 (List.replicate 12 0) with deal := 99 }
/-- A Hand that has had the beacon on its other side only, and a String Head that runs with its coils commanded. -/
def missed : State := hand.updRing fun r => { r with gotPrimary := false, gotOther := true }
def drivingHead : State := head.updOutputs fun o => { o with channels := o.channels.modify 0 fun c => { c with command := true } }

theorem witness_BeaconsAreTakenOrMissed_taken :
    hand.isDealer = false ∧ hand.hears .s = true ∧ (hand.port .s).up = true ∧ hand.checksOk .beacon nextBeacon = true ∧
      hand.beaconFits nextBeacon.deal = true ∧ hand.checksOk .beacon farBeacon = true ∧
      hand.beaconFits farBeacon.deal = false := by decide
theorem witness_BeaconsAreTakenOrMissed_missed :
    (missed.running = true ∧ missed.isDealer = false ∧ missed.faults.length = 18 ∧ missed.ring.dealing = true ∧
      missed.ring.closed = true ∧ missed.ring.gotPrimary = false ∧ missed.ring.gotOther = true) ∧
    (drivingHead.running = true ∧ drivingHead.isDealer = false ∧ drivingHead.faults.length = 18 ∧ drivingHead.isHead = true ∧
      drivingHead.dev.fatal = false ∧ drivingHead.ring.dealing = true ∧ drivingHead.coilsOn = true) := by decide

theorem witness_DealsEnd :
    (dealer.isDealer = true ∧ dealer.running = true ∧ dealer.dealer.open_ = true ∧ dealer.dev.fatal = false ∧
      dealer.dev.offTest = false ∧ 23 < dealer.ring.count ∧ 23 < dealer.dealer.positions.length ∧
      (dealer.pos 23).state.isAdmitted = true ∧ (dealer.pos 23).partA = none ∧ (dealer.pos 23).missA < 2 ∧
      (dealer.pos 23).missB < 2 ∧ (dealer.pos 23).fatal = false ∧ (dealer.pos 23).rejoin = none ∧
      (dealer.pos 23).readmit = false) ∧
    (hand.deals = true ∧ hand.dev.offTest = false ∧ hand.isDealer = false ∧ hand.ring.ahead = false ∧
      dealer.deals = true) := by decide

/-! ### Witnesses: measurement, straps, probes, storage watch, L1 -/

def apertureDealer : State := dealer.updMeas fun m => { m with aperture := true }
/-- Cells at 3.5 V, the diverse reading of cell 0 0.0155 V above. -/
def readings : ApertureReadings :=
  { primary := List.replicate 18 70000, diverse := (List.replicate 18 70000).set 0 70310, current := 0, refpA := 0, refpB := 0,
    die := List.replicate 4 25600, vmod32 := 0 }

/-- A Hand with two NTC inputs of type 0 (STR_TEMP 2). -/
def ntcHand : State :=
  ((member (handLevels.set 7 (some 19)) 5).updMeas fun m => { m with aperture := true })

theorem witness_ApertureSamples :
    hand.samples = true ∧
    (ntcHand.running = true ∧ ntcHand.meas.aperture = true ∧ ntcHand.cfg.ntcCount ≤ ntcHand.meas.ntc.length ∧
      1 < ntcHand.cfg.ntcCount ∧ ratioOk (1 / 100) = true ∧ ratioOk (99 / 100) = true ∧ ratioOk (999 / 1000) = false) ∧
    (dealer.running = true ∧ dealer.currentOn = true) := by decide +kernel

theorem witness_ApertureCloseReadsCells :
    apertureDealer.running = true ∧ apertureDealer.meas.aperture = true ∧ apertureDealer.faults.length = 18 ∧
      0 < apertureDealer.cfg.cells ∧ 0 < apertureDealer.meas.primary.length ∧ 0 < apertureDealer.meas.diverse.length ∧
      apertureDealer.bist.taken = 0 ∧
      300 < (codeOf (satCode (readings.primary.getD 0 0)) - codeOf (diverseCode (readings.diverse.getD 0 0))).natAbs ∧
      apertureDealer.isDealer = true ∧ 0 < apertureDealer.dealer.positions.length := by decide +kernel

/-- A wire test under way; `b` tells whether cell 3 was positive before. -/
def wireTest (b : Bool) : State :=
  hand.updMeas fun m => { m with testDeal := true, openPend := m.openPend.set 3 b }
def wirePre : List Int := List.replicate 18 70000
def wireIn : List Int := wirePre.set 3 65999
def wireBad : List Int := wirePre.set 2 69699

theorem witness_OpenWireTestIsJudged :
    ((wireTest true).running = true ∧ (wireTest true).meas.testDeal = true ∧ (wireTest true).faults.length = 18 ∧
      (List.range (wireTest true).cfg.cells).any (recoveryFails wirePre wirePre wireBad) = true) ∧
    ((List.range (wireTest true).cfg.cells).any (recoveryFails wirePre wireIn wirePre) = false ∧
      3 < (wireTest true).cfg.cells ∧ 3 < (wireTest true).meas.opened.length ∧ 4000 < wirePre.getD 3 0 - wireIn.getD 3 0 ∧
      (wireTest true).meas.opened.getD 3 false = false ∧ (wireTest true).meas.openPend.getD 3 false = true) ∧
    ((wireTest false).running = true ∧ (wireTest false).meas.testDeal = true ∧ (wireTest false).faults.length = 18 ∧
      (List.range (wireTest false).cfg.cells).any (recoveryFails wirePre wireIn wirePre) = false ∧
      (wireTest false).meas.opened.getD 3 false = false ∧ (wireTest false).meas.openPend.getD 3 false = false) := by decide +kernel

/-- The ratio in the middle of a level's band (R54). -/
def ratioOf (k : Nat) : Rat := (2 * k + 1) / 64
/-- A live read of a Hand in which STR_BAL reads level 15 where 16 is latched. -/
def liveRead : List Rat := [1, 11, 10, 10, 0, 15, 0, 17, 0, 0, 0, 0, 0].map ratioOf

theorem witness_LiveReadsLeaveTheStraps :
    hand.running = true ∧ hand.dev.strapped = true ∧ hand.dev.offTest = false ∧ hand.faults.length = 18 ∧
      hand.straps.misses.length = 13 ∧ strapInvalid hand.straps.latched 0 = false ∧
      decodeLevel (liveRead.getD 0 0) = hand.straps.latched.getD 0 none ∧ strapInvalid hand.straps.latched 5 = false ∧
      decodeLevel (liveRead.getD 5 0) ≠ hand.straps.latched.getD 5 none := by decide +kernel
theorem witness_LiveReadsLeaveTheStraps_every :
    Instr.mayReset (.strapLiveRead liveRead) = false ∧ (∀ r a b, Instr.strapLiveRead liveRead ≠ .strapLatch r a b) ∧
      ∃ t, exec (.strapLiveRead liveRead) hand = .next t :=
  ⟨by decide, fun _ _ _ => by simp, _, rfl⟩

def wire : State := hand.updProbes fun p => { p with power := true }
/-- A probe wire after discovery with a probe in slot 3. -/
def probed : State :=
  (hand.updProbes fun p => { p with power := true, found := true, frame := true }).updSlot 3 fun x =>
    { x with ident := some 77, assigned := true, state := .valid, misses := 2, judged := none }

theorem witness_ProbeWireIsWatched :
    (wire.faults.length = 18 ∧ wire.awake = true ∧ wire.probes.power = true ∧ wire.probes.found = false) ∧
    (probed.faults.length = 18 ∧ probed.awake = true ∧ probed.probes.power = true ∧ (probed.slot 3).assigned = true) := by
  decide +kernel

theorem witness_ProbeFrameIsJudged :
    (probed.samples = true ∧ probed.probes.power = true ∧ probed.probes.found = true) ∧
    (probed.faults.length = 18 ∧ probed.probes.frame = true ∧ (probed.slot 3).ident.isSome = true ∧
      (none : Option (BitVec 32)).any (slotGood 3 (probed.slot 3).first) = false ∧ (probed.slot 3).state ≠ .lost ∧
      (some 0x319000D6#32).any (slotGood 3 (probed.slot 3).first) = true) := by decide +kernel

/-- A Hand in STORAGE with a watch every six hours. -/
def stored : State :=
  ((hand.updDev fun d => { d with phase := .storage }).updKeeper fun k =>
    { k with straps := handLevels.set 4 (some 2), slotVerified := true })
/-- A watch at a module voltage; the cells far above their limit. -/
def watchAt (mv : Nat) : WatchReadings :=
  { vmodMv := mv, primary := List.replicate 18 100000, diverse := List.replicate 18 100000, ntc := [], die := 25600, probes := [] }

theorem witness_StorageWatchRunsOrIsSkipped :
    stored.dev.phase = .storage ∧ stored.kept.watch.isSome = true ∧ stored.keeper.slotVerified = true := by decide +kernel
theorem witness_StorageWatchRunsOrIsSkipped_range : 8199 < buckStartMv ∧ buckStartMv ≤ 8800 := by
  unfold buckStartMv
  split
  · decide
  · split <;> omega

/-- A good reply of the L1 device at address 2. -/
def reply : List Byte :=
  let body : List Byte := [0x5A, 0x02] ++ List.replicate 33 0
  body ++ bytesBE 2 (crc16 body).toNat
/-- A translator that has had the device at address 2 and missed it once. -/
def tailKnows : State := tail.updDealer fun d => { d with l1 := d.l1.modify 1 fun x => { x with present := true, misses := 1 } }

theorem witness_L1TailIsRead :
    tail.translates = true ∧ (2 : BitVec 4) ≠ 0 ∧
    (l1ReplyOk reply = true ∧ (reply.getD 1 0).toNat ≠ 0 ∧ (reply.getD 1 0).toNat ≤ 15 ∧
      (reply.getD 1 0).toNat ≤ tailKnows.dealer.l1.length ∧
      (tailKnows.dealer.l1.getD ((reply.getD 1 0).toNat - 1) L1Device.none).absent = false ∧ tailKnows.translates = true) ∧
    (tailKnows.faults.length = 18 ∧ tailKnows.l1Known 1 = true ∧
      1 ≤ (tailKnows.dealer.l1.getD 1 L1Device.none).misses ∧
      (tailKnows.dealer.l1.getD 1 L1Device.none).absent = false) := by decide +kernel

/-! ### Witnesses: supplies, resets, boot, clocks, memories -/

def inPhase (p : Phase) (s : State) : State := s.updDev fun d => { d with phase := p }
def resetAsked : State := hand.updDev fun d => { d with resetPending := true }

theorem witness_PartResetsAndBoots :
    (hand.awake = true ∧ hand.dev.watchdog = true) ∧ (inPhase .held hand).dev.phase = .held ∧
    resetAsked.dev.resetPending = true ∧ (inPhase .lifeline hand).dev.phase = .lifeline ∧
    (inPhase .off hand).dev.phase = .off ∧ (inPhase .storage hand).dev.phase = .storage ∧
    (inPhase .held dealer).kept.role = .dealer := by decide

def dimming (good : Bool) : State := hand.updLife fun l => { l with good := good }
/-- A device in STORAGE with a carrier on Port N. -/
def awaited : State := ((inPhase .storage hand).updPort .n fun q => { q with up := false }).updLife fun l => { l with good := true }
def leaving : State := hand.updDev fun d => { d with entering := true }

theorem witness_SupplyDecidesThePhase :
    ((dimming true).supply.buck = true ∧ (dimming true).supply.fromVaux = false ∧ (dimming false).supply.buck = true ∧
      (dimming false).supply.fromVaux = false) ∧
    (awaited.dev.phase = .storage ∧ detects awaited.kept .n = true ∧ awaited.kept.role ≠ .dealer ∧
      keptGen awaited.kept .s = .b ∧ awaited.life.good = true) ∧
    (leaving.running = true ∧ leaving.dev.entering = true ∧ leaving.dev.wakePending = none) := by decide

def withVaux : State := dealer.updSupply fun x => { x with vaux := true }
def closedPack : State := dealer.updServices fun v => { v with pack := .closed }

theorem witness_VauxAndKeeperSupply_vaux :
    ((inPhase .storage dealer).kept.role = .dealer ∧ (inPhase .storage dealer).dev.phase = .storage) ∧
    (withVaux.supply.vaux = true ∧ withVaux.kept.role = .dealer ∧ withVaux.faults.length = 18 ∧ withVaux.awake = true) ∧
    (dealer.isDealer = true ∧ dealer.running = true ∧ dealer.supply.vaux = false ∧ dealer.dev.entering = false ∧
      dealer.services.pack = .opened) ∧
    (closedPack.isDealer = true ∧ closedPack.running = true ∧ closedPack.supply.vaux = false ∧
      closedPack.dev.entering = false ∧ closedPack.services.pack ≠ .opened ∧ closedPack.core = true ∧
      closedPack.deals = true) := by decide
theorem witness_VauxAndKeeperSupply_keeper :
    (nextSource hand.keeper.source 0 3600 0 true = some .lfs ∧ hand.keeper.source ≠ .bkup) ∧
    nextSource hand.keeper.source 0 0 3000 true = some .bkup ∧ nextSource hand.keeper.source 0 0 0 true = none := by decide

def booting : State := (State.reset.updDev fun d => { d with bootChecked := true })
def bootStrapped : State := (inPhase .boot hand).updKeeper fun k => { k with lockout := true }
def ratios : List Rat := [1, 11, 10, 10, 31, 16, 0, 17, 0, 0, 0, 0, 0].map ratioOf
def romGood : BootReads := { romOk := true, keyRatio := 0 }
/-- A boot with no image in either slot. -/
def noImage : State := bootStrapped.updNv fun n => { n with shipped := false }

theorem witness_BootEndsInRun :
    (booting.dev.phase = .boot ∧ booting.faults.length = 18 ∧ booting.dev.strapped = false ∧
      strapInvalid ((List.range 13).map fun i => latchLevel (ratios.getD i 0) (ratios.getD i 0)) 4 = true) ∧
    (bootStrapped.dev.phase = .boot ∧ bootStrapped.faults.length = 18 ∧ bootStrapped.dev.strapped = true ∧
      bootStrapped.keeper.lockout = true) ∧
    (noImage.dev.phase = .boot ∧ noImage.dev.strapped = true ∧ noImage.returnToken = false ∧ noImage.bootSlot = none) := by
  decide +kernel

def alerted : State := hand.updSupply fun x => { x with alerts := [true, false, false, false] }

def heldLowest : State := alerted.updSupply fun v => { v with lowest := true, lowestHeld := true }

theorem witness_AlertsMakeTheLowestState :
    (hand.running = true ∧ hand.faults.length = 18 ∧ 0 < hand.supply.alerts.length ∧ hand.supply.alerts.getD 0 false = false ∧
      hand.supply.alerts.getD (alertIndex (some .vmodLow)) false = false ∧
      alertIndex (some .vmodLow) < hand.supply.alerts.length ∧
      ¬ (BuckAlert.vmodLow = .vmodLow ∧ hand.supply.fromVaux = true) ∧ hand.supply.lowest = false) ∧
    (alerted.supply.alerts.getD (alertIndex none) false = true ∧ alerted.running = true ∧ alerted.faults.length = 18 ∧
      alerted.supply.alerts.any id = true) := by decide
theorem witness_AlertsMakeTheLowestState_held :
    Instr.mayReset .checkIn = false ∧ heldLowest.supply.lowest = true ∧ heldLowest.supply.lowestHeld = true ∧
      ∃ t, exec .checkIn heldLowest = .next t :=
  ⟨by decide, by decide, by decide, _, rfl⟩

def silentCore : State := hand.updDev fun d => { d with checkMiss := 1 }
def unlocked : State := hand.updClocks fun c => { c with locked := false }
def clkinDealer : State := dealer.updClocks fun c => { c with clkin := true }

theorem witness_CoreAndClocksAreWatched :
    (hand.running = true ∧ hand.core = true) ∧
    (silentCore.running = true ∧ silentCore.core = true ∧ silentCore.dev.checkedIn = false ∧ 1 ≤ silentCore.dev.checkMiss ∧
      silentCore.faults.length = 18) ∧
    ((fresh handLevels).awake = true ∧ (fresh handLevels).deals = false) ∧
    (hand.awake = true ∧ hand.testing [11, 12] = false ∧ hand.dev.fatal = false ∧ hand.faults.length = 18 ∧
      hand.dev.offTest = false ∧ hand.clocks.locked = true) ∧
    (((242400 : Nat) : Int) - safeNominal).natAbs ≤ 2400 ∧ 4800 < (((244801 : Nat) : Int) - safeNominal).natAbs ∧
    (clkinDealer.awake = true ∧ clkinDealer.faults.length = 18 ∧ clkinDealer.clocks.clkin = true) := by decide
theorem witness_CoreAndClocksAreWatched_calibration (ppm : Int) :
    (ppm + 20000 - ppm).natAbs ≤ 20000 ∧ 20000 < (ppm + 20001 - ppm).natAbs := by omega

theorem witness_MemoryErrorsAreContained :
    hand.awake = true ∧ hand.faults.length = 18 ∧ hand.dev.fatal = false := by decide

/-- A reaction of MEAS outside deals. -/
def reaction : Reaction := { bit := 2, cls := .u, deal := 0, started := 0, untilReset := false }
def reacting : State := (fresh handLevels).updBlock .meas fun b => { b with sticky := 4, reaction := some reaction }
def newImage : State := hand.updNv fun n => { n with committed := true }

theorem witness_ReactionEnergyAndFuses :
    (reacting.faults.length = 18 ∧ reacting.awake = true ∧ reacting.deals = false ∧ reacting.core = true ∧
      (faultOf reacting.faults .meas).reaction = some reaction ∧ reaction.untilReset = false ∧ reacting.logs.queue.length < 64) ∧
    hand.supply.buck = true ∧
    (newImage.running = true ∧ newImage.core = true ∧ newImage.nv.committed = true ∧ newImage.has .raivo 8 = false) := by decide

/-! ### Witnesses: lifeline -/

/-- A Hand whose Port N is of generation A and has no link (STR_LINK 6). -/
def feeder : State := (member (handLevels.set 3 (some 6)) 23).updPort .n fun q => { q with up := false }
def feeding : State := feeder.updPort .n fun q => { q with feed := { Feed.off with active := true } }
def feedWaits : State := feeder.updPort .n fun q => { q with feed := { Feed.off with waiting := true } }
/-- A device in STORAGE that has noted a carrier. -/
def carried : State := (inPhase .storage hand).updPort .n fun q => { q with carrierSeen := true }

theorem witness_HarvesterAndFeeds :
    hand.life.regulated = false ∧ (hand.updLife fun l => { l with regulated := true }).life.regulated = true ∧
    (carried.dev.phase = .storage ∧ carried.portN.carrierSeen = true) ∧ (inPhase .lifeline hand).dev.phase = .lifeline ∧
    ((feeder.port .n).feed.active = false ∧ (feeder.port .n).feed.suspended = false ∧ (feeder.port .n).feed.waiting = false ∧
      feeder.mayFeed .n = true ∧ feeder.supply.lowest = false) ∧
    ((feedWaits.port .n).feed.waiting = true ∧ feedWaits.mayFeed .n = true) ∧ (feeding.port .n).feed.active = true := by
  decide

/-- A sealed Hand in LIFELINE, at position 1 of two devices. -/
def twoSealed : SealRecord :=
  { aSeal with entries := [{ factory := Config.factoryNumber + 1, fingerprint := [0, 0, 0, 0] },
                           { factory := Config.factoryNumber, fingerprint := [0, 0, 0, 0] }] }
def reporter : State :=
  ((inPhase .lifeline hand).updNv fun n => { n with active := some twoSealed }).updLife fun l => { l with port := .s, good := true }
def twiceUnheard : State := reporter.updLife fun l => { l with awaiting := true, unacked := 2 }
def heldBack : State := reporter.updLife fun l => { l with heldBack := true }
def lifeReads (mv : Nat) : LifelineReadings :=
  { lfsMv := mv, vmodMv := 7000, diverse := List.replicate 18 50000, die := 25600, carrierN := false, carrierS := true }

theorem witness_LifelineReportsLeave_sealed : reporter.sealedPosition = some 1 := by
  have h : reporter.nv.active = some twoSealed := rfl
  simp [State.sealedPosition, h, twoSealed, List.findIdx?_cons]
theorem witness_LifelineReportsLeave :
    (reporter.dev.phase = .lifeline ∧ reporter.kept.role ≠ .dealer ∧ (lifeReads 3599).lfsMv < 3600 ∧
      3600 ≤ (lifeReads 3600).lfsMv ∧ reporter.life.awaiting = false ∧ (keptGen reporter.kept reporter.life.port).ring = true) ∧
    (twiceUnheard.dev.phase = .lifeline ∧ twiceUnheard.life.awaiting = true ∧ twiceUnheard.life.unacked = 2 ∧
      (keptGen twiceUnheard.kept twiceUnheard.life.port.other).ring = true) ∧
    (heldBack.dev.phase = .lifeline ∧ heldBack.life.heldBack = true) ∧
    (dealer.isDealer = true ∧ (5 : BitVec 6).toNat < dealer.dealer.positions.length) := by decide

/-! ### Witnesses: outputs, safety function, LOCK_CLR and sealing -/

def withChan (s : State) (i : Nat) (f : Channel → Channel) : State :=
  s.updOutputs fun o => { o with channels := o.channels.modify i f }
/-- A Dealer whose heater (OC4) or first coil stands in a stage, commanded. -/
def stagedAt (i : Nat) (x : ChanStage) : State := withChan dealer i fun c => { c with command := true, stage := x }

theorem witness_ChannelsConduct :
    (((stagedAt 3 .pumpWait).chan 3).stage = .pumpWait ∧ ((stagedAt 3 .pumpWait).chan 3).command = true ∧
      (stagedAt 3 .pumpWait).gateAllowed 3 = true) ∧
    (chanRole (stagedAt 0 .opening).cfg 0 = .coil ∧ ((stagedAt 0 .opening).chan 0).stage = .opening) ∧
    (chanRole (stagedAt 3 .opening).cfg 3 ≠ .coil ∧ ((stagedAt 3 .opening).chan 3).stage = .opening) ∧
    (((stagedAt 3 .retryWait).chan 3).stage = .retryWait ∧ ((stagedAt 3 .retryWait).chan 3).command = true) ∧
    (((stagedAt 0 (.dipped false)).chan 0).stage = .dipped false ∧ chanRole (stagedAt 0 (.dipped false)).cfg 0 = .coil) ∧
    (((stagedAt 3 (.dipped true)).chan 3).stage = .dipped true ∧ ((stagedAt 3 (.dipped true)).chan 3).command = true ∧
      chanRole (stagedAt 3 (.dipped true)).cfg 3 ≠ .coil ∧ (stagedAt 3 (.dipped true)).supply.lowest = false ∧
      (stagedAt 3 (.dipped true)).faults.length = 18 ∧
      (150000 < windowUs (chanRole (stagedAt 3 (.dipped true)).cfg 3) ∧
        windowUs (chanRole (stagedAt 3 (.dipped true)).cfg 3) < 2 * 150000) ∧
      ¬ (windowUs (chanRole (stagedAt 3 (.dipped true)).cfg 3) < 2 * 100000)) := by decide
def vswOut : State := (stagedAt 3 .held).updOutputs fun o => { o with vswOk := false }
theorem witness_ChannelsConduct_vsw :
    vswOut.outputs.vswOk = false ∧ (vswOut.chan 3).stage = .held ∧ (vswOut.chan 3).command = true ∧
      { vswOut with outputs := { vswOut.outputs with vswOk := true } }.mayTurnOn 3 = true := by decide

/-- A heater over its current again within 60 s, or for the first time. -/
def overAgain : State := withChan (stagedAt 3 .steady) 3 fun c => { c with overAt := some 3999990000 }
def pumping (n : Nat) : State := (stagedAt 3 .steady).updOutputs fun o =>
  { o with pumps := o.pumps.modify 1 fun p => { p with running := true, dips := List.replicate n 3999999999 } }

theorem witness_OutputsAreProtected_channel :
    (dealer.faults.length = 18 ∧ dealer.running = true) ∧
    (((stagedAt 0 .steady).chan 0).fenced = false ∧ ((stagedAt 0 .steady).chan 0).isOn = true) ∧
    (((stagedAt 3 .opening).chan 3).stage = .opening ∧ chanRole (stagedAt 3 .opening).cfg 3 ≠ .coil) ∧
    ((overAgain.chan 3).stage = .steady ∧ (overAgain.chan 3).overAt = some 3999990000 ∧
      overAgain.passed 3999990000 60000 = false) ∧
    (((stagedAt 3 .steady).chan 3).overAt = none ∧ chanRole (stagedAt 3 .steady).cfg 3 ≠ .coil) ∧
    (((stagedAt 0 .steady).chan 0).stage = .steady ∧ chanRole (stagedAt 0 .steady).cfg 0 = .coil) ∧
    ((dealer.chan 3).command = false ∧ (dealer.chan 3).isOn = false ∧ chanRole dealer.cfg 3 ≠ .none ∧
      3 < dealer.outputs.channels.length) := by decide
theorem witness_OutputsAreProtected_pump :
    (((pumping 1).outputs.pumps.getD 1 Pump.reset).running = true ∧ 3 < (pumping 1).outputs.channels.length ∧
      (((pumping 1).outputs.pumps.getD 1 Pump.reset).dips.filter fun x => !(pumping 1).passed x 1000).length < 2 ∧
      ((pumping 1).chan 3).isOn = true) ∧
    (2 ≤ (((pumping 2).outputs.pumps.getD 1 Pump.reset).dips.filter fun x => !(pumping 2).passed x 1000).length ∧
      ((pumping 2).outputs.pumps.getD 1 Pump.reset).running = true) ∧
    (dealer.outputs.vswOk = true ∧ dealer.running = true ∧ dealer.isDealer = true) := by decide

def loopsClosed (s : State) : State := s.updSafety fun f => { f with openA := false, openB := false }
def badSource : State := (loopsClosed dealer).updSafety fun f => { f with srcA := 1 }
def crossed : State := (loopsClosed dealer).updSafety fun f => { f with crossA := 1, halfA := some true }
/-- A String Head of an open chain that uses the interlock, with a channel open. -/
def openHead : State := head.updRing fun r => { r with closed := false }

theorem witness_InterlockIsSampled :
    ((loopsClosed dealer).interlockRuns = true ∧ (loopsClosed dealer).loopOpen .a = false) ∧
    (dealer.interlockRuns = true ∧ dealer.loopOpen .a = true) ∧
    (badSource.interlockRuns = true ∧ badSource.faults.length = 18 ∧ badSource.safety.srcA = 1 ∧
      badSource.safety.srcFault = false ∧ badSource.safety.crossShort = false) ∧
    (crossed.interlockRuns = true ∧ crossed.faults.length = 18 ∧ crossed.safety.crossA = 1 ∧
      crossed.safety.halfA = some true ∧ crossed.judged .a = true) ∧
    (openHead.running = true ∧ openHead.isHead = true ∧ openHead.usesInterlock = true ∧ openHead.interlockWord ≠ 0 ∧
      openHead.ring.bitSet = true ∧ openHead.dev.fatal = false ∧ openHead.closedRing = false ∧
      (openHead.port openHead.ring.primary).up = true ∧ (openHead.port openHead.ring.primary).fenced = false) := by decide

def qualified : State :=
  ((loopsClosed dealer).updSafety fun f => { f with qualified := true }).updKeeper fun k => { k with demand := true }
def degrading : State := dealer.updSafety fun f => { f with running := true }

theorem witness_DemandTestAndDegradedTimer :
    (qualified.interlockRuns = true ∧ qualified.interlockClosed = true ∧ qualified.safety.qualified = true ∧
      qualified.keeper.demand = true) ∧
    (dealer.running = true ∧ dealer.usesInterlock = true) ∧
    (degrading.running = true ∧ degrading.isDealer = true ∧ degrading.safety.running = true ∧
      degrading.safety.expired = false ∧ degrading.dev.fatal = false) ∧
    (dealer.isDealer = true ∧ dealer.safety.running = false) := by decide

/-- A Dealer of two devices that are well: STR_ROLE 9 (one string), its Hand admitted and heard. -/
def handAnswer : Answer :=
  { factory := 9, print := fingerWords [1, 11, 10, 10, 0, 16, 0, 17, 0, 0, 0, 0, 0], sealNo := 0, sealChk := 0, l1 := 0,
    sfault := false, smism := false, pside := 0, cause := 0 }
def small : State :=
  let s := dealer.updStraps fun x => { x with latched := dealerLevels.set 0 (some 9) }
  let s := s.updRing fun r => { r with count := 2 }
  let s := s.updDealer fun d => { d with
    discovery := { d.discovery with found := 2 },
    positions := (List.replicate 48 PosInfo.vacant).modify 1 fun p =>
      { p with state := .inRing, answer := some (handAnswer.words 2) } }
  s.updMeas fun m => { m with primary := List.replicate 18 70000, diverse := List.replicate 18 70000 }
def pressed (s : State) : State := s.updSafety fun f => { f with pressed := true }
def keyIn (s : State) : State := s.updStraps fun x => { x with keyRead := true }
/-- A Dealer alone, its cells within the limits. -/
def alone : State := (small.updRing fun r => { r with count := 1 }).updDealer fun d =>
  { d with positions := List.replicate 48 PosInfo.vacant }

theorem witness_LockoutIsCleared :
    ((pressed alone).running = true ∧ (pressed alone).isDealer = true ∧ (pressed alone).safety.pressed = true ∧
      (pressed alone).dev.fatal = false ∧ (pressed alone).straps.keyRead = false) ∧
    (pressed alone).clearVerdict 500 = 0 ∧ (pressed alone).clearVerdict 3000 = 0 ∧ (pressed alone).clearVerdict 499 ≠ 0 ∧
    (pressed alone).clearVerdict 3001 ≠ 0 := by decide +kernel


/-- A seal of two devices, and its only chunk. -/
def newRecord : SealRecord :=
  let r := { aSeal with number := 8, entries := [{ factory := 3, fingerprint := [1, 2, 3, 4] },
    { factory := 9, fingerprint := [5, 6, 7, 8] }] }
  { r with check := sealCheck r }
def chunk : RxFrame := frame 0 5 (chunkPayload newRecord 0)
def confirm : RxFrame :=
  frame 1 1 [callWord 4 0 0, 8, (checkWords newRecord.check).1, word (checkWords newRecord.check).2, 0]
def sealingNow : Sealing := { record := newRecord, chunk := 1, confirmed := [], committed := false, announced := false }
def confirming : State := small.updDealer fun d => { d with sealing := some sealingNow }

theorem witness_SealingRuns_start :
    ((pressed (keyIn small)).running = true ∧ (pressed (keyIn small)).isDealer = true ∧
      (pressed (keyIn small)).safety.pressed = true ∧ (pressed (keyIn small)).dev.fatal = false ∧
      (pressed (keyIn small)).straps.keyRead = true ∧ (pressed (keyIn small)).dealer.sealing = none ∧
      (pressed (keyIn small)).sealFails = none ∧ 2 ≤ (pressed (keyIn small)).dealer.discovery.found) ∧
    (pressed (keyIn dealer)).sealFails ≠ none := by decide +kernel
theorem witness_SealingRuns_chunk :
    Reaches hand .s .rollcall chunk ∧ subtype chunk.payload = 3 ∧ hand.isDealer = false ∧
      takeChunk hand.ring.sealBuf chunk.payload = some newRecord ∧ hand.ring.sealBuf ≠ some newRecord ∧
      newRecord.entries.length = field (pw chunk.payload 2) 17 12 ∧ hand.judgeSeal newRecord ≠ 2 :=
  ⟨reaches_of (by decide +kernel), by decide +kernel⟩
theorem witness_SealingRuns_confirm :
    Delivers confirming .n .rollcall confirm ∧ subtype confirm.payload = 4 ∧ confirming.isDealer = true ∧
      confirming.dealer.sealing = some sealingNow ∧ sealingNow.committed = false ∧
      pw confirm.payload 1 = sealingNow.record.number ∧
      ofCheckWords (pw confirm.payload 2) (pw confirm.payload 3) = sealingNow.record.check ∧ pw confirm.payload 4 = 0 ∧
      sealingNow.confirmed.contains confirm.src.toNat = false ∧
      Sealing.complete { sealingNow with confirmed := sealingNow.confirmed ++ [confirm.src.toNat] } = true ∧
      confirming.running = true ∧ hand.running = true ∧ hand.isDealer = false :=
  ⟨delivers_of (by decide +kernel), by decide +kernel⟩

/-! ### Witnesses: self-test -/

/-- A Hand whose turn it is to run slice `k`, with `d` segments done. -/
def slicing (k d : Nat) (on again : Bool) : State :=
  hand.updBist fun b => { b with slice := k, done := d, running := on, again := again, started := some 3999000000 }

theorem witness_SelfTestAndMemoryTest_segment :
    ((slicing 10 0 false false).rolling = true ∧ (slicing 10 0 false false).bist.running = false ∧
      1 ≤ (slicing 10 0 false false).bist.slice ∧ (slicing 10 0 false false).bist.slice ≤ 24 ∧
      (slicing 10 0 false false).sliceRuns (slicing 10 0 false false).bist.slice = true ∧
      (slicing 10 0 false false).bist.lastDeal ≠ some (slicing 10 0 false false).bistDeal ∧
      (slicing 10 0 false false).bist.restDeal ≠ some (slicing 10 0 false false).bistDeal ∧
      (slicing 10 0 false false).r565 = true ∧ (slicing 10 0 false false).supply.lowest = false ∧
      (slicing 10 0 false false).windowOpen = true) := by decide
theorem witness_SelfTestAndMemoryTest_window :
    let s := (slicing 4 0 false false).updMeas fun m => { m with aperture := true, deal := 102 }
    s.rolling = true ∧ s.bist.running = false ∧ s.sliceRuns s.bist.slice = true ∧ s.bist.lastDeal ≠ some s.bistDeal ∧
      s.bist.restDeal ≠ some s.bistDeal ∧ s.wireTestDeal s.bistDeal = false ∧ s.r565 = true ∧ s.windowOpen = true ∧
      s.bist.slice ≤ 5 := by decide
theorem witness_SelfTestAndMemoryTest_end :
    ((slicing 23 0 true false).bist.running = true ∧
      (slicing 23 0 true false).bist.done + 1 < sliceSegments (slicing 23 0 true false).bist.slice) ∧
    ((slicing 1 39 true true).bist.running = true ∧
      sliceSegments (slicing 1 39 true true).bist.slice ≤ (slicing 1 39 true true).bist.done + 1 ∧
      (slicing 1 39 true true).dev.fatal = false ∧ (slicing 1 39 true true).sliceFatal 1 = true ∧
      (slicing 1 39 true true).faults.length = 18) ∧
    (sliceSegments 15 ≤ (slicing 15 99 true true).bist.done + 1 ∧ (slicing 15 99 true true).sliceFatal 15 = false) ∧
    ((slicing 1 0 true false).running = true ∧ (slicing 1 0 true false).bist.started.isSome = true ∧
      (slicing 1 0 true false).bist.overdue = false ∧ (slicing 1 0 true false).dev.fatal = false) := by decide
theorem witness_SelfTestAndMemoryTest_memory :
    bootStrapped.dev.phase = .boot ∧ bootStrapped.dev.strapped = true ∧ bootStrapped.faults.length = 18 ∧
      bootStrapped.spares 7 = 2 ∧ [0, 0, 0, 0, 0, 0, 1, 3].getD 6 0 ≤ bootStrapped.spares 6 ∧
      bootStrapped.spares 7 < [0, 0, 0, 0, 0, 0, 1, 3].getD 7 0 := by decide

def asked (s : State) : State := s.updBist fun b => { b with pressed := true }
def offline (full : Bool) : State :=
  (hand.updDev fun d => { d with offTest := true }).updBist fun b => { b with full := full }
/-- A part in TEST with two words of results. -/
def inTest (n : Nat) : State :=
  (hand.updNv fun v => { v with lifeCycle := .test, resultBlock := [0x80000000, 1] }).updService fun x => { x with shifted := n }

/-- A Hand without a ring. -/
def idleHand : State := fresh handLevels

theorem witness_OfflineSelfTestRuns :
    (hand.running = true ∧ hand.dev.offTest = false) ∧
    ((asked idleHand).bist.pressed = true ∧ (asked idleHand).running = true ∧ (asked idleHand).dev.offTest = false ∧
      (asked idleHand).dev.fatal = false ∧ (asked idleHand).nv.lifeCycle = .field ∧ (asked idleHand).testAllowed = true ∧
      (asked idleHand).clocks.safeOk = true ∧ (asked idleHand).clocks.v3dOk = true) ∧
    ((asked hand).bist.pressed = true ∧ (asked hand).testAllowed = false ∧ (asked hand).faults.length = 18) ∧
    ((offline true).dev.offTest = true ∧ (offline true).r565 = true ∧
      ((offline true).updClocks fun c => { c with locked := false }).r565 = false) ∧
    ((inTest 63).fullTests = true ∧ (inTest 63).pins.driven = true ∧ (inTest 63).nv.resultBlock ≠ [] ∧
      (inTest 63).service.shifted < 32 * (inTest 63).nv.resultBlock.length ∧
      32 * (inTest 64).nv.resultBlock.length ≤ (inTest 64).service.shifted) := by decide

/-! ### Witnesses: balancing and the fan -/

/-- A Hand with cells at 3.5 V whose bleed switch of cell 2 is closed, with trips, low and leaking deals behind it. -/
def bleeding (on : Bool) : State :=
  ((hand.updMeas fun m => { m with primary := List.replicate 18 70000, diverse := List.replicate 18 70000 }).updRing fun r =>
    { r with deals := 1 }).updBalance fun b =>
    { b with leakAt := b.leakAt.set 2 (some 0), lowAt := b.lowAt.set 2 (some 0), closed := b.closed.set 2 on, trips := b.trips.set 2 [0, 0], lowRun := b.lowRun.set 2 1, leakRun := b.leakRun.set 2 1 }

theorem witness_PassiveBanksAreProtected :
    ((bleeding true).faults.length = 18 ∧ 2 < (bleeding true).balance.fenced.length ∧ 2 < (bleeding true).balance.tripped.length ∧
      2 < (bleeding true).balance.lowRun.length ∧ 2 < (bleeding true).balance.leakRun.length) ∧
    ((bleeding true).balance.closed.getD 2 false = true ∧ (bleeding true).balance.tripped.getD 2 false = false ∧
      (bleeding true).meas.pause = false ∧
      2 ≤ (((bleeding true).balance.trips.getD 2 []).filter fun d => (bleeding true).ring.deals < d + 64).length) ∧
    ((((0 : Nat) : Rat) < (bleeding true).cellMv 2 * 400 / (((bleeding true).cfg.bleedOhm : Rat) + 3)) ∧
      (bleeding true).balance.lowRun.getD 2 0 = 1 ∧ (bleeding true).balance.lowAt.getD 2 none ≠ some (bleeding true).ring.deals ∧
      (bleeding true).cellMv 2 * 400 / (((bleeding true).cfg.bleedOhm : Rat) + 3) ≤ ((100000 : Nat) : Rat)) ∧
    ((bleeding false).balance.closed.getD 2 false = false ∧ (bleeding false).running = true ∧
      (bleeding false).balance.leakRun.getD 2 0 = 1 ∧ (bleeding false).balance.fenceA = false ∧
      (bleeding false).balance.leakAt.getD 2 none = some ((bleeding false).ring.deals - 1) ∧ 0 < (bleeding false).ring.deals) ∧
    ((hand.updDev fun d => { d with coreFenced := true }).core = false) := by decide +kernel

def aJob : Job := { cell := 3, unit := .active, discharge := true, startTick := 0, startEnergy := 0 }
/-- A Hand with an active job whose converter stands in a stage. -/
def converting (x : ConvStage) : State :=
  hand.updBalance fun b => { b with jobs := [aJob], stage := x, wanted := some 3, command := 100 }
def selecting (w : Option Nat) : State := (converting (.selecting 3)).updBalance fun b => { b with wanted := w }

theorem witness_ConverterSwitchesAndIsProtected_runs :
    ((selecting (some 3)).balance.stage = .selecting 3 ∧ (selecting (some 3)).balance.wanted = some 3 ∧
      (selecting (some 4)).balance.stage = .selecting 3 ∧ (selecting (some 4)).balance.wanted = some 4 ∧
      (selecting none).balance.wanted = none) ∧
    ((converting (.ready 3)).balance.stage = .ready 3 ∧ (converting (.ready 3)).maySwitch = true ∧
      (converting (.ready 3)).balance.skipNext = false ∧ (((99 : Nat) : Rat) < (converting (.ready 3)).balance.command) ∧
      (converting (.ready 3)).balance.command ≤ ((100 : Nat) : Rat)) ∧
    ((converting (.primaryOn 3)).balance.stage = .primaryOn 3 ∧ (converting (.rectifierOn 3)).balance.stage = .rectifierOn 3 ∧
      (converting (.primaryOn 3)).faults.length = 18) := by decide +kernel
def worn : State := (converting (.primaryOn 3)).updBalance fun b =>
  { b with desats := 7, legsHit := [.module], shorts := [0], trips64 := [0, 0] }
theorem witness_ConverterSwitchesAndIsProtected_trips :
    worn.faults.length = 18 ∧ worn.balance.acvFenced = false ∧ worn.activeJob.isSome = true ∧ worn.balance.desats = 7 ∧
      worn.balance.legsHit.length = 1 ∧ worn.balance.legsHit.contains Leg.cell = false ∧
      1 ≤ (worn.balance.shorts.filter fun d => worn.ring.deals < d + 64).length ∧ worn.running = true ∧
      worn.acvPowered = true ∧ worn.balance.latch = false ∧
      2 ≤ (worn.balance.trips64.filter fun d => worn.ring.deals < d + 64).length := by decide

def hotTwice : State := dealer.updBalance fun b => { b with dieTrips := [3999999000, 3999999500] }
theorem witness_DieTripAndAgeing :
    hotTwice.running = true ∧ hotTwice.faults.length = 18 ∧ hotTwice.balance.dieTrip = false ∧
      2 ≤ (hotTwice.balance.dieTrips.filter fun x => !(hotTwice.passed x 600000)).length ∧
      hotTwice.balance.aged.getD 0 false = false ∧ hotTwice.balance.aged.getD 2 false = false := by decide

def purging (x : PurgeStep) (r : Bool) : State := head.updFan fun f => { f with purge := some x, reverse := r, target := 480 }
def purgeAsked : State := head.updFan fun f => { f with due := true }
/-- A Dealer whose tachometer has had 15 invalid transitions. -/
def tachNoise : State := dealer.updFan fun f => { f with invalid := List.replicate 15 4999500, duty := 144 }

theorem witness_FanRuns :
    (dealer.isHand = false ∧ dealer.running = true ∧ dealer.cfg.purgeH ≠ 0 ∧ dealer.dirMayChange = true ∧
      (purging .rampUp false).dirMayChange = false) ∧
    (head.isHand = false ∧ head.running = true ∧ purgeAsked.fanRuns = true ∧ purgeAsked.fan.due = true ∧
      purgeAsked.fan.purge = none ∧ purgeAsked.supply.lowest = false) ∧
    ((purging .rampDown false).fan.frozen = false ∧ (purging .rampDown false).dev.fatal = false ∧
      (purging .rampBack true).fan.reverse = true ∧ (purging .hold true).fan.purge = some .hold) ∧
    (quadrature true false = (quadrature dealer.fan.tachA dealer.fan.tachB + 1) % 4 ∨
      quadrature dealer.fan.tachA dealer.fan.tachB = (quadrature true false + 1) % 4) ∧
    (quadrature true true = (quadrature tachNoise.fan.tachA tachNoise.fan.tachB + 2) % 4 ∧ tachNoise.fan.tachFault = false ∧
      tachNoise.faults.length = 18 ∧ 15 ≤ (tachNoise.fan.invalid.filter fun y => 5000000 < y + 1000000).length) ∧
    (tachNoise.fan.stall = false ∧ 144 ≤ tachNoise.fan.duty) := by decide

/-! ### Witnesses: vehicle interfaces and logs -/

def vframe (n : Nat) : VFrame := { number := n, page := 0, ident := 0x200 + n, bytes := [1, 2, 3] }
/-- A Dealer with publications staged; `b` tells whether one is on the lines. -/
def staged (b : Bool) : State :=
  dealer.updVehicle fun v => { v with
    canOut := { v.canOut with staged := some [vframe 1, vframe 2], busy := b, queue := if b then [vframe 3, vframe 4] else [] },
    rsOut := { v.rsOut with staged := some [vframe 1], busy := b, queue := if b then [vframe 3] else [] } }
def canAt (st : CanState) (t r : Nat) : State :=
  (staged true).updVehicle fun v => { v with can := st, tecCount := t, recCount := r, busOffs := List.replicate 15 3999999999 }

theorem witness_VehicleStreamsAndCan_streams :
    ((staged false).faults.length = 18 ∧ (staged false).running = true ∧ (staged false).vehicle.canOut.busy = false ∧
      (staged false).vehicle.canFree = true ∧ (staged false).vehicle.canOut.staged = some [vframe 1, vframe 2] ∧
      (staged false).vehicle.rsOut.staged = some [vframe 1] ∧ (staged false).vehicle.rsOut.busy = false ∧
      (staged false).vehicle.rsOut.stopped = false) ∧
    ((staged true).faults.length = 18 ∧ (staged true).running = true ∧ (staged true).vehicle.canOut.busy = true ∧
      (staged true).vehicle.canOut.queue = vframe 3 :: vframe 4 :: [] ∧ (staged true).vehicle.rsOut.busy = true ∧
      (staged true).vehicle.rsOut.queue = vframe 3 :: [] ∧ (0 : Byte) ≠ (vframe 3).bytes.getD 0 0) := by decide
theorem witness_VehicleStreamsAndCan_can :
    ((canAt .active 248 127).running = true ∧ (canAt .active 248 127).cfg.canMode.isSome = true ∧
      (canAt .active 248 127).faults.length = 18 ∧ (canAt .active 248 127).vehicle.canFree = true ∧
      (canAt .active 248 127).vehicle.recCount ≤ 127 ∧ 127 < (canAt .passive 248 128).vehicle.recCount ∧
      (canAt .active 248 127).vehicle.can ≠ .busOff ∧ (canAt .active 248 127).vehicle.canOut.stopped = false ∧
      128 ≤ (canAt .active 248 127).vehicle.recCount + 1 ∧ (canAt .active 248 127).vehicle.canOut.busy = true ∧
      255 < (canAt .active 248 127).vehicle.tecCount + 8 ∧
      15 ≤ ((canAt .active 248 127).vehicle.busOffs.filter fun x => !(canAt .active 248 127).passed x 3600000).length) ∧
    (canAt .busOff 256 0).vehicle.can = .busOff := by decide

def aRecord : LogRecord := { rtype := 0x09, seconds := 5, payload := List.replicate 8 3 }
/-- A Dealer with a record waiting and the erase of the spare sector due. -/
def logging : State := dealer.updLogs fun l => { l with queue := [aRecord], eraseDue := true }

theorem witness_LogIsWrittenToFlash :
    Memory.wf logging.flash = true ∧ logging.flashCore = true ∧ logging.logs.queue = aRecord :: [] ∧ logging.logs.lost = 0 ∧
      slotErased logging.flash logging.writeSlot = true ∧ logging.faults.length = 18 ∧ logging.logs.eraseDue = true := by
  decide

def shaken : State := dealer.updLogs fun l => { l with shockOpen := true }
def shakenOften : State := shaken.updLogs fun l => { l with shocks := List.replicate 16 3999999999 }

theorem witness_RecordsAndShocks :
    (dealer.running = true ∧ dealer.core = true ∧ dealer.isDealer = true ∧ dealer.logs.queue.length < 64 ∧
      dealer.logs.queue.length + (pairEntries dealer.countEntries).length ≤ 64 ∧
      dealer.logs.queue.length + 2 * dealer.stringList.length ≤ 64 ∧ dealer.logs.queue.length + 4 ≤ 64) ∧
    (dealer.bist.fenced.contains 10 = false ∧ shaken.core = true ∧ shaken.logs.shockOpen = true ∧
      (shaken.logs.shocks.filter fun k => !shaken.passed k 3600000).length < 16 ∧ shaken.logs.queue.length < 64 ∧
      16 ≤ (shakenOften.logs.shocks.filter fun k => !shakenOften.passed k 3600000).length) := by decide

/-! ### Witnesses: the service port and images -/

/-- A device whose service port is open, with a request waiting or none. -/
def serving (s : State) (r : Option Request) : State := s.updService fun v => { v with open_ := true, request := r }
def remoteRead : Request := { function := 0x02, tag := 7, position := 5 }
/-- A well-framed IDENT request with a length of 1 where it takes none. -/
def longIdent : List Byte := let b : List Byte := [0x01, 7, 0, 1, 9]; b ++ bytesBE 2 (crc16 b).toNat

theorem witness_ServicePortAnswers_busy :
    (serving dealer (some remoteRead)).serves = true ∧ (serving dealer (some remoteRead)).service.request.isSome = true ∧
      (serving dealer (some remoteRead)).service.request = some remoteRead ∧ remoteRead.function = 0x02 := by decide
theorem witness_ServicePortAnswers_idle :
    ((serving dealer none).serves = true ∧ (serving dealer none).service.request = none ∧ (0x05 : Byte) ≠ 0xFF ∧
      (serving dealer none).position ≠ some ((0x05 : Byte).setWidth 6) ∧ (serving dealer none).isDealer = true ∧
      (0x05 : Byte).toNat < (serving dealer none).ring.count ∧ (serving dealer none).ring.count ≤ (0x18 : Byte).toNat ∧
      (0x01 : Byte) ≠ 0) ∧
    ((serving hand none).serves = true ∧ (serving hand none).position ≠ some ((0x07 : Byte).setWidth 6) ∧
      (serving hand none).isDealer = false) ∧
    ((serving dealer none).running = true ∧ (serving dealer none).service.open_ = true ∧ keyReads 0 = false) := by
  decide +kernel
theorem witness_ServicePortAnswers_frame :
    6 ≤ longIdent.length ∧
    (crc16 ((0xFF :: longIdent).take (longIdent.length - 1))).toNat ≠ ofBytesBE ((0xFF :: longIdent).drop (longIdent.length - 1)) ∧
    (crc16 (longIdent.take (longIdent.length - 2))).toNat = ofBytesBE (longIdent.drop (longIdent.length - 2)) ∧
    longIdent.getD 0 0 = 0x01 ∧ ofBytesBE ((longIdent.drop 2).take 2) ≠ 0 := by decide +kernel

/-- A Dealer with an image in the inactive slot: `n` of two blocks loaded. -/
def loadingImage (n : Nat) (x : SlotState) (r : Option Request) : State :=
  ((serving dealer r).updService fun v => { v with nextBlock := n, total := 2 }).updNv fun v => { v with slotB := x }
def aBlock : List Byte := List.replicate 64 0x5A
def loadRequest : Request := { function := 0x03, tag := 7, position := 0xFF }

theorem witness_ImagesAreLoadedAndCommitted_load :
    ((loadingImage 0 .empty none).serves = true ∧ (loadingImage 0 .empty none).service.request = none ∧
      Memory.wf (loadingImage 0 .empty none).flash = true ∧ loadOk 1 0 2 [aBlock] = true ∧
      (loadingImage 0 .empty none).takesImages = true ∧ (loadingImage 0 .empty none).isDealer = true ∧
      (loadingImage 0 .empty none).blockFits 0 2 = true) ∧
    (loadOk 0 1 2 [aBlock] = true ∧ (loadingImage 1 .loading none).blockFits 1 2 = true ∧
      (loadingImage 1 .loading none).service.request = none) := by decide +kernel
theorem witness_ImagesAreLoadedAndCommitted_commit :
    ((loadingImage 2 .loading (some loadRequest)).running = true ∧ (loadingImage 2 .loading (some loadRequest)).core = true ∧
      (loadingImage 2 .loading (some loadRequest)).loaded = true) ∧
    ((loadingImage 2 .verified none).serves = true ∧ (loadingImage 2 .verified none).takesImages = true ∧
      slotOf (loadingImage 2 .verified none).nv (loadingImage 2 .verified none).inactive = .verified ∧
      (loadingImage 2 .verified none).mayArm = true ∧
      ((loadingImage 2 .verified none).updServices fun v => { v with pack := .closed }).mayArm = false) := by decide +kernel

def blockFrame (n : Nat) : RxFrame := frame 0 5 ([callWord 1 63 0, word n, word 2] ++ List.replicate 32 0x1234)
def commitFrame (ws : List Word) : RxFrame := frame 0 5 ([callWord 1 63 0, 2, 2] ++ ws)
def statusFrame : RxFrame := frame 5 5 [callWord 2 0 0, 2, 0x10000]
def askLog : RxFrame := frame 0 5 [callWord 3 5 0, 1, 2]
def sendLog : RxFrame := frame 5 5 [callWord 4 0 0, 1, 0]
/-- A Hand that loads an image from the ring. -/
def takingImage (n : Nat) (x : SlotState) : State :=
  (hand.updService fun v => { v with nextBlock := n, total := 2 }).updNv fun v => { v with slotB := x }

theorem witness_ServiceFramesAreHandled_block :
    Reaches (takingImage 0 .empty) .s .service (blockFrame 0) ∧ subtype (blockFrame 0).payload = 1 ∧
      (takingImage 0 .empty).isDealer = false ∧ (takingImage 0 .empty).core = true ∧
      (takingImage 0 .empty).takesImages = true ∧
      (takingImage 0 .empty).blockFits (pw (blockFrame 0).payload 1).toNat (pw (blockFrame 0).payload 2).toNat = true ∧
      Memory.wf (takingImage 0 .empty).flash = true :=
  ⟨reaches_of (by decide +kernel), by decide +kernel⟩
theorem witness_ServiceFramesAreHandled_frames :
    (Delivers dealer .n .service statusFrame ∧ subtype statusFrame.payload = 2 ∧ dealer.isDealer = true ∧ dealer.core = true) ∧
    (Delivers hand .s .service askLog ∧ subtype askLog.payload = 3 ∧ hand.isDealer = false ∧ hand.core = true ∧
      hand.ring.refused = false ∧ (hand.port hand.ring.primary).serviceSent < 2 ∧ (hand.port hand.ring.primary).up = true ∧
      (hand.port hand.ring.primary).fenced = false) ∧
    (Delivers (serving dealer (some remoteRead)) .n .service sendLog ∧ subtype sendLog.payload = 4 ∧
      (serving dealer (some remoteRead)).serves = true ∧
      (serving dealer (some remoteRead)).service.request = some remoteRead ∧ remoteRead.function = 0x02 ∧
      remoteRead.position.toNat = sendLog.src.toNat) ∧
    (takingImage 1 .loading).running = true ∧ (takingImage 1 .loading).isDealer = false ∧ (takingImage 1 .loading).core = true ∧
      slotOf (takingImage 1 .loading).nv (takingImage 1 .loading).inactive = .loading :=
  ⟨⟨delivers_of (by decide +kernel), by decide +kernel⟩, ⟨delivers_of (by decide +kernel), by decide +kernel⟩,
    ⟨delivers_of (by decide +kernel), by decide +kernel⟩, by decide +kernel⟩

theorem imageBytes_imageWords : ∀ bs : List Byte, bs.length % 2 = 0 → imageBytes (imageWords bs) = bs
  | [], _ => rfl
  | [_], h => by simp at h
  | a :: b :: rest, h => by
    have ih := imageBytes_imageWords rest (by simp at h; omega)
    have e : (word (a.toNat * 256 + b.toNat)).toNat = a.toNat * 256 + b.toNat := by
      have := a.isLt; have := b.isLt
      simp only [word, BitVec.toNat_ofNat]; omega
    have ha : BitVec.ofNat 8 ((a.toNat * 256 + b.toNat) / 256) = a := by
      apply BitVec.eq_of_toNat_eq; have := a.isLt; have := b.isLt
      simp only [BitVec.toNat_ofNat]; omega
    have hb : BitVec.ofNat 8 (a.toNat * 256 + b.toNat) = b := by
      apply BitVec.eq_of_toNat_eq; have := a.isLt; have := b.isLt
      simp only [BitVec.toNat_ofNat]; omega
    simp only [imageBytes] at ih
    simp only [imageWords, imageBytes, List.flatMap_cons, e, ha, hb, ih, List.cons_append, List.nil_append]

def digestFrame : RxFrame := commitFrame (imageWords ((takingImage 2 .verified).imageDigest true) ++ List.replicate 16 0)

theorem witness_ServiceFramesAreHandled_digest :
    Reaches (takingImage 2 .verified) .s .service digestFrame ∧ subtype digestFrame.payload = 1 ∧
      (takingImage 2 .verified).isDealer = false ∧ (takingImage 2 .verified).core = true ∧
      (takingImage 2 .verified).takesImages = true ∧ pw digestFrame.payload 1 = pw digestFrame.payload 2 ∧
      slotOf (takingImage 2 .verified).nv (takingImage 2 .verified).inactive = .verified ∧
      imageBytes ((digestFrame.payload.drop 3).take 16) =
        (takingImage 2 .verified).imageDigest (takingImage 2 .verified).inactive := by
  refine ⟨reaches_of (by decide +kernel), by decide +kernel, by decide +kernel, by decide +kernel, by decide +kernel,
    by decide +kernel, by decide +kernel, ?_⟩
  have hi : (takingImage 2 .verified).inactive = true := by decide
  rw [hi]
  have hl : (imageWords ((takingImage 2 .verified).imageDigest true)).length = 16 := by
    simp [State.imageDigest, bytesBE, imageWords]
  have hd : (digestFrame.payload.drop 3).take 16 = imageWords ((takingImage 2 .verified).imageDigest true) := by
    show (imageWords _ ++ List.replicate 16 0).take 16 = _
    rw [List.take_append_of_le_length (by omega), List.take_of_length_le (by omega)]
  rw [hd]
  exact imageBytes_imageWords _ (by simp [State.imageDigest, bytesBE])

/-! ### Witnesses: the whole machine -/

/-- A Dealer with one command waiting, its lock-out set and a sticky bit. -/
def full : State :=
  let s := (dealer.updKeeper fun k => { k with lockout := true }).updNv fun n => { n with lockout := true }
  { (s.updBlock .meas fun b => { b with sticky := 1 }).updDev fun d => { d with fatal := true } with pending := [.checkIn] }

theorem witness_StepTakesTheFront : full.pending = .checkIn :: [] ∧ dealer.pending = [] := by decide
theorem witness_StepKeepsInvariant : logging.Inv ∧ ∃ t, step logging = .next t :=
  ⟨⟨by decide, by decide, by decide, by decide, by decide⟩, _, rfl⟩
theorem witness_StickyBitsStay :
    Instr.mayReset .checkIn = false ∧ full.has .meas 0 = true ∧ full.dev.fatal = true ∧ ∃ t, exec .checkIn full = .next t :=
  ⟨by decide, by decide, by decide, _, rfl⟩
theorem witness_LockoutHoldsThePackOpen :
    (∀ ms, Instr.checkIn = .lockClrRelease ms → full.clearVerdict ms ≠ 0) ∧
      (∀ p f x y, Instr.checkIn = .beaconReceived p f x y → full.isDealer = true) ∧
      full.keeper.lockout = true ∧ full.nv.lockout = true ∧ full.services.pack = .opened ∧
      ∃ t, exec .checkIn full = .next t :=
  ⟨fun _ h => (by cases h), fun _ _ _ _ h => (by cases h), by decide, by decide, by decide, _, rfl⟩
theorem witness_LockoutHoldsThePackOpen_release :
    (∀ ms, Instr.lockClrRelease 499 = .lockClrRelease ms → full.clearVerdict ms ≠ 0) ∧
      (∀ p f x y, Instr.lockClrRelease 499 = .beaconReceived p f x y → full.isDealer = true) ∧
      ∃ t, exec (.lockClrRelease 499) full = .next t :=
  ⟨fun _ h => (by cases h; decide), fun _ _ _ _ h => (by cases h), _, rfl⟩
theorem witness_NonVolatileIsGuarded :
    Instr.mayWriteFlash .checkIn = false ∧ Instr.checkIn ≠ .fuseBlow ∧ (∀ u mv, Instr.checkIn ≠ .firmwareStart u mv) ∧
      ∃ t, exec .checkIn full = .next t :=
  ⟨by decide, by simp, fun _ _ => by simp, _, rfl⟩
theorem witness_FlashReadsBack : Memory.wf [] = true ∧ Memory.wf [(5, 0), (9, 1)] = true := by decide
theorem witness_WordsRoundTrip :
    readControl 0x12C1F = some (.idle 0 0) ∧ (List.replicate 13 31).length = 13 ∧
      (∀ k ∈ List.replicate 13 31, k ≤ 31) := by decide

/-! ### Well-formedness: a term that each check refuses -/

def okFrame (ws : List Word) : RxFrame := frame 5 5 ws
def noPosition (ws : List Word) : RxFrame := { frame 5 5 ws with src := 48 }

theorem test_wf_beacon : Instr.wf (.beaconReceived .n (okFrame [1]) 0 none) = false := by decide
theorem test_wf_meld : Instr.wf (.meldReceived .n (okFrame []) 0) = false ∧
    Instr.wf (.meldReceived .n (noPosition (List.replicate 20 0)) 0) = false := by decide
theorem test_wf_trump : Instr.wf (.trumpReceived .n (okFrame [1])) = false ∧
    Instr.wf (.trumpReceived .n (okFrame [1, 2, 3, 4])) = true := by decide
theorem test_wf_lifeline : Instr.wf (.lifelineReceived .n (okFrame [])) = false := by decide
theorem test_wf_call : Instr.wf (.call .n (okFrame (callWord 2 0 0 :: List.replicate 4 0))) = false ∧
    Instr.wf (.call .n theCall) = true := by decide
theorem test_wf_answer : Instr.wf (.answer .n theRejoin) = false ∧ Instr.wf (.answer .n theAnswer) = true := by decide
theorem test_wf_sealChunk : Instr.wf (.sealChunk .n theCall) = false := by decide
theorem test_wf_sealConfirm : Instr.wf (.sealConfirm .n theCall) = false := by decide
theorem test_wf_rejoin : Instr.wf (.rejoin .n theAnswer) = false ∧ Instr.wf (.rejoin .n theRejoin) = true := by decide
theorem test_wf_imageBlock : Instr.wf (.imageBlock .n statusFrame) = false := by decide
theorem test_wf_imageStatus : Instr.wf (.imageStatus .n askLog) = false ∧ Instr.wf (.imageStatus .n statusFrame) = true := by
  decide
theorem test_wf_logRequest : Instr.wf (.logRequest .n statusFrame) = false ∧ Instr.wf (.logRequest .n askLog) = true := by
  decide
theorem test_wf_logRecords : Instr.wf (.logRecords .n askLog) = false := by decide
theorem test_wf_controlWordFailed : Instr.wf (.controlWordFailed .n 0x12C1F) = false ∧
    Instr.wf (.controlWordFailed .n 0x12C1E) = true := by decide
theorem test_wf_strapLiveRead : Instr.wf (.strapLiveRead [1 / 2]) = false ∧
    Instr.wf (.strapLiveRead (List.replicate 13 (3 / 2))) = false ∧ Instr.wf (.strapLiveRead liveRead) = true := by
  decide +kernel
theorem test_wf_strapLatch : Instr.wf (.strapLatch romGood liveRead []) = false := by decide +kernel
theorem test_wf_apertureClose : Instr.wf (.apertureClose { readings with die := [] }) = false ∧
    Instr.wf (.apertureClose { readings with primary := [] }) = false ∧ Instr.wf (.apertureClose readings) = true := by decide
theorem test_wf_openWireTestEnd : Instr.wf (.openWireTestEnd wirePre wireIn []) = false ∧
    Instr.wf (.openWireTestEnd wirePre wireIn wirePre) = true := by decide
theorem test_wf_samplingInstant : Instr.wf (.samplingInstant (List.replicate 9 0)) = false := by decide
theorem test_wf_l1Reply : Instr.wf (.l1Reply []) = false ∧ Instr.wf (.l1Reply reply) = true := by decide +kernel
theorem test_wf_l1Read : Instr.wf (.l1Read 0) = false := by decide
theorem test_wf_l1ReplyTimeout : Instr.wf (.l1ReplyTimeout 0) = false := by decide
theorem test_wf_imageLoad : Instr.wf (.imageLoad 0 0 0 1 []) = false ∧ Instr.wf (.imageLoad 0 0 0 1 [[1]]) = false ∧
    Instr.wf (.imageLoad 0 0 0 17 (List.replicate 17 aBlock)) = false ∧ Instr.wf (.imageLoad 0 0 0 1 [aBlock]) = true := by
  decide
theorem test_wf_probeDiscovery : Instr.wf (.probeDiscovery (List.replicate 33 0) true) = false := by decide
theorem test_wf_canFrameReceived : Instr.wf (.canFrameReceived (2 ^ 29) []) = false ∧
    Instr.wf (.canFrameReceived 1 (List.replicate 9 0)) = false := by decide
theorem test_wf_bistSupplyMonitor : Instr.wf (.bistSupplyMonitor 10000) = false := by decide

/-! ### Examples of the manual -/

/-- No row of the opcode table has bits. -/
theorem test_decode : decodeTableWord 8 0 = none ∧ (State.reset.withFetchWord 8 0).pending = [] := by decide

/-- R55: both edges of a band belong to its level, a guard band to none. -/
theorem test_level_edges : decodeLevel (41 / 256) = some 5 ∧ decodeLevel (47 / 256) = some 5 ∧ decodeLevel (40 / 256) = none ∧
    decodeLevel (0 / 256) = none ∧ decodeLevel (255 / 256) = some 31 := by decide +kernel

/-- Chapter 06, section 11: cell 7 at 3.7000 V, DV-A raw 4631; difference −96 agrees. -/
theorem test_cell_codes : satCode 74000 = 0x12110 ∧ diverseCode 4631 = 0x12170 ∧ codeOf 0x3C000 = -16384 := by decide

/-- The cells of position 5 in the example of chapter 12, in mV. -/
def exampleMv : List Nat :=
  [3700, 3700, 3745, 3700, 3700, 3731, 3728, 3700, 3681, 3700, 3700, 3742, 3738, 3700, 3717, 3700, 3700, 3700]
def exampleHand : State :=
  let cs := exampleMv.map fun x => word (20 * x)
  let s := hand.updMeas fun m => { m with primary := cs, diverse := cs, die := 25600 }
  let s := s.updRing fun r => { r with target := 0x12110, band := 200, share := 2500, period := 2, settle := 0 }
  s.updBalance fun b => { b with ageing := [some 1, some 1, some 1] }

/-- Chapter 12, section 9: the allowances of a share of 2500 mW, and the power of cell 6 at 3.731 V to 0.1 mW. -/
theorem test_kitty : exampleHand.allowance .pbA = 750 ∧ exampleHand.allowance .pbB = 750 ∧
    exampleHand.allowance .active = 1000 ∧ (exampleHand.bleedMw 5 * 10).floor = 3365 ∧
    exampleHand.dischargeCandidate 5 = true ∧ exampleHand.chargeCandidate 8 = true ∧
    exampleHand.dischargeCandidate 0 = false := by decide +kernel

/-- Chapter 15, section 7: LIMITS with 480 A, 240 A, 333.6 kW and 166.8 kW. -/
theorem test_limits : (closedPack.updServices fun v => { v with
      limDis := 480, limChg := 240, powDis := 333600, powChg := 166800, limStrD := 1, limStrC := 1 }).limitsMessage =
    [0x00, 0xBB, 0x80, 0x00, 0x5D, 0xC0, 0x00, 0x82, 0x50, 0x00, 0x41, 0x28, 0x00, 0x01, 0x01, 0x00] := by decide +kernel

/-- Chapter 16, section 8: OC5 conducts, OC6 is in its inrush window, deal 0x01234. -/
def shorting : State :=
  let s := withChan (stagedAt 4 .steady) 5 fun c => { c with command := true, stage := .opening }
  (s.updOutputs fun o => { o with pumps := o.pumps.modify 2 fun p => { p with running := true } }).updRing fun r =>
    { r with deal := 0x1234 }
def after (c : Instr) (s : State) : State := match exec c s with | .next t => t | _ => s
def shorted : State := after (.pumpDip 2) (after (.outputHardShort 4) shorting)

theorem test_output_short : (faultOf shorted.faults .out).sticky = 0x4041 ∧
    statusWord .out (faultOf shorted.faults .out).sticky = 0x24041 ∧ summaryWord shorted.faults = 0x00400 ∧
    (faultOf shorted.faults .out).merges = 1 ∧ (faultOf shorted.faults .out).pulses = 1 ∧ shorted.pins.faultN = true := by
  decide +kernel

/-- Chapter 18, section 2: the FAULT record of that reaction at the end of the deal. -/
theorem test_fault_record :
    ((after .dealBoundary (shorted.updKeeper fun k => { k with time := k.time + 1000 })).logs.queue.map fun r => (r.rtype, r.payload)) =
      [(0x05, [0x0A, 0x08, 0x00, 0x12, 0x34, 0x01, 0x00, 0x01])] := by decide +kernel

/-- Chapter 19, section 6: segments of one rotation of a Hand and of the Dealer of TR-24. -/
theorem test_rotation :
    (((List.range 25).filter fun k => 1 ≤ k && slicePowered hand.cfg k).map sliceSegments).sum = 1472 ∧
    (((List.range 25).filter fun k => 1 ≤ k && slicePowered dealer.cfg k).map sliceSegments).sum = 1736 := by decide

end Sys2Proof.Tests
end

/-!
PROOFS. The groups of the state each command can change, and from them that the latched strap levels stay (R78).
-/
namespace Sys2Proof.Machine

/-- Every group of the state. -/
def Group.all : List Group :=
  [.dev, .keeper, .nv, .flash, .straps, .meas, .probes, .clocks, .portN, .portS, .ring, .dealer, .services, .balance, .outputs,
   .fan, .supply, .life, .safety, .vehicle, .pins, .logs, .service, .bist, .faults, .pending]

end Sys2Proof.Machine

namespace Sys2Proof
open Machine

/-- The groups a command can change, by the unit that acts on it. No group is ruled out for the latching of the straps, the
start of the core and the commands that may end in a reset. -/
def Instr.frame : Instr → List Group
  | .dealBeacon _ =>
    [.ring, .portN, .portS, .dealer, .vehicle, .services, .outputs, .meas, .balance, .dev, .service, .faults, .logs, .pins]
  | .beaconReceived .. =>
    [.portN, .portS, .dealer, .ring, .service, .keeper, .nv, .balance, .safety, .outputs, .meas, .dev, .faults, .logs, .pins]
  | .dealClosure =>
    [.dealer, .vehicle, .safety, .outputs, .meas, .services, .keeper, .nv, .ring, .service, .portN, .portS, .dev, .faults, .logs,
     .pins]
  | .dealBoundary =>
    [.ring, .portN, .portS, .service, .dev, .balance, .outputs, .meas, .supply, .fan, .safety, .faults, .logs, .pins]
  | .relayDelayedStart _ | .linkUp .. | .linkDown _ | .otherGenerationActivity _ | .carrierOnUpLink _ | .frameFailure ..
  | .poisonTail .. | .credit .. | .ack .. | .nak .. | .marker _ | .controlWordFailed .. | .frameBoundary _ | .ackTimeout _
  | .meldDeadline | .bufferParityError _ => [.portN, .portS, .ring, .clocks, .life, .faults, .logs, .pins]
  | .beaconMissingOnPrimary .. | .beaconTimeout | .discoveryStart | .sweepTimeout | .discoveryRepeat | .rejoinSend =>
    [.ring, .dealer, .portN, .portS, .clocks, .safety, .outputs, .meas, .faults, .logs, .pins]
  | .buckEnergySample .. | .beaconSilenceTimeout | .vauxInvalid | .vauxAbsenceExpiry | .alertN | .internalAlert _
  | .alertTimeout | .alertInactive _ =>
    [.supply, .keeper, .dev, .dealer, .services, .balance, .fan, .outputs, .meas, .portN, .portS, .faults, .logs, .pins]
  | .passivePause | .apertureOpen | .samplingInstant _ | .accumulatorTick _ | .openWireTestEnd .. =>
    [.meas, .ring, .balance, .faults, .logs, .pins]
  | .apertureClose _ =>
    [.meas, .outputs, .services, .keeper, .nv, .safety, .portN, .portS, .dev, .balance, .fan, .vehicle, .ring, .dealer, .bist,
     .faults, .logs, .pins]
  | .strapLiveRead _ => [.straps, .faults, .logs, .pins]
  | .frameTick | .slotWord .. | .probeFrameEnd | .probeDiscovery .. | .probeBusFault | .pwvddLimit =>
    [.probes, .outputs, .meas, .services, .keeper, .nv, .safety, .portN, .portS, .faults, .logs, .pins]
  | .storageWatch _ => [.keeper, .nv, .flash, .logs]
  | .publicationStart | .canFrameComplete | .canFrameReceived .. | .canError _ | .busOffRecovery | .rs485FrameComplete _ =>
    [.vehicle, .dev, .faults, .logs, .pins]
  | .commandTimeout _ | .bleedCurrentLimit _ | .bleedCurrentCheck .. | .bleedLeakage .. | .switchingPeriod .. | .acvPeak
  | .acvZeroCurrent | .acvPeakTimeout | .acvDesaturation _ | .acvHardShort _ | .shootThrough | .selectionConfirmed
  | .selLevelTimeout | .balTrip | .balTripInactive | .ageingMeasurement .. => [.balance, .nv, .faults, .logs, .pins]
  | .dieTrip _ => [.balance, .outputs, .meas, .services, .faults, .logs, .pins]
  | .checkIn | .checkInDeadline | .lockstepMismatch | .clkinFail | .pllLock | .pllHoldEnd | .kclkCalibration _
  | .sramEccError .. | .flashEccError _ | .reactionTimeout _ | .idleWatchdogService =>
    [.clocks, .nv, .dev, .outputs, .meas, .balance, .fan, .portN, .portS, .services, .keeper, .vehicle, .ring, .faults, .logs,
     .pins]
  | .memoryBist .. => [.dev, .portN, .portS, .faults, .logs, .pins]
  | .bistSegment | .bistSegmentEnd _ | .rotationOverdue | .bistReqPress =>
    [.bist, .balance, .dev, .outputs, .meas, .fan, .portN, .portS, .services, .keeper, .vehicle, .ring, .faults, .logs, .pins]
  | .tckRisingEdge _ => [.service, .dev, .pins]
  | .energyRecord | .countsRecord | .serviceStateRecord | .logWrite _ | .sectorErase _ | .shockEventOpen | .shockEventClose ..
  | .shockSummary .. | .packTotals => [.flash, .nv, .keeper, .dev, .services, .balance, .faults, .logs, .pins]
  | .stepUpStart .. | .openCircuitSample .. | .harvesterStop | .feedCarrierStart _ | .feedListenWindow _ | .feedTimeout _
  | .feedRetry _ | .lifelineReport _ | .lifelineStale _ | .lfsReaches3v6 _ | .fractionalRegulationStart | .stepUpStop =>
    [.life, .dev, .portN, .portS, .dealer]
  | .l1Convert | .l1Read _ | .l1Reply _ | .l1ReplyTimeout _ =>
    [.dealer, .outputs, .meas, .services, .keeper, .nv, .portN, .portS, .faults, .logs, .pins]
  | .sealingTimeout | .lockClrPress | .lockClrRelease _ => [.safety, .dealer, .ring, .nv, .keeper, .logs, .pins]
  | .imageStatusSend | .ident _ | .logRead .. | .imageLoad .. | .imageCommit .. | .requestGapTimeout | .remoteTimeout
  | .serviceKeyRemoved _ | .imageVerified | .fuseBlow | .invalidServiceRequest _ =>
    [.service, .nv, .flash, .dev, .portN, .portS, .logs]
  | .gateTurnOn _ | .pullInEnd _ | .outputHardShort _ | .inrushOvercurrent _ | .overcurrent _ | .overcurrentRetry _
  | .openLoad _ | .offStateCurrent _ | .pumpDip _ | .pumpRestart .. | .pumpReleaseTimeout _ | .vswLow | .vswRecovered
  | .inrushWindowEnd _ => [.outputs, .meas, .services, .faults, .logs, .pins]
  | .purgeDue | .purgeStart | .purgeHoldEnd | .fanDirChange | .tachEdge .. | .tachFaultClear | .standstill | .fanStall
  | .fanRampEnd => [.fan, .faults, .logs, .pins]
  | .testPulse .. | .interlockOpen _ | .interlockClosed _ | .interlockTrump | .demandOpeningComplete | .demandIntervalExpiry
  | .degradedTimeExpiry | .degradedTimerClear =>
    [.safety, .keeper, .nv, .services, .outputs, .meas, .portN, .portS, .faults, .logs, .pins]
  | _ => Group.all

end Sys2Proof

namespace Sys2Proof.Machine

/-! ### Rules for frames -/

theorem runs_next {c : Instr} {s u : State} {P : State → Prop} (h : exec c s = .next u) (k : P u) : Runs c s P := ⟨u, h, k⟩

theorem Runs.next {c : Instr} {s t : State} {P : State → Prop} (h : Runs c s P) (e : exec c s = .next t) : P t := by
  obtain ⟨u, eu, hu⟩ := h
  cases eu.symm.trans e
  exact hu

theorem keeps_all (s t : State) : Keeps Group.all s t := fun g hg => absurd (by cases g <;> decide) hg

theorem keeps_ite_iff {G : List Group} {s u v : State} {p : Prop} [Decidable p] :
    Keeps G s (if p then u else v) ↔ (p → Keeps G s u) ∧ (¬p → Keeps G s v) := by
  by_cases h : p <;> simp [h]

theorem keeps_foldl_iff {α : Type} {F G : List Group} {s u : State} {f : State → α → State} {l : List α}
    (hf : ∀ t x, Keeps F t (f t x)) (c : covers F G = true) : Keeps G s (l.foldl f u) ↔ Keeps G s u :=
  keeps_iff (keeps_foldl l hf (Keeps.refl F u)) c

theorem atBoundary_getD_keeps {G : List Group} {u : State} {p : Port} {f : PortState → PortState}
    (c : covers [.portN, .portS] G = true) : Keeps G u ((atBoundary u p).getD (u.updPort p f)) := by
  cases e : atBoundary u p with
  | none => exact (State.updPort_keeps c p f).mpr (Keeps.refl G u)
  | some w => exact (atBoundary_keeps c e).mpr (Keeps.refl G u)

/-! ### The frame of every command -/

/-- Every command answers a next state and changes no group outside its frame. Each case runs through the operations the
meaning is made of, by the frame of each; a loop has the frame of its body. -/
theorem exec_frame (c : Instr) (s : State) : Runs c s (Keeps c.frame s) := by
  cases c with (refine runs_next rfl ?_; dsimp only [Instr.frame])
  | dealBeacon =>
    simp (disch := decide) only [keeps_ite_iff, Keeps.refl, implies_true, and_self, State.dealerDeal_keeps,
      State.endPace_keeps, State.packAtT0_keeps, State.kittyPeriod_keeps, State.takeBaseline_keeps, State.sendCommands_keeps,
      State.takeOwnBeacon_keeps, State.updDealer_keeps, State.sendBeacon_keeps, State.afterBeacon_keeps,
      State.sendChunks_keeps, State.releaseHeld_keeps, State.distributeBlocks_keeps, State.storageAfterOpening_keeps]
  | beaconReceived =>
    simp (disch := decide) only [keeps_ite_iff, Keeps.refl, implies_true, and_self, State.endFeed_keeps, State.updPort_keeps,
      State.countDropped_keeps, State.beaconAtDealer_keeps, State.acceptBeacon_keeps, State.relayBeacon_keeps,
      State.endBeaconCopy_keeps]
  | dealClosure =>
    have close : ∀ t i, Keeps [.dealer, .faults, .logs, .pins] t (State.closePosition t i) := fun t i =>
      (State.closePosition_keeps (by decide) i).mpr (Keeps.refl _ t)
    have rejoin : ∀ t i, Keeps [.dealer, .faults, .logs, .pins] t (State.actRejoin t i) := fun t i =>
      (State.actRejoin_keeps (by decide) i).mpr (Keeps.refl _ t)
    simp (disch := decide) only [keeps_ite_iff, Keeps.refl, implies_true, and_self, State.updDealer_keeps,
      State.updVehicle_keeps, keeps_foldl_iff close, keeps_foldl_iff rejoin, State.raiseIf_keeps_calm,
      State.degradedClosure_keeps, State.pace_keeps, State.servePack_keeps, State.coreLost_keeps, State.closurePins_keeps,
      State.armPending_keeps, State.stagePublication_keeps]
  | dealBoundary =>
    simp (disch := decide) only [keeps_ite_iff, Keeps.refl, implies_true, and_self, State.moveDeal_keeps,
      State.countCheckIn_keeps, State.endReactions_keeps, State.acvBoundary_keeps, State.dieRelease_keeps,
      State.closeEpisodes_keeps, State.leaveLowest_keeps, State.schedule_keeps, State.acvSelect_keeps,
      State.noteReasons_keeps, State.lamps_keeps, State.heating_keeps, State.fanBoundary_keeps, State.repeatFatal_keeps,
      State.updSafety_keeps]
  | buckEnergySample | beaconSilenceTimeout | vauxInvalid | vauxAbsenceExpiry | alertN | internalAlert | alertTimeout
  | alertInactive =>
    simp (disch := decide) only [keeps_ite_iff, Keeps.refl, implies_true, and_self, State.updKeeper_keeps,
      State.beginEntry_keeps, State.updSupply_keeps, State.raiseIf_keeps_calm, State.openSequenced_keeps,
      State.updServices_keeps, State.openPack_keeps, State.alert_keeps, State.raise_keeps_calm]
  | relayDelayedStart | ackTimeout =>
    repeat' split
    all_goals simp (disch := decide) only [Keeps.refl, State.updPort_keeps, State.sendBeacon_keeps, State.queue_keeps,
      State.freeSlot_keeps, State.retransmit_keeps, State.countFail_keeps]
  | linkUp port result =>
    cases result <;>
      simp (disch := decide) only [keeps_ite_iff, Keeps.refl, implies_true, and_self, State.updPort_keeps,
        State.holdDown_keeps, State.traceLink_keeps, State.linkCall_keeps]
  | frameBoundary port =>
    simp (disch := decide) only [keeps_ite_iff, Keeps.refl, implies_true, and_self, State.updPort_keeps,
      atBoundary_getD_keeps]
  | linkDown | otherGenerationActivity | carrierOnUpLink | frameFailure | poisonTail | credit | ack | nak | marker
  | controlWordFailed | meldDeadline | bufferParityError =>
    simp (disch := decide) only [keeps_ite_iff, Keeps.refl, implies_true, and_self, State.linkDown_keeps,
      State.holdDown_keeps, State.raise_keeps_calm (calm_portBlock _ _), State.raise_keeps_calm, State.frameFailure_keeps,
      State.updPort_keeps, State.poisonCopy_keeps, State.updLife_keeps, State.endFeed_keeps, State.retransmit_keeps,
      State.countFail_keeps, State.meldDeadline_keeps]
  | beaconMissingOnPrimary | beaconTimeout | discoveryStart | sweepTimeout | discoveryRepeat | rejoinSend =>
    simp (disch := decide) only [keeps_ite_iff, Keeps.refl, implies_true, and_self, State.switchPrimary_keeps,
      State.takePhase_keeps, State.updRing_keeps, State.headOpens_keeps, State.raise_keeps_calm, State.sendTrumpWords_keeps,
      State.startDiscovery_keeps, State.updDealer_keeps, State.endSweep_keeps, State.send_keeps]
  | passivePause | apertureOpen | samplingInstant | accumulatorTick =>
    simp (disch := decide) only [keeps_ite_iff, Keeps.refl, implies_true, and_self, State.updMeas_keeps, State.updRing_keeps]
  | openWireTestEnd pre inTest =>
    have judge : ∀ t k, Keeps [.meas, .balance, .faults, .logs, .pins] t (State.wireResult pre inTest t k) := fun t k =>
      (State.wireResult_keeps (by decide) pre inTest k).mpr (Keeps.refl _ t)
    simp (disch := decide) only [keeps_ite_iff, Keeps.refl, implies_true, and_self, State.updMeas_keeps,
      keeps_foldl_iff judge, State.raise_keeps_calm]
  | apertureClose =>
    simp (disch := decide) only [keeps_ite_iff, Keeps.refl, implies_true, and_self, State.takeReadings_keeps,
      State.publishedWord_keeps, State.assemble_keeps, State.legacyMelds_keeps, State.updBist_keeps,
      State.afterAperture_keeps]
  | strapLiveRead rho =>
    have read : ∀ t i, Keeps [.straps, .faults, .logs, .pins] t (State.liveRead rho t i) := fun t i =>
      (State.liveRead_keeps (by decide) rho i).mpr (Keeps.refl _ t)
    simp (disch := decide) only [keeps_ite_iff, Keeps.refl, implies_true, and_self, keeps_foldl_iff read]
  | frameTick | slotWord | probeFrameEnd | probeDiscovery | probeBusFault | pwvddLimit =>
    have close : ∀ t k, Keeps [.probes, .faults, .logs, .pins] t (State.endSlot t k) := fun t k =>
      (State.endSlot_keeps (by decide) k).mpr (Keeps.refl _ t)
    have pass : ∀ t x, Keeps [.probes, .faults, .logs, .pins, .nv] t (State.probePass t x) := fun t x =>
      (State.probePass_keeps (by decide) x).mpr (Keeps.refl _ t)
    simp (disch := decide) only [keeps_ite_iff, Keeps.refl, implies_true, and_self, State.updProbes_keeps,
      State.updSlot_keeps, State.raiseIf_keeps_calm, keeps_foldl_iff close, State.checkProbes_keeps, keeps_foldl_iff pass,
      State.censusMissing_keeps, State.probeRecords_keeps, State.wireFails_keeps]
  | storageWatch =>
    simp (disch := decide) only [keeps_ite_iff, Keeps.refl, implies_true, and_self, State.updKeeper_keeps,
      State.writeRecord_keeps, State.updNv_keeps]
  | canError kind =>
    cases kind <;>
      simp (disch := decide) only [keeps_ite_iff, Keeps.refl, implies_true, and_self, State.canCounters_keeps,
        State.busOff_keeps, State.updVehicle_keeps, State.raiseIf_keeps_calm]
  | publicationStart | canFrameComplete | canFrameReceived | busOffRecovery | rs485FrameComplete =>
    have mismatch : ∀ (t : State) (_ : Nat), Keeps [.faults, .logs, .pins] t (t.raise .raivo 4) := fun t _ =>
      (State.raise_keeps_calm (by decide) (by decide)).mpr (Keeps.refl _ t)
    simp (disch := decide) only [keeps_ite_iff, Keeps.refl, implies_true, and_self, State.updVehicle_keeps,
      State.raiseIf_keeps_calm, State.drawWord_keeps, keeps_foldl_iff mismatch]
  | acvPeakTimeout =>
    split <;> simp (disch := decide) only [Keeps.refl, State.updBalance_keeps, State.raise_keeps_calm]
  | commandTimeout | bleedCurrentLimit | bleedCurrentCheck | bleedLeakage | switchingPeriod | acvPeak | acvZeroCurrent
  | acvDesaturation | acvHardShort | shootThrough | selectionConfirmed | selLevelTimeout | balTrip | balTripInactive =>
    simp (disch := decide) only [keeps_ite_iff, Keeps.refl, implies_true, and_self, State.endJobs_keeps,
      State.updBalance_keeps, State.raise_keeps_calm, State.fenceSwitch_keeps, State.raiseIf_keeps_calm, State.fenceAcv_keeps,
      State.latchTrip_keeps, State.noteReasons_keeps]
  | ageingMeasurement =>
    have worn : ∀ (g : Nat → Bool) (t : State) (i : Nat), Keeps [.faults, .logs, .pins] t
        (if g i then t.raise (if i < 2 then .balp else .bala) (if i < 2 then 2 else 4) else t) := by
      intro g t i
      by_cases h : i < 2 <;>
        simp (disch := decide) only [keeps_ite_iff, Keeps.refl, implies_true, and_self, h, if_true, if_false,
          State.raise_keeps_calm]
    simp (disch := decide) only [keeps_ite_iff, Keeps.refl, implies_true, and_self, State.updNv_keeps, State.updBalance_keeps,
      State.logAgeing_keeps, keeps_foldl_iff (worn _)]
  | dieTrip =>
    have off : ∀ (t : State) (i : Nat), Keeps [.outputs, .meas, .logs] t
        (if (t.chan i).stage = .off then t
          else if chanRole t.cfg i = .coil then t.commandOff i 5 else t.ruleOff i 5 .held) := by
      intro t i
      simp (disch := decide) only [keeps_ite_iff, Keeps.refl, implies_true, and_self, State.commandOff_keeps,
        State.ruleOff_keeps]
    simp (disch := decide) only [keeps_ite_iff, Keeps.refl, implies_true, and_self, State.updBalance_keeps,
      State.endJobs_keeps, State.raise_keeps_calm, State.openPack_keeps, State.noteReasons_keeps, keeps_foldl_iff off]
  | flashEccError kind =>
    cases kind <;>
      simp (disch := decide) only [keeps_ite_iff, Keeps.refl, implies_true, and_self, State.raise_keeps,
        State.fenceCore_keeps, State.updNv_keeps]
  | checkIn | checkInDeadline | lockstepMismatch | clkinFail | pllLock | pllHoldEnd | kclkCalibration | sramEccError
  | reactionTimeout | idleWatchdogService =>
    simp (disch := decide) only [keeps_ite_iff, Keeps.refl, implies_true, and_self, State.updDev_keeps, State.fenceCore_keeps,
      State.raise_keeps, State.updClocks_keeps, State.updVehicle_keeps, State.updKeeper_keeps, State.endReaction_keeps]
  | memoryBist failRows =>
    have bank : ∀ t b, Keeps [.dev, .faults, .logs, .pins] t (State.bankResult t b (failRows.getD b 0)) := fun t b =>
      (State.bankResult_keeps (by decide) b _).mpr (Keeps.refl _ t)
    simp (disch := decide) only [keeps_ite_iff, Keeps.refl, implies_true, and_self, keeps_foldl_iff bank,
      State.bufferResult_keeps, State.bistFalls_keeps]
  | bistSegment | bistSegmentEnd | rotationOverdue | bistReqPress | tckRisingEdge =>
    simp (disch := decide) only [keeps_ite_iff, Keeps.refl, implies_true, and_self, State.bistFalls_keeps,
      State.takeTurn_keeps, State.updBist_keeps, State.segmentEffect_keeps, State.segmentRestore_keeps, State.sliceDone_keeps,
      State.raise_keeps, State.fenceSlice_keeps, State.updService_keeps, State.updPins_keeps, State.drawWord_keeps]
  | logWrite =>
    split <;>
      simp (disch := decide) only [keeps_ite_iff, Keeps.refl, implies_true, and_self, State.popRecord_keeps,
        State.putRecord_keeps, State.spoilSlot_keeps, State.raise_keeps_calm]
  | energyRecord | countsRecord | serviceStateRecord | sectorErase | shockEventOpen | shockEventClose | shockSummary
  | packTotals =>
    simp (disch := decide) only [keeps_ite_iff, Keeps.refl, implies_true, and_self, State.logEnergy_keeps,
      State.saveDemand_keeps, State.logCounts_keeps, State.saveServices_keeps, State.eraseSpare_keeps, keeps_flash,
      State.updDev_keeps, State.raise_keeps_calm, State.updLogs_keeps, State.log_keeps, State.logSummary_keeps,
      State.logTotals_keeps]
  | stepUpStart | openCircuitSample | harvesterStop | feedCarrierStart | feedListenWindow | feedTimeout | feedRetry
  | lifelineReport | lifelineStale | lfsReaches3v6 | fractionalRegulationStart | stepUpStop =>
    simp (disch := decide) only [keeps_ite_iff, Keeps.refl, implies_true, and_self, State.updLife_keeps,
      State.startFeed_keeps, State.updPort_keeps, State.sendReport_keeps, State.updPos_keeps]
  | l1Convert | l1Read | l1Reply | l1ReplyTimeout =>
    simp (disch := decide) only [keeps_ite_iff, Keeps.refl, implies_true, and_self, State.updPort_keeps,
      State.raise_keeps_calm, State.updDealer_keeps, State.checkReply_keeps, State.raiseIf_keeps_calm]
  | sealingTimeout =>
    repeat' split
    all_goals simp (disch := decide) only [Keeps.refl, State.logSeal_keeps, State.updDealer_keeps, State.updRing_keeps,
      State.discardPending_keeps]
  | lockClrPress | lockClrRelease =>
    simp (disch := decide) only [keeps_ite_iff, Keeps.refl, implies_true, and_self, State.updSafety_keeps,
      State.traceClear_keeps, State.startSealing_keeps, State.clearLockout_keeps, State.logLockout_keeps]
  | remoteTimeout =>
    split <;> simp (disch := decide) only [keeps_ite_iff, Keeps.refl, implies_true, and_self, State.answer_keeps]
  | ident | logRead | imageLoad | imageCommit =>
    refine State.serve_keeps (fun t => ?_) (by decide) _ _
    simp (disch := decide) only [keeps_ite_iff, Keeps.refl, implies_true, and_self, State.seqBounds_keeps,
      State.respond_keeps, State.readOwn_keeps, State.readRemote_keeps, State.writeBlocks_keeps, State.updService_keeps,
      State.logImage_keeps, State.arm_keeps]
  | invalidServiceRequest =>
    refine keeps_ite (State.serve_keeps (fun t => ?_) (by decide) _ _) (Keeps.refl _ s)
    exact (State.respond_keeps (by decide) _ _ _ _).mpr (Keeps.refl _ t)
  | imageStatusSend | requestGapTimeout | serviceKeyRemoved | imageVerified | fuseBlow =>
    simp (disch := decide) only [keeps_ite_iff, Keeps.refl, implies_true, and_self, State.sendImageStatus_keeps,
      State.updService_keeps, State.logImage_keeps, State.answer_keeps, State.updNv_keeps, State.statusOfCheck_keeps]
  | pumpRestart | pumpReleaseTimeout =>
    split <;>
      simp (disch := decide) only [keeps_ite_iff, Keeps.refl, implies_true, and_self, State.updOutputs_keeps,
        State.updChan_keeps, State.gateOn_keeps, State.fenceChan_keeps]
  | gateTurnOn | pullInEnd | outputHardShort | inrushOvercurrent | overcurrent | overcurrentRetry | openLoad | offStateCurrent
  | pumpDip | vswLow | vswRecovered | inrushWindowEnd =>
    simp (disch := decide) only [keeps_ite_iff, Keeps.refl, implies_true, and_self, State.gateOn_keeps, State.updChan_keeps,
      State.fenceChan_keeps, State.overcurrent_keeps, State.raise_keeps_calm, State.updOutputs_keeps, State.ruleOff_keeps,
      State.raiseAlso_keeps_calm, State.dipChan_keeps, State.allChannelsOff_keeps, State.settle_keeps, State.openPack_keeps,
      State.restartHeld_keeps]
  | purgeDue | purgeStart | purgeHoldEnd | fanDirChange | tachEdge | tachFaultClear | standstill | fanStall | fanRampEnd =>
    simp (disch := decide) only [keeps_ite_iff, Keeps.refl, implies_true, and_self, State.updFan_keeps,
      State.raise_keeps_calm]
  | testPulse | interlockOpen | interlockClosed | interlockTrump | demandOpeningComplete | demandIntervalExpiry
  | degradedTimeExpiry | degradedTimerClear =>
    simp (disch := decide) only [keeps_ite_iff, Keeps.refl, implies_true, and_self, State.judgeSource_keeps,
      State.judgeSamples_keeps, State.interlockChanged_keeps, State.updSafety_keeps, State.sendInterlock_keeps,
      State.updKeeper_keeps, State.saveDemand_keeps, State.demandPending_keeps, State.trip_keeps]
  | _ => exact keeps_all s _

/-! ### Operations that leave the straps alone -/

/-- Every group but the straps. -/
def offStraps : List Group := Group.all.erase .straps

/-- An operation whose frame leaves the straps out keeps them. -/
theorem straps_of_keeps_iff {u v : State} (h : Keeps offStraps u v ↔ Keeps offStraps u u) : v.straps = u.straps :=
  (h.mpr (Keeps.refl offStraps u)).group .straps (by decide)

@[simp] theorem State.raise_straps (s : State) (b : Block) (i : Nat) : (s.raise b i).straps = s.straps :=
  straps_of_keeps_iff (State.raise_keeps (by decide) b i)

@[simp] theorem State.raiseIf_straps (s : State) (c : Bool) (b : Block) (i : Nat) : (s.raiseIf c b i).straps = s.straps :=
  straps_of_keeps_iff (State.raiseIf_keeps (by decide) c b i)

@[simp] theorem State.raiseIf_length (s : State) (c : Bool) (b : Block) (i : Nat) :
    (s.raiseIf c b i).faults.length = s.faults.length := by
  unfold State.raiseIf
  split
  · exact s.raise_length b i
  · rfl

theorem State.raiseIf_mono (s : State) (c : Bool) (b : Block) (i : Nat) : StickyKept s (s.raiseIf c b i) := by
  unfold State.raiseIf
  split
  · exact s.raise_mono b i
  · exact StickyKept.refl s

/-! ### One pin of a live read -/

section
variable {rho : List Rat} {s t : State} {i j : Nat}

theorem State.liveRead_of_agrees (h : strapInvalid s.straps.latched i = false)
    (e : decodeLevel (rho.getD i 0) = s.straps.latched.getD i none) :
    s.liveRead rho i = s.updStraps fun x => { x with misses := x.misses.set i 0 } := by
  simp only [State.liveRead, h, e, Bool.false_eq_true, if_true, if_false]

theorem State.liveRead_of_differs (h : strapInvalid s.straps.latched i = false)
    (e : decodeLevel (rho.getD i 0) ≠ s.straps.latched.getD i none) :
    s.liveRead rho i =
      ((s.updStraps fun x => { x with misses := x.misses.set i (s.straps.misses.getD i 0 + 1) }).raise .strap 0).raiseIf
        (s.straps.misses.getD i 0 + 1 = 3) .strap 1 := by
  simp only [State.liveRead, h, e, Bool.false_eq_true, if_false]

/-- A live read writes one pin's count of misses and nothing else of the straps (R76 to R78). -/
theorem State.liveRead_straps (rho : List Rat) (s : State) (i : Nat) :
    ∃ ms, (s.liveRead rho i).straps = { s.straps with misses := ms } ∧ ms.length = s.straps.misses.length ∧
      ∀ j, i ≠ j → ms.getD j 0 = s.straps.misses.getD j 0 := by
  have written : ∀ n : Nat, (s.straps.misses.set i n).length = s.straps.misses.length ∧
      ∀ j, i ≠ j → (s.straps.misses.set i n).getD j 0 = s.straps.misses.getD j 0 := fun n =>
    ⟨List.length_set, fun j h => by simp [List.getD_eq_getElem?_getD, List.getElem?_set_ne h]⟩
  unfold State.liveRead
  split
  · exact ⟨s.straps.misses, rfl, rfl, fun _ _ => rfl⟩
  · split
    · exact ⟨_, rfl, written 0⟩
    · exact ⟨_, by simp, written (s.straps.misses.getD i 0 + 1)⟩

@[simp] theorem State.liveRead_latched (rho : List Rat) (s : State) (i : Nat) :
    (s.liveRead rho i).straps.latched = s.straps.latched := by
  obtain ⟨ms, e, -, -⟩ := s.liveRead_straps rho i
  rw [e]

@[simp] theorem State.liveRead_misses_length (rho : List Rat) (s : State) (i : Nat) :
    (s.liveRead rho i).straps.misses.length = s.straps.misses.length := by
  obtain ⟨ms, e, len, -⟩ := s.liveRead_straps rho i
  rw [e, len]

theorem State.liveRead_misses_ne (h : i ≠ j) :
    (s.liveRead rho i).straps.misses.getD j 0 = s.straps.misses.getD j 0 := by
  obtain ⟨ms, e, -, other⟩ := s.liveRead_straps rho i
  rw [e, other j h]

@[simp] theorem State.liveRead_length (rho : List Rat) (s : State) (i : Nat) :
    (s.liveRead rho i).faults.length = s.faults.length := by
  unfold State.liveRead
  split
  · rfl
  · split <;> simp

theorem State.liveRead_mono (rho : List Rat) (s : State) (i : Nat) : StickyKept s (s.liveRead rho i) :=
  (State.liveRead_sound (m := true) (l := true) rho i (Sound.refl _ _ s)).sticky rfl

/-- From `s` to `t` a live read has judged pin `i`: a valid pin that reads its own level starts its count again, one that reads
another has one more miss and STRAP bit 0 set (R76, R77). -/
def PinJudged (rho : List Rat) (s t : State) (i : Nat) : Prop :=
  strapInvalid s.straps.latched i = false →
    (decodeLevel (rho.getD i 0) = s.straps.latched.getD i none → t.straps.misses.getD i 0 = 0) ∧
    (decodeLevel (rho.getD i 0) ≠ s.straps.latched.getD i none →
      t.straps.misses.getD i 0 = s.straps.misses.getD i 0 + 1 ∧ t.has .strap 0 = true)

theorem State.liveRead_judges (hf : s.faults.length = 18) (hi : i < s.straps.misses.length) :
    PinJudged rho s (s.liveRead rho i) i := by
  refine fun valid => ⟨fun agrees => ?_, fun differs => ?_⟩
  · rw [State.liveRead_of_agrees valid agrees]
    simp [List.getD_eq_getElem?_getD, hi]
  · rw [State.liveRead_of_differs valid differs]
    refine ⟨by simp [List.getD_eq_getElem?_getD, hi], ?_⟩
    exact State.raiseIf_mono _ _ _ _ _ _ (State.raise_has _ _ _ hf (by decide))

/-! ### The whole read -/

theorem foldl_liveRead_latched (rho : List Rat) (l : List Nat) (s : State) :
    (l.foldl (State.liveRead rho) s).straps.latched = s.straps.latched := by
  induction l generalizing s with
  | nil => rfl
  | cons i l ih => rw [List.foldl_cons, ih, State.liveRead_latched]

theorem foldl_liveRead_misses (rho : List Rat) (l : List Nat) (s : State) (h : j ∉ l) :
    (l.foldl (State.liveRead rho) s).straps.misses.getD j 0 = s.straps.misses.getD j 0 := by
  induction l generalizing s with
  | nil => rfl
  | cons i l ih =>
    obtain ⟨hi, hl⟩ := not_or.mp (mt List.mem_cons.mpr h)
    rw [List.foldl_cons, ih _ hl, State.liveRead_misses_ne (Ne.symm hi)]

theorem foldl_liveRead_mono (rho : List Rat) (l : List Nat) (s : State) : StickyKept s (l.foldl (State.liveRead rho) s) := by
  induction l generalizing s with
  | nil => exact StickyKept.refl s
  | cons i l ih => exact (s.liveRead_mono rho i).trans (ih _)

/-- A read of several pins judges each of them as the read of that pin alone would: the reads of the others keep its count and
the latched levels. -/
theorem foldl_liveRead_judges (rho : List Rat) (l : List Nat) (s : State) (once : l.Nodup) (hf : s.faults.length = 18)
    (hl : ∀ i ∈ l, i < s.straps.misses.length) : ∀ i ∈ l, PinJudged rho s (l.foldl (State.liveRead rho) s) i := by
  induction l generalizing s with
  | nil => simp
  | cons k l ih =>
    obtain ⟨hk, once⟩ := List.nodup_cons.mp once
    intro i hi valid
    rw [List.foldl_cons]
    rcases List.mem_cons.mp hi with rfl | hi
    · obtain ⟨agrees, differs⟩ := State.liveRead_judges (rho := rho) hf (hl i List.mem_cons_self) valid
      rw [foldl_liveRead_misses rho l _ hk]
      exact ⟨agrees, fun e => ⟨(differs e).1, foldl_liveRead_mono rho l _ _ _ (differs e).2⟩⟩
    · have ne : k ≠ i := fun e => hk (e ▸ hi)
      have judged := ih (s.liveRead rho k) once (by simpa using hf)
        (fun j hj => by simpa using hl j (List.mem_cons_of_mem k hj)) i hi
      simp only [PinJudged, State.liveRead_latched, State.liveRead_misses_ne ne] at judged
      exact judged valid

theorem execStrapLiveRead_run (hr : s.running = true) (hs : s.dev.strapped = true) (ho : s.dev.offTest = false) :
    exec (.strapLiveRead rho) s = .next ((List.range 13).foldl (State.liveRead rho) s) := by
  simp [exec, execStrapLiveRead, hr, hs, ho]

theorem execStrapLiveRead_latched (h : exec (.strapLiveRead rho) s = .next t) : t.straps.latched = s.straps.latched := by
  cases h
  split
  · exact foldl_liveRead_latched rho _ s
  · rfl

/-! ### Start of the core -/

@[simp] theorem State.chooseSlot_straps (s : State) : s.chooseSlot.straps = s.straps :=
  straps_of_keeps_iff (State.chooseSlot_keeps (by decide))

@[simp] theorem State.bootLog_straps (s : State) : s.bootLog.straps = s.straps :=
  straps_of_keeps_iff (State.bootLog_keeps (by decide))

@[simp] theorem State.restoreKeeper_straps (s : State) : s.restoreKeeper.straps = s.straps :=
  straps_of_keeps_iff (State.restoreKeeper_keeps (by decide))

@[simp] theorem State.restoreServices_straps (s : State) : s.restoreServices.straps = s.straps :=
  straps_of_keeps_iff (State.restoreServices_keeps (by decide))

@[simp] theorem State.bootRecords_straps (s : State) (low : Bool) : (s.bootRecords low).straps = s.straps :=
  straps_of_keeps_iff (State.bootRecords_keeps (by decide) low)

@[simp] theorem State.probeRecords_straps (s : State) : s.probeRecords.straps = s.straps :=
  straps_of_keeps_iff (State.probeRecords_keeps (by decide))

@[simp] theorem State.log_straps (s : State) (t : Byte) (p : List Byte) : (s.log t p).straps = s.straps :=
  straps_of_keeps_iff (State.log_keeps (by decide) t p)

@[simp] theorem State.imageRecords_straps (s : State) (was : Bool) : (s.imageRecords was).straps = s.straps :=
  straps_of_keeps_iff (State.imageRecords_keeps (by decide) was)

@[simp] theorem State.lockoutCopies_straps (s : State) : s.lockoutCopies.straps = s.straps :=
  straps_of_keeps_iff (State.lockoutCopies_keeps (by decide))

@[simp] theorem State.bistFalls_straps (s : State) : s.bistFalls.straps = s.straps :=
  straps_of_keeps_iff (State.bistFalls_keeps (by decide))

/-- The start of the core writes the strap-mismatch state and nothing else of the straps (R87). -/
theorem State.startChecks_straps (s : State) (unpopulated : List Int) (low : Bool) :
    ∃ b, (s.startChecks unpopulated low).straps = { s.straps with mismatch := b } :=
  ⟨_, by simp only [State.startChecks, State.bistFalls_straps, State.updPins_straps, State.raiseIf_straps,
    State.updKeeper_straps, State.updStraps_straps]; rfl⟩

@[simp] theorem State.startChecks_latched (s : State) (unpopulated : List Int) (low : Bool) :
    (s.startChecks unpopulated low).straps.latched = s.straps.latched := by
  obtain ⟨b, e⟩ := s.startChecks_straps unpopulated low
  rw [e]

theorem execFirmwareStart_latched {unpopulated : List Int} {bkupMv : Nat}
    (h : exec (.firmwareStart unpopulated bkupMv) s = .next t) : t.straps.latched = s.straps.latched := by
  cases h
  split
  · rfl
  · simp only [↓State.updPins_straps, ↓State.updSupply_straps, ↓State.updService_straps, ↓State.updDev_straps,
      ↓State.lockoutCopies_straps, ↓State.updKeeper_straps, ↓State.startChecks_latched, ↓State.imageRecords_straps,
      ↓State.log_straps, ↓State.probeRecords_straps, ↓State.bootRecords_straps, ↓State.restoreServices_straps,
      ↓State.updRing_straps, ↓State.restoreKeeper_straps, ↓State.bootLog_straps, ↓State.chooseSlot_straps,
      ↓State.updNv_straps, ↓apply_ite State.straps, ite_self]

/-! ### Which commands can change the straps -/

theorem straps_not_mem_frame {c : Instr} (hr : c.mayReset = false) (hl : ∀ r a b, c ≠ .strapLatch r a b)
    (hread : ∀ rho, c ≠ .strapLiveRead rho) (hstart : ∀ u mv, c ≠ .firmwareStart u mv) : .straps ∉ c.frame := by
  cases c with
  | strapLatch r a b => exact absurd rfl (hl r a b)
  | strapLiveRead rho => exact absurd rfl (hread rho)
  | firmwareStart u mv => exact absurd rfl (hstart u mv)
  | _ =>
    revert hr
    dsimp only [Instr.mayReset, Instr.frame]
    decide

theorem exec_latched {c : Instr} (hr : c.mayReset = false) (hl : ∀ r a b, c ≠ .strapLatch r a b) (h : exec c s = .next t) :
    t.straps.latched = s.straps.latched := by
  cases c with
  | strapLiveRead rho => exact execStrapLiveRead_latched h
  | firmwareStart u mv => exact execFirmwareStart_latched h
  | _ =>
    have kept : t.straps = s.straps := (exec_frame _ s).next h .straps
      (straps_not_mem_frame hr hl (fun _ => nofun) (fun _ _ => nofun))
    rw [kept]

end

/-- Settles O18: a live read judges its pins one by one, each without touching the levels or another pin's count; of the
other commands the start of the core alone has the straps in its frame, and it writes the strap-mismatch state only. -/
theorem liveReadsLeaveTheStraps : Obligations.LiveReadsLeaveTheStraps := by
  refine ⟨fun s rho running strapped onLine blocks pins => ?_, fun c s t hr hl => exec_latched hr hl⟩
  have run := execStrapLiveRead_run (rho := rho) running strapped onLine
  refine runs_next run ⟨(exec_frame _ s).next run, foldl_liveRead_latched rho _ s, foldl_liveRead_mono rho _ s, fun i hi => ?_⟩
  exact foldl_liveRead_judges rho _ s List.nodup_range blocks (fun j hj => pins ▸ List.mem_range.mp hj) i (List.mem_range.mpr hi)

end Sys2Proof.Machine

/-!
PROOFS. The lowest state of the supplies: what an alert does, which commands write it, and from them that an alert held for 10 s
keeps it (R104 to R108).
-/
namespace Sys2Proof.Machine

/-! ### Operations that leave the supplies alone -/

/-- Every group but the supplies. -/
def offSupply : List Group := Group.all.erase .supply

/-- An operation whose frame leaves the supplies out keeps them. -/
theorem supply_of_keeps_iff {u v : State} (h : Keeps offSupply u v ↔ Keeps offSupply u u) : v.supply = u.supply :=
  (h.mpr (Keeps.refl offSupply u)).group .supply (by decide)

section
variable (s : State)

@[simp] theorem State.raise_supply (b : Block) (i : Nat) : (s.raise b i).supply = s.supply :=
  supply_of_keeps_iff (State.raise_keeps (by decide) b i)

@[simp] theorem State.raiseIf_supply (c : Bool) (b : Block) (i : Nat) : (s.raiseIf c b i).supply = s.supply :=
  supply_of_keeps_iff (State.raiseIf_keeps (by decide) c b i)

@[simp] theorem State.traceAlert_supply (enter : Bool) (bitNo : Nat) : (s.traceAlert enter bitNo).supply = s.supply :=
  supply_of_keeps_iff (State.traceAlert_keeps (by decide) enter bitNo)

@[simp] theorem State.endJobs_supply (c : Job → Bool) : (s.endJobs c).supply = s.supply :=
  supply_of_keeps_iff (State.endJobs_keeps (by decide) c)

@[simp] theorem State.freezeFan_supply : s.freezeFan.supply = s.supply :=
  supply_of_keeps_iff (State.freezeFan_keeps (by decide))

@[simp] theorem State.noteReasons_supply (outDeals : Nat) : (s.noteReasons outDeals).supply = s.supply :=
  supply_of_keeps_iff (State.noteReasons_keeps (by decide) outDeals)

@[simp] theorem State.bootChecks_supply (reads : BootReads) : (s.bootChecks reads).supply = s.supply :=
  supply_of_keeps_iff (State.bootChecks_keeps (by decide) reads)

@[simp] theorem State.raiseInvalid_supply : s.raiseInvalid.supply = s.supply :=
  supply_of_keeps_iff (State.raiseInvalid_keeps (by decide))

@[simp] theorem State.chooseSlot_supply : s.chooseSlot.supply = s.supply :=
  supply_of_keeps_iff (State.chooseSlot_keeps (by decide))

@[simp] theorem State.bootLog_supply : s.bootLog.supply = s.supply :=
  supply_of_keeps_iff (State.bootLog_keeps (by decide))

@[simp] theorem State.restoreKeeper_supply : s.restoreKeeper.supply = s.supply :=
  supply_of_keeps_iff (State.restoreKeeper_keeps (by decide))

@[simp] theorem State.restoreServices_supply : s.restoreServices.supply = s.supply :=
  supply_of_keeps_iff (State.restoreServices_keeps (by decide))

@[simp] theorem State.bootRecords_supply (low : Bool) : (s.bootRecords low).supply = s.supply :=
  supply_of_keeps_iff (State.bootRecords_keeps (by decide) low)

@[simp] theorem State.probeRecords_supply : s.probeRecords.supply = s.supply :=
  supply_of_keeps_iff (State.probeRecords_keeps (by decide))

@[simp] theorem State.log_supply (t : Byte) (p : List Byte) : (s.log t p).supply = s.supply :=
  supply_of_keeps_iff (State.log_keeps (by decide) t p)

@[simp] theorem State.imageRecords_supply (was : Bool) : (s.imageRecords was).supply = s.supply :=
  supply_of_keeps_iff (State.imageRecords_keeps (by decide) was)

@[simp] theorem State.startChecks_supply (unpopulated : List Int) (low : Bool) :
    (s.startChecks unpopulated low).supply = s.supply :=
  supply_of_keeps_iff (State.startChecks_keeps (by decide) unpopulated low)

@[simp] theorem State.lockoutCopies_supply : s.lockoutCopies.supply = s.supply :=
  supply_of_keeps_iff (State.lockoutCopies_keeps (by decide))

end

/-! ### Jobs that end -/

section
variable (s : State)

theorem dropJob_jobs (j : Job) (b : Balance) : (dropJob j b).jobs = b.jobs.filter (· ≠ j) := by
  unfold dropJob
  split <;> rfl

theorem State.reportJob_jobs (j : Job) : (s.reportJob j).balance.jobs = s.balance.jobs := by
  have logged : ∀ (u : State) (t : Byte) (p : List Byte), (u.log t p).balance = u.balance := fun u t p =>
    ((State.log_keeps (G := [.logs]) (by decide) t p).mpr (Keeps.refl _ u)).group .balance (by decide)
  have traced : ∀ u : State, (u.traceJob j false).balance = u.balance := fun u =>
    ((State.traceJob_keeps (G := [.logs]) (by decide) j false).mpr (Keeps.refl _ u)).group .balance (by decide)
  have raised : ∀ (u : State) (c : Bool), (u.raiseIf c .raivo 0).balance = u.balance := fun u c =>
    ((State.raiseIf_keeps_calm (G := [.faults, .logs, .pins]) (by decide) (by decide) c).mpr (Keeps.refl _ u)).group .balance
      (by decide)
  simp only [State.reportJob, State.updBalance_balance, raised, traced, logged]

theorem State.endJob_jobs (j : Job) : (s.endJob j).balance.jobs = s.balance.jobs.filter (· ≠ j) := by
  unfold State.endJob
  dsimp only
  split
  · rw [State.reportJob_jobs, State.updBalance_balance, dropJob_jobs]
  · rw [State.updBalance_balance, dropJob_jobs]

theorem foldl_endJob_jobs (l : List Job) (s : State) :
    (l.foldl State.endJob s).balance.jobs = s.balance.jobs.filter (· ∉ l) := by
  induction l generalizing s with
  | nil => exact (List.filter_eq_self.mpr fun _ _ => decide_eq_true List.not_mem_nil).symm
  | cons j l ih =>
    rw [List.foldl_cons, ih, State.endJob_jobs, List.filter_filter]
    exact List.filter_congr fun x _ => by simp [Bool.and_comm]

/-- The jobs that are left are those that do not meet the condition (R370). -/
theorem State.endJobs_jobs (c : Job → Bool) : (s.endJobs c).balance.jobs = s.balance.jobs.filter (fun j => !c j) := by
  unfold State.endJobs
  rw [foldl_endJob_jobs]
  refine List.filter_congr fun j hj => ?_
  cases h : c j <;> simp [hj, h]

theorem foldl_jobs {α : Type} {f : State → α → State} (hf : ∀ t x, (f t x).balance.jobs = t.balance.jobs) (l : List α)
    (s : State) : (l.foldl f s).balance.jobs = s.balance.jobs := by
  induction l generalizing s with
  | nil => rfl
  | cons x l ih => rw [List.foldl_cons, ih, hf]

@[simp] theorem State.noteReasons_jobs (outDeals : Nat) : (s.noteReasons outDeals).balance.jobs = s.balance.jobs := by
  refine foldl_jobs (fun t r => ?_) throttleRank s
  dsimp only
  split
  · split <;> rfl
  · rfl

end

/-! ### The lowest state begins -/

section
variable {s t : State} {i : Nat}

theorem State.enterLowest_of_lowest (h : s.supply.lowest = true) (bitNo : Nat) : s.enterLowest bitNo = s := by
  simp [State.enterLowest, h]

/-- The lowest state begins once: its start is noted where it does not last already (R105). -/
theorem State.enterLowest_supply (s : State) (bitNo : Nat) :
    (s.enterLowest bitNo).supply = if s.supply.lowest then s.supply else { s.supply with lowest := true, lowestAt := s.now } := by
  unfold State.enterLowest
  split
  · rfl
  · simp

theorem State.enterLowest_mono (s : State) (bitNo : Nat) : StickyKept s (s.enterLowest bitNo) :=
  (State.enterLowest_sound (m := true) (l := true) bitNo (Sound.refl _ _ s)).sticky rfl

/-- The lowest state ends every job (R105). -/
theorem State.enterLowest_jobs (h : s.supply.lowest = false) (bitNo : Nat) : (s.enterLowest bitNo).balance.jobs = [] := by
  have frozen : ∀ u : State, u.freezeFan.balance = u.balance := fun u =>
    ((State.freezeFan_keeps (G := [.dev, .fan]) (by decide)).mpr (Keeps.refl _ u)).group .balance (by decide)
  simp [State.enterLowest, h, frozen, State.endJobs_jobs]

/-- The lowest state stops the feeds of both ports (R141). -/
theorem State.enterLowest_feed (h : s.supply.lowest = false) (bitNo : Nat) (p : Port) :
    ((s.enterLowest bitNo).port p).feed.active = false := by
  have noted : ∀ u : State, (u.noteReasons 0).port p = u.port p := fun u =>
    ((State.noteReasons_keeps (G := [.balance, .logs]) (by decide) 0).mpr (Keeps.refl _ u)).port p (by decide) (by decide)
  simp only [State.enterLowest, h, Bool.false_eq_true, if_false, noted]
  cases p <;> rfl

/-! ### An alert -/

/-- The alert is noted and its bit raised, before the lowest state begins (R104). -/
def State.noteAlert (s : State) (i : Nat) : State :=
  (s.updSupply fun v => { v with alerts := v.alerts.set i true }).raise .supply (i + 1)

@[simp] theorem State.noteAlert_supply (s : State) (i : Nat) :
    (s.noteAlert i).supply = { s.supply with alerts := s.supply.alerts.set i true } := by
  simp [State.noteAlert]

theorem State.noteAlert_has (hf : s.faults.length = 18) (hi : i + 1 < 16) : (s.noteAlert i).has .supply (i + 1) = true :=
  State.raise_has (s.updSupply _) .supply (i + 1) hf hi

theorem State.noteAlert_mono (s : State) (i : Nat) : StickyKept s (s.noteAlert i) :=
  State.raise_mono (s.updSupply _) .supply (i + 1)

theorem State.alert_of_active (h : s.supply.alerts.getD i false = true) : s.alert i = s := by
  simp only [State.alert, h, if_true]

theorem State.alert_of_inactive (h : s.supply.alerts.getD i false = false) :
    s.alert i = (s.noteAlert i).enterLowest (i + 1) := by
  simp only [State.alert, State.noteAlert, h, Bool.false_eq_true, if_false]

/-- An alert sets the lowest state and leaves its being held until reset as it was. -/
theorem State.alert_lowestHeld (s : State) (i : Nat) : (s.alert i).supply.lowestHeld = s.supply.lowestHeld := by
  cases h : s.supply.alerts.getD i false with
  | true => rw [State.alert_of_active h]
  | false =>
    rw [State.alert_of_inactive h, State.enterLowest_supply]
    split <;> simp

theorem State.alert_lowest (h : s.supply.alerts.getD i false = false ∨ s.supply.lowest = true) :
    (s.alert i).supply.lowest = true := by
  cases active : s.supply.alerts.getD i false with
  | true =>
    rw [State.alert_of_active active]
    exact h.resolve_left (by rw [active]; decide)
  | false =>
    rw [State.alert_of_inactive active, State.enterLowest_supply]
    split <;> simp_all

/-- What an alert that becomes active leaves (R104 to R106). -/
theorem State.alert_begins (hf : s.faults.length = 18) (hi : i < s.supply.alerts.length) (hb : i + 1 < 16)
    (h : s.supply.alerts.getD i false = false) :
    (s.alert i).supply.alerts.getD i false = true ∧ (s.alert i).has .supply (i + 1) = true ∧ StickyKept s (s.alert i) ∧
      (s.supply.lowest = false → (s.alert i).balance.jobs = [] ∧ ∀ p, ((s.alert i).port p).feed.active = false) := by
  rw [State.alert_of_inactive h]
  refine ⟨?_, State.enterLowest_mono _ _ _ _ (State.noteAlert_has hf hb), (s.noteAlert_mono i).trans (State.enterLowest_mono _ _),
    fun low => ?_⟩
  · rw [State.enterLowest_supply]
    split <;> simp [List.getD_eq_getElem?_getD, hi]
  · have low : (s.noteAlert i).supply.lowest = false := by simpa using low
    exact ⟨State.enterLowest_jobs low _, State.enterLowest_feed low _⟩

end

section
variable {s t : State}

/-! ### The commands about alerts -/

theorem alertIndex_lt (k : Option BuckAlert) : alertIndex k < 4 := by
  rcases k with _ | _ | _ | _ <;> decide

theorem execAlertN_run (h : s.running = true) : exec .alertN s = .next (s.alert 0) := by
  simp [exec, execAlertN, h]

theorem execInternalAlert_run {k : BuckAlert} (h : s.running = true) (counts : ¬ (k = .vmodLow ∧ s.supply.fromVaux = true)) :
    exec (.internalAlert k) s = .next (s.alert (alertIndex (some k))) := by
  have ignored : (decide (k = .vmodLow) && s.supply.fromVaux) = false :=
    Bool.eq_false_iff.mpr fun e => counts (by simpa only [Bool.and_eq_true, decide_eq_true_eq] using e)
  simp only [exec, execInternalAlert, h, ignored, Bool.not_false, Bool.and_self, if_true]

theorem execAlertTimeout_run (h : s.running = true) (active : s.supply.alerts.any id = true) :
    exec .alertTimeout s = .next ((s.updSupply fun v => { v with lowestHeld := true }).raise .supply 5) := by
  simp only [exec, execAlertTimeout, h, active, Bool.and_self, if_true]

theorem execAlertInactive_active {k : Option BuckAlert} (h : s.supply.alerts.getD (alertIndex k) false = true) :
    exec (.alertInactive k) s = .next { s with supply :=
      { s.supply with alerts := s.supply.alerts.set (alertIndex k) false, quietAt := s.now } } := by
  simp only [exec, execAlertInactive, State.updSupply, h, if_true]

/-- One of the commands of R104 runs as the alert of its index. -/
theorem exec_alert {c : Instr} {i : Nat} (hr : s.running = true)
    (hc : (c = .alertN ∧ i = 0) ∨
      (∃ k, c = .internalAlert k ∧ i = alertIndex (some k) ∧ ¬ (k = .vmodLow ∧ s.supply.fromVaux = true))) :
    exec c s = .next (s.alert i) ∧ i < 4 := by
  rcases hc with ⟨rfl, rfl⟩ | ⟨k, rfl, rfl, counts⟩
  · exact ⟨execAlertN_run hr, by decide⟩
  · exact ⟨execInternalAlert_run hr counts, alertIndex_lt _⟩

/-! ### Commands that keep the lowest state as it is -/

/-- Whether the lowest state lasts, and whether it is held until reset, are the same in both states. -/
def SameLowest (s t : State) : Prop := t.supply.lowest = s.supply.lowest ∧ t.supply.lowestHeld = s.supply.lowestHeld

theorem SameLowest.of_supply (h : t.supply = s.supply) : SameLowest s t := by
  simp [SameLowest, h]

theorem execVauxInvalid_sameLowest (h : exec .vauxInvalid s = .next t) : SameLowest s t := by
  cases h
  simp only [SameLowest]
  split
  · exact ⟨rfl, rfl⟩
  · split <;> simp

theorem execAlertInactive_sameLowest {k : Option BuckAlert} (h : exec (.alertInactive k) s = .next t) : SameLowest s t := by
  cases h
  simp only [SameLowest, State.updSupply_supply]
  split <;> exact ⟨rfl, rfl⟩

theorem execBuckEnergySample_supply {mv ua : Nat} (h : exec (.buckEnergySample mv ua) s = .next t) : t.supply = s.supply := by
  cases h
  rfl

theorem execBeaconSilenceTimeout_supply (h : exec .beaconSilenceTimeout s = .next t) : t.supply = s.supply := by
  cases h
  split <;> rfl

theorem execVauxAbsenceExpiry_supply (h : exec .vauxAbsenceExpiry s = .next t) : t.supply = s.supply := by
  cases h
  refine Keeps.group (G := offSupply) ?_ .supply (by decide)
  simp (disch := decide) only [keeps_ite_iff, Keeps.refl, implies_true, and_self, State.beginEntry_keeps,
    State.updServices_keeps, State.openSequenced_keeps, State.openPack_keeps]

/-- The latching of the straps writes the source of the buck and nothing else of the supplies (R96). -/
theorem execStrapLatch_sameLowest {reads : BootReads} {first second : List Rat}
    (h : exec (.strapLatch reads first second) s = .next t) : SameLowest s t := by
  cases h
  split
  · exact SameLowest.of_supply rfl
  · simp only [SameLowest, ↓State.raiseInvalid_supply, ↓apply_ite State.supply, ↓State.updPort_supply, ite_self,
      ↓State.updSupply_supply, ↓State.updProbes_supply, ↓State.updClocks_supply, ↓State.updRing_supply, ↓State.updDev_supply,
      ↓State.updKeeper_supply, ↓State.updStraps_supply, ↓State.bootChecks_supply, and_self]

/-- The start of the core writes the bias of TREF and nothing else of the supplies (R164). -/
theorem execFirmwareStart_sameLowest {unpopulated : List Int} {bkupMv : Nat}
    (h : exec (.firmwareStart unpopulated bkupMv) s = .next t) : SameLowest s t := by
  cases h
  split
  · exact SameLowest.of_supply rfl
  · simp only [SameLowest, ↓State.updPins_supply, ↓State.updSupply_supply, ↓State.updService_supply, ↓State.updDev_supply,
      ↓State.lockoutCopies_supply, ↓State.updKeeper_supply, ↓State.startChecks_supply, ↓State.imageRecords_supply,
      ↓State.log_supply, ↓State.probeRecords_supply, ↓State.bootRecords_supply, ↓State.restoreServices_supply,
      ↓State.updRing_supply, ↓State.restoreKeeper_supply, ↓State.bootLog_supply, ↓State.chooseSlot_supply,
      ↓State.updNv_supply, ↓apply_ite State.supply, ite_self, and_self]

/-! ### The lowest state that is held -/

/-- The lowest state lasts, held until reset (R108). -/
def Supply.HeldLowest (v : Supply) : Prop := v.lowest = true ∧ v.lowestHeld = true

theorem SameLowest.heldLowest (h : SameLowest s t) (held : s.supply.HeldLowest) : t.supply.HeldLowest :=
  ⟨h.1.trans held.1, h.2.trans held.2⟩

theorem State.leaveLowest_of_held (h : s.supply.lowestHeld = true) : s.leaveLowest = s := by
  simp [State.leaveLowest, h]

theorem State.alert_heldLowest (held : s.supply.HeldLowest) (i : Nat) : (s.alert i).supply.HeldLowest :=
  ⟨State.alert_lowest (.inr held.1), (s.alert_lowestHeld i).trans held.2⟩

theorem execAlertTimeout_heldLowest (h : exec .alertTimeout s = .next t) (held : s.supply.HeldLowest) : t.supply.HeldLowest := by
  cases h
  split
  · exact ⟨by simpa using held.1, by simp⟩
  · exact held

/-- A boundary keeps the supplies where the lowest state is held: of its updates only the end of the lowest state writes them,
and that one waits for the reset. -/
theorem execDealBoundary_supply (held : s.supply.HeldLowest) (h : exec .dealBoundary s = .next t) : t.supply = s.supply := by
  cases h
  split
  · rfl
  · have before : Keeps offSupply s s.moveDeal.countCheckIn.endReactions.acvBoundary.dieRelease.closeEpisodes := by
      simp (disch := decide) only [State.closeEpisodes_keeps, State.dieRelease_keeps, State.acvBoundary_keeps,
        State.endReactions_keeps, State.countCheckIn_keeps, State.moveDeal_keeps, Keeps.refl]
    have supply : s.moveDeal.countCheckIn.endReactions.acvBoundary.dieRelease.closeEpisodes.supply = s.supply :=
      before.group .supply (by decide)
    dsimp only
    rw [State.leaveLowest_of_held (by rw [supply]; exact held.2)]
    refine Keeps.group (G := offSupply) ?_ .supply (by decide)
    simp (disch := decide) only [State.updSafety_keeps, State.repeatFatal_keeps, State.fanBoundary_keeps, State.heating_keeps,
      State.lamps_keeps, State.noteReasons_keeps, State.acvSelect_keeps, State.schedule_keeps, before]

/-- No command that leaves the device out of reset ends a lowest state that is held (R108): of the commands with the supplies
in their frame none clears it. -/
theorem exec_heldLowest {c : Instr} (hr : c.mayReset = false) (h : exec c s = .next t) (held : s.supply.HeldLowest) :
    t.supply.HeldLowest := by
  cases c with
  | dealBoundary => exact execDealBoundary_supply held h ▸ held
  | buckEnergySample => exact execBuckEnergySample_supply h ▸ held
  | beaconSilenceTimeout => exact execBeaconSilenceTimeout_supply h ▸ held
  | vauxInvalid => exact (execVauxInvalid_sameLowest h).heldLowest held
  | vauxAbsenceExpiry => exact execVauxAbsenceExpiry_supply h ▸ held
  | alertN =>
    cases h
    split
    · exact State.alert_heldLowest held _
    · exact held
  | internalAlert =>
    cases h
    split
    · exact State.alert_heldLowest held _
    · exact held
  | alertTimeout => exact execAlertTimeout_heldLowest h held
  | alertInactive => exact (execAlertInactive_sameLowest h).heldLowest held
  | strapLatch => exact (execStrapLatch_sameLowest h).heldLowest held
  | firmwareStart => exact (execFirmwareStart_sameLowest h).heldLowest held
  | _ =>
    have kept : t.supply = s.supply := (exec_frame _ s).next h .supply (by
      revert hr
      dsimp only [Instr.mayReset, Instr.frame]
      decide)
    exact kept ▸ held

end

/-- Settles O27: an alert that becomes active raises its bit, and the lowest state it begins drops every job and both feeds; of the
commands that leave the device out of reset only a boundary can end the lowest state, and a held one it leaves. -/
theorem alertsMakeTheLowestState : Obligations.AlertsMakeTheLowestState := by
  refine fun s => ⟨fun c i hc running blocks known inactive => ?_, fun k => execAlertInactive_active,
    fun running blocks active => ?_, fun c t hr h lowest held => exec_heldLowest hr h ⟨lowest, held⟩⟩
  · obtain ⟨run, hi⟩ := exec_alert running hc
    obtain ⟨noted, raised, sticky, ends⟩ := State.alert_begins blocks known (by omega) inactive
    exact runs_next run ⟨(State.alert_keeps (by decide) i).mpr (Keeps.refl _ s), noted, State.alert_lowest (.inl inactive), raised,
      sticky, ends⟩
  · refine runs_next (execAlertTimeout_run running active) ⟨?_, by simp, by simp, State.raise_has _ _ _ blocks (by decide),
      by decide, State.raise_mono (s.updSupply _) _ _⟩
    simp (disch := decide) only [State.raise_keeps_calm, State.updSupply_keeps, Keeps.refl]

end Sys2Proof.Machine

/-!
PROOFS. The lifeline: what entering LIFELINE and powering down leave of the harvester, what a feed writes on its port, and from
them the harvester, its power-good and the feed of a neighbour (R132 to R144).
-/
namespace Sys2Proof.Machine

/-! ### Powering down and entering LIFELINE -/

section
variable (s : State)

@[simp] theorem State.powerDown_phase (ph : Phase) : (s.powerDown ph).dev.phase = ph := rfl

@[simp] theorem State.powerDown_life (ph : Phase) : (s.powerDown ph).life = s.life := rfl

@[simp] theorem State.powerDown_nv (ph : Phase) : (s.powerDown ph).nv = s.nv := rfl

@[simp] theorem State.enterLifeline_phase : s.enterLifeline.dev.phase = .lifeline := rfl

@[simp] theorem State.enterLifeline_nv : s.enterLifeline.nv = s.nv := rfl

/-- LIFELINE starts its count of reports again and leaves the power-good as it was (R144, R146). -/
theorem State.enterLifeline_life : s.enterLifeline.life.reports = 0 ∧ s.enterLifeline.life.good = s.life.good := ⟨rfl, rfl⟩

section
variable (p : Port) (g : Gen) (arriving : Bool)

theorem State.carrierOut_only_ports : Keeps [.portN, .portS] s (s.carrierOut p g arriving) :=
  (State.carrierOut_keeps (by decide) p g arriving).mpr (Keeps.refl _ s)

@[simp] theorem State.carrierOut_dev : (s.carrierOut p g arriving).dev = s.dev :=
  (s.carrierOut_only_ports p g arriving).group .dev (by decide)

@[simp] theorem State.carrierOut_life : (s.carrierOut p g arriving).life = s.life :=
  (s.carrierOut_only_ports p g arriving).group .life (by decide)

@[simp] theorem State.carrierOut_nv : (s.carrierOut p g arriving).nv = s.nv :=
  (s.carrierOut_only_ports p g arriving).group .nv (by decide)

end
end

section
variable {s t : State} {p : Port}

/-! ### Harvester and power-good -/

/-- The step-up starts from 1.2 V at the limiter's source while VMOD is below 7 V (R132). -/
theorem execStepUpStart_run {limiterMv vmodMv : Nat} (low : vmodMv < 7000) (lit : 1200 ≤ limiterMv) :
    exec (.stepUpStart limiterMv vmodMv) s = .next (s.updLife fun l => { l with stepUp := true, full := false }) := by
  simp [exec, execStepUpStart, low, lit]

/-- The sampled source is held at 70 % of its sample once the harvester controller regulates (R134). -/
theorem execOpenCircuitSample_regulated (h : s.life.regulated = true) (mv : Nat) :
    exec (.openCircuitSample .stepUp mv) s = .next (s.updLife fun l => { l with pointUp := mv * 7 }) ∧
    exec (.openCircuitSample (.rectifier .n) mv) s = .next (s.updLife fun l => { l with pointN := mv * 7 }) ∧
    exec (.openCircuitSample (.rectifier .s) mv) s = .next (s.updLife fun l => { l with pointS := mv * 7 }) := by
  simp [exec, execOpenCircuitSample, State.updLife, h]

/-- The power-good is on afterwards, whether the device enters LIFELINE or stays where it is (R143). -/
theorem execPowerGoodOn_good {vmodOk n k : Bool} (h : exec (.powerGoodOn vmodOk n k) s = .next t) :
    t.life.good = true ∧ t.nv = s.nv := by
  cases h
  dsimp only
  split
  · simp [State.enterLifeline_life]
  · exact ⟨rfl, rfl⟩

/-- A device in STORAGE that has noted a carrier and cannot boot enters LIFELINE (R143); from OFF it does the same, since OFF keeps
what STORAGE keeps (log 30). -/
theorem execPowerGoodOn_lifeline {n k : Bool} (h : exec (.powerGoodOn false n k) s = .next t)
    (dark : s.dev.phase = .storage ∨ s.dev.phase = .off) (noted : s.portN.carrierSeen = true ∨ s.portS.carrierSeen = true) :
    t.dev.phase = .lifeline ∧ t.life.reports = 0 := by
  cases h
  dsimp only
  split
  · simp [State.enterLifeline_life]
  · next refused =>
    simp only [Bool.and_eq_true, Bool.or_eq_true, decide_eq_true_eq] at refused
    exact absurd ⟨⟨dark, rfl⟩, noted⟩ refused

theorem execPowerGoodOff_ends (h : exec .powerGoodOff s = .next t) :
    t.life.good = false ∧ t.nv = s.nv ∧ (s.dev.phase = .lifeline → t.dev.phase = .off) := by
  cases h
  dsimp only
  split
  · exact ⟨rfl, rfl, fun _ => rfl⟩
  · next notLifeline => exact ⟨rfl, rfl, fun lifeline => absurd lifeline notLifeline⟩

/-! ### Feeding a neighbour -/

/-- What a feed writes on its own port, by whether the lowest state lasts (R138, R141, R232). -/
theorem State.startFeed_port :
    (s.supply.lowest = false → ((s.startFeed p).port p).feed = { Feed.off with active := true } ∧
      ((s.startFeed p).port p).line = [.control .marker, .control .marker, .control .marker, .feedCarrier]) ∧
    (s.supply.lowest = true → ((s.startFeed p).port p).feed = { Feed.off with suspended := true } ∧
      ((s.startFeed p).port p).line = (s.port p).line) := by
  constructor <;> intro lowest <;> simp [State.startFeed, lowest]

@[simp] theorem State.startFeed_port_other : (s.startFeed p).port p.other = s.port p.other := by
  unfold State.startFeed
  split <;> simp

/-- A feed starts on a port without one, or again after its wait (R138, R140). -/
theorem exec_startFeed {c : Instr} (may : s.mayFeed p = true)
    (hc : (c = .feedCarrierStart p ∧ (s.port p).feed.active = false ∧ (s.port p).feed.suspended = false ∧
        (s.port p).feed.waiting = false) ∨ (c = .feedRetry p ∧ (s.port p).feed.waiting = true)) :
    exec c s = .next (s.startFeed p) := by
  rcases hc with ⟨rfl, inactive, unsuspended, unwaiting⟩ | ⟨rfl, waiting⟩
  · simp [exec, execFeedCarrierStart, may, inactive, unsuspended, unwaiting]
  · simp [exec, execFeedRetry, may, waiting]

/-- A command that writes one port leaves the other and every group but the ports as it was. -/
theorem runs_updPort {c : Instr} {f : PortState → PortState} {P : PortState → Prop} (run : exec c s = .next (s.updPort p f))
    (h : P (f (s.port p))) :
    Runs c s fun t => Keeps [.portN, .portS] s t ∧ t.port p.other = s.port p.other ∧ P (t.port p) :=
  runs_next run ⟨(State.updPort_keeps (by decide) p f).mpr (Keeps.refl _ s), s.updPort_port_other p f,
    (s.updPort_port p f).symm ▸ h⟩

end

/-- Settles O31: the harvester's commands write the lifeline block alone; power-good on and off come down to what entering
LIFELINE and powering down leave; a feed starts by one operation on its port, and its window and timeout write that port only. -/
theorem harvesterAndFeeds : Obligations.HarvesterAndFeeds := by
  refine ⟨fun s => ⟨fun _ _ low lit => execStepUpStart_run low lit, rfl, rfl, rfl, execOpenCircuitSample_regulated,
    fun v n k => ?_, runs_next rfl (execPowerGoodOff_ends rfl)⟩, fun s p => ⟨fun c hc may => ?_, ?_, ?_⟩⟩
  · obtain ⟨good, nv⟩ := execPowerGoodOn_good (vmodOk := v) (n := n) (k := k) (s := s) rfl
    refine runs_next rfl ⟨good, nv, ?_⟩
    rintro dark rfl noted
    exact execPowerGoodOn_lifeline rfl dark noted
  · exact runs_next (exec_startFeed may hc)
      ⟨(State.startFeed_keeps (by decide) p).mpr (Keeps.refl _ s), State.startFeed_port_other, State.startFeed_port⟩
  · intro active
    exact runs_updPort (P := fun q => q.feed = _ ∧ q.line = _) rfl (by simp [active])
  · intro feeding
    exact runs_updPort (P := fun q => q.feed = _ ∧ q.line = _) rfl (by simp [feeding])

end Sys2Proof.Machine

/-!
PROOFS. The load outputs: what each operation on a channel leaves of it and of the others, and from them the protection of a
channel, of the pair of a pump and of the supply VSW (R392, R398 to R402, R404 to R406).
-/
namespace Sys2Proof.Machine

/-! ### Channels under the shared operations -/

section
variable {s t : State} {G : List Group} {i j bitNo rule : Nat} {st : ChanStage}

theorem Keeps.chan (h : Keeps G s t) (c : covers [.outputs] G = false) (j : Nat) : t.chan j = s.chan j := by
  have same : t.outputs = s.outputs := h.group .outputs c
  simp only [State.chan, same]

theorem Keeps.cfg (h : Keeps G s t) (c : covers [.straps] G = false) : t.cfg = s.cfg :=
  congrArg (fun x : Straps => inForce x.latched) (h.group .straps c)

theorem Channel.stage_ne_off_of_isOn {c : Channel} (on : c.isOn = true) : c.stage ≠ .off := by
  intro off
  simp [Channel.isOn, off] at on

/-- A channel the device does not have reads as one that is off. -/
theorem State.chan_of_length_le (out : s.outputs.channels.length ≤ i) : s.chan i = Channel.reset := by
  rw [State.chan, List.getD_eq_getElem?_getD, List.getElem?_eq_none out, Option.getD_none]

theorem State.lt_of_stage_ne_off (h : (s.chan i).stage ≠ .off) : i < s.outputs.channels.length := by
  refine Nat.lt_of_not_le fun out => h ?_
  rw [State.chan_of_length_le out]
  rfl

/-- OUT has no source of class F, so that raising one leaves the outputs alone (Table 16-5). -/
theorem State.raiseAlso_out_only (l : List Nat) : Keeps [.faults, .logs, .pins] s (s.raiseAlso .out bitNo l) :=
  (State.raiseAlso_keeps_calm (calm_of_block (by decide)) (by decide) l).mpr (Keeps.refl _ s)

@[simp] theorem State.raiseAlso_out_chan (l : List Nat) : (s.raiseAlso .out bitNo l).chan j = s.chan j :=
  (State.raiseAlso_out_only l).chan (by decide) j

theorem State.raise_out_only : Keeps [.faults, .logs, .pins] s (s.raise .out bitNo) := State.raiseAlso_out_only []

@[simp] theorem State.raise_out_chan : (s.raise .out bitNo).chan j = s.chan j := State.raiseAlso_out_chan []

@[simp] theorem State.settle_chan : s.settle.chan j = s.chan j := rfl

@[simp] theorem State.settle_vswOk : s.settle.outputs.vswOk = s.outputs.vswOk := rfl

@[simp] theorem State.updChan_faults {f : Channel → Channel} : (s.updChan i f).faults = s.faults := rfl

@[simp] theorem State.updChan_length {f : Channel → Channel} :
    (s.updChan i f).outputs.channels.length = s.outputs.channels.length := by
  simp [State.updChan, State.settle]

@[simp] theorem State.ruleOff_faults : (s.ruleOff i rule st).faults = s.faults :=
  ((State.ruleOff_keeps (G := [.logs, .outputs, .meas]) (by decide) i rule st).mpr (Keeps.refl _ s)).group .faults (by decide)

/-- A rule's turning off traces a gate that was on and writes its channel alone. -/
theorem State.ruleOff_eq_updChan : ∃ u : State, u.outputs = s.outputs ∧
    s.ruleOff i rule st = u.updChan i fun c => { c with stage := st, onAt := none } := by
  unfold State.ruleOff
  dsimp only
  split
  · exact ⟨s.traceOut i false rule, rfl, rfl⟩
  · exact ⟨s, rfl, rfl⟩

@[simp] theorem State.ruleOff_length : (s.ruleOff i rule st).outputs.channels.length = s.outputs.channels.length := by
  obtain ⟨u, same, e⟩ := s.ruleOff_eq_updChan (i := i) (rule := rule) (st := st)
  rw [e, State.updChan_length, same]

theorem State.chan_ruleOff (h : i < s.outputs.channels.length) :
    (s.ruleOff i rule st).chan i = { s.chan i with stage := st, onAt := none } := by
  obtain ⟨u, same, e⟩ := s.ruleOff_eq_updChan (i := i) (rule := rule) (st := st)
  rw [e, State.chan_updChan _ _ _ (same ▸ h), State.chan, State.chan, same]

theorem State.chan_ruleOff_ne (h : i ≠ j) : (s.ruleOff i rule st).chan j = s.chan j := by
  obtain ⟨u, same, e⟩ := s.ruleOff_eq_updChan (i := i) (rule := rule) (st := st)
  rw [e, State.chan_updChan_ne _ _ _ _ h, State.chan, State.chan, same]

/-! ### Fencing a channel -/

theorem State.chan_fenceChan (h : i < s.outputs.channels.length) : FencedOff ((s.fenceChan i bitNo).chan i) := by
  unfold State.fenceChan
  rw [State.raiseAlso_out_chan, State.chan_updChan _ _ _ (by simpa using h), State.chan_ruleOff h]
  exact ⟨rfl, rfl, rfl⟩

theorem State.chan_fenceChan_ne (h : i ≠ j) : (s.fenceChan i bitNo).chan j = s.chan j := by
  unfold State.fenceChan
  rw [State.raiseAlso_out_chan, State.chan_updChan_ne _ _ _ _ h, State.chan_ruleOff_ne h]

/-- The bit of the cause and the bit of the fenced channel are one error (R402). -/
theorem State.fenceChan_has (hf : s.faults.length = 18) (hi : i < 6) (hb : bitNo < 16) :
    (s.fenceChan i bitNo).has .out bitNo = true ∧ (s.fenceChan i bitNo).has .out (10 + i) = true :=
  ⟨State.raiseAlso_has _ _ _ _ (by simpa using hf) _ (by simp) hb,
    State.raiseAlso_has _ _ _ _ (by simpa using hf) _ (by simp) (by omega)⟩

theorem State.fenceChan_mono : StickyKept s (s.fenceChan i bitNo) :=
  (State.fenceChan_sound i bitNo (Sound.refl true true s)).sticky rfl

theorem State.fenceChan_frame : Keeps [.logs, .outputs, .meas, .faults, .pins] s (s.fenceChan i bitNo) :=
  (State.fenceChan_keeps (by decide) i bitNo).mpr (Keeps.refl _ s)

end

/-! ### One channel -/

section
variable {s : State} {ch : Fin 6} {i j : Nat}

/-- The hard short is never blanked: it fences a channel that conducts or has just dropped with its pump (R398). -/
theorem execOutputHardShort_run (unfenced : (s.chan ch.val).fenced = false) (run : s.running = true)
    (live : (s.chan ch.val).isOn = true ∨ ∃ b, (s.chan ch.val).stage = .dipped b) :
    exec (.outputHardShort ch) s = .next (s.fenceChan ch.val 0) := by
  rcases live with on | ⟨b, dipped⟩
  · simp [exec, execOutputHardShort, unfenced, run, on]
  · simp [exec, execOutputHardShort, unfenced, run, dipped]

theorem execOutputHardShort_fences (hf : s.faults.length = 18) (unfenced : (s.chan ch.val).fenced = false)
    (run : s.running = true) (live : (s.chan ch.val).isOn = true ∨ ∃ b, (s.chan ch.val).stage = .dipped b) :
    Runs (.outputHardShort ch) s fun t =>
      Keeps [.logs, .outputs, .meas, .faults, .pins] s t ∧ FencedOff (t.chan ch.val) ∧
      t.has .out 0 = true ∧ t.has .out (10 + ch.val) = true ∧ StickyKept s t ∧ ∀ j, j ≠ ch.val → t.chan j = s.chan j := by
  have staged : (s.chan ch.val).stage ≠ .off := by
    rcases live with on | ⟨b, dipped⟩
    · exact Channel.stage_ne_off_of_isOn on
    · simp [dipped]
  obtain ⟨cause, fence⟩ := State.fenceChan_has hf ch.isLt (by decide : 0 < 16)
  exact runs_next (execOutputHardShort_run unfenced run live) ⟨State.fenceChan_frame,
    State.chan_fenceChan (State.lt_of_stage_ne_off staged), cause, fence, State.fenceChan_mono,
    fun j other => State.chan_fenceChan_ne (Ne.symm other)⟩

/-- A fence for an over-current: of a coil at once, of another channel the second time within 60 s (R399). -/
theorem State.overcurrent_of_fences
    (h : chanRole s.cfg i = .coil ∨ ∃ x, (s.chan i).overAt = some x ∧ s.passed x 60000 = false) :
    s.overcurrent i = s.fenceChan i 2 := by
  unfold State.overcurrent
  by_cases coil : chanRole s.cfg i = .coil
  · exact if_pos coil
  · obtain ⟨x, again, near⟩ := h.resolve_left coil
    have second : ((s.chan i).overAt.any fun t => !s.passed t 60000) = true := by
      rw [again, Option.any_some, near, Bool.not_false]
    rw [if_neg coil, if_pos second]

theorem State.overcurrent_of_retries (heater : chanRole s.cfg i ≠ .coil)
    (first : ∀ x, (s.chan i).overAt = some x → s.passed x 60000 = true) :
    s.overcurrent i = ((s.ruleOff i 2 .retryWait).updChan i fun c => { c with overAt := some s.now }).raise .out 1 := by
  have none_near : ((s.chan i).overAt.any fun t => !s.passed t 60000) = false := by
    cases earlier : (s.chan i).overAt with
    | none => rfl
    | some x => rw [Option.any_some, first x earlier, Bool.not_true]
  unfold State.overcurrent
  rw [if_neg heater, none_near]
  exact if_neg Bool.false_ne_true

theorem State.chan_overcurrent_ne (h : i ≠ j) : (s.overcurrent i).chan j = s.chan j := by
  unfold State.overcurrent
  split
  · exact State.chan_fenceChan_ne h
  · split
    · exact State.chan_fenceChan_ne h
    · rw [State.raise_out_chan, State.chan_updChan_ne _ _ _ _ h, State.chan_ruleOff_ne h]

theorem State.overcurrent_mono : StickyKept s (s.overcurrent i) :=
  (State.overcurrent_sound i (Sound.refl true true s)).sticky rfl

/-- Both comparators end in one operation, on a channel that conducts (R398, R399). -/
theorem exec_overcurrent {c : Instr}
    (hc : (c = .inrushOvercurrent ch ∧ (s.chan ch.val).stage = .opening ∧ chanRole s.cfg ch.val ≠ .coil) ∨
      (c = .overcurrent ch ∧ ((s.chan ch.val).stage = .steady ∨
        (s.chan ch.val).stage = .opening ∧ chanRole s.cfg ch.val = .coil))) :
    exec c s = .next (s.overcurrent ch.val) ∧ (s.chan ch.val).stage ≠ .off := by
  rcases hc with ⟨rfl, opening, heater⟩ | ⟨rfl, steady | ⟨opening, coil⟩⟩
  · simp [exec, execInrushOvercurrent, opening, heater]
  · simp [exec, execOvercurrent, steady]
  · simp [exec, execOvercurrent, opening, coil]

theorem State.overcurrent_fences (hf : s.faults.length = 18) (hi : i < s.outputs.channels.length)
    (h : chanRole s.cfg i = .coil ∨ ∃ x, (s.chan i).overAt = some x ∧ s.passed x 60000 = false) :
    FencedOff ((s.overcurrent i).chan i) ∧ (s.overcurrent i).has .out 2 = true := by
  rw [State.overcurrent_of_fences h]
  exact ⟨State.chan_fenceChan hi, State.raiseAlso_has _ _ _ _ (by simpa using hf) _ (by simp) (by decide)⟩

theorem State.overcurrent_retries (hf : s.faults.length = 18) (hi : i < s.outputs.channels.length)
    (heater : chanRole s.cfg i ≠ .coil) (first : ∀ x, (s.chan i).overAt = some x → s.passed x 60000 = true) :
    (s.overcurrent i).chan i = { s.chan i with stage := .retryWait, onAt := none, overAt := some s.now } ∧
      (s.overcurrent i).has .out 1 = true := by
  rw [State.overcurrent_of_retries heater first]
  refine ⟨?_, State.raise_has _ _ _ (by simpa using hf) (by decide)⟩
  rw [State.raise_out_chan, State.chan_updChan _ _ _ (by simpa using hi), State.chan_ruleOff hi]

theorem execOpenLoad_coil (steady : (s.chan ch.val).stage = .steady) (coil : chanRole s.cfg ch.val = .coil) :
    exec (.openLoad ch) s = .next (s.fenceChan ch.val 4) := by
  simp [exec, execOpenLoad, steady, coil]

theorem execOpenLoad_other (steady : (s.chan ch.val).stage = .steady) (other : chanRole s.cfg ch.val ≠ .coil) :
    exec (.openLoad ch) s = .next (s.raise .out 3) := by
  simp [exec, execOpenLoad, steady, other]

theorem execOffStateCurrent_run (uncommanded : (s.chan ch.val).command = false) (off : (s.chan ch.val).isOn = false)
    (run : s.running = true) (used : chanRole s.cfg ch.val ≠ .none) :
    exec (.offStateCurrent ch) s = .next ((s.updChan ch.val fun c => { c with offCurrent := true }).raise .out 5) := by
  simp [exec, execOffStateCurrent, uncommanded, off, run, used]

theorem execPumpReleaseTimeout_run {inrush : Bool} (dipped : (s.chan ch.val).stage = .dipped inrush) :
    exec (.pumpReleaseTimeout ch) s = .next (s.fenceChan ch.val 7) := by
  simp [exec, execPumpReleaseTimeout, dipped]

end

/-! ### A pump that dips -/

/-- The dips of a pump within the last second (R405). -/
def State.nearDips (s : State) (k : Nat) : List Nat :=
  (s.outputs.pumps.getD k Pump.reset).dips.filter fun x => !s.passed x 1000

/-- A pump in undervoltage, with this dip among those that count (R404, R405). -/
def State.noteDip (s : State) (k : Nat) : State :=
  s.updOutputs fun o => { o with pumps := o.pumps.modify k fun q => { q with under := true, dips := s.nearDips k ++ [s.now] } }

/-- The third dip fences the pair of a pump as one error (R405). -/
def State.fencePair (s : State) (k : Nat) : State :=
  (((((s.ruleOff (2 * k) 3 .off).ruleOff (2 * k + 1) 3 .off).updChan (2 * k) fun c =>
    { c with fenced := true, command := false }).updChan (2 * k + 1) fun c =>
    { c with fenced := true, command := false })).raiseAlso .out 8 [10 + 2 * k, 11 + 2 * k]

/-- From `s` to `t` channel `i` has dropped with its pump: it waits to restart, and OUT bit 6 is set (R404). -/
def DroppedByPump (s t : State) (i : Nat) : Prop :=
  (t.chan i).stage = .dipped (decide ((s.chan i).stage = .opening) && decide (chanRole s.cfg i ≠ .coil)) ∧
  (t.chan i).command = (s.chan i).command ∧ t.has .out 6 = true

section
variable {s : State} {k : Fin 3} {i j a b : Nat}

theorem execPumpDip_first (run : (s.outputs.pumps.getD k.val Pump.reset).running = true) (few : (s.nearDips k.val).length < 2) :
    exec (.pumpDip k) s = .next (((s.noteDip k.val).dipChan (2 * k.val)).dipChan (2 * k.val + 1)) := by
  have under : ¬ 3 ≤ (s.nearDips k.val ++ [s.now]).length := by simp; omega
  unfold State.nearDips at under
  simp only [exec, execPumpDip, run, under, Bool.not_true, Bool.false_eq_true, if_false]
  rfl

theorem execPumpDip_third (run : (s.outputs.pumps.getD k.val Pump.reset).running = true) (many : 2 ≤ (s.nearDips k.val).length) :
    exec (.pumpDip k) s = .next ((s.noteDip k.val).fencePair k.val) := by
  have third : 3 ≤ (s.nearDips k.val ++ [s.now]).length := by simp; omega
  unfold State.nearDips at third
  simp only [exec, execPumpDip, run, third, Bool.not_true, Bool.false_eq_true, if_false, if_true]
  rfl

theorem State.dipChan_of_isOn (on : (s.chan i).isOn = true) :
    s.dipChan i = (s.ruleOff i 3 (.dipped ((s.chan i).stage = .opening && chanRole s.cfg i ≠ .coil))).raise .out 6 :=
  if_pos on

theorem State.dipChan_of_not_isOn (off : (s.chan i).isOn = false) : s.dipChan i = s :=
  if_neg (by simp [off])

theorem State.chan_dipChan_ne (h : i ≠ j) : (s.dipChan i).chan j = s.chan j := by
  unfold State.dipChan
  split
  · rw [State.raise_out_chan, State.chan_ruleOff_ne h]
  · rfl

theorem State.dipChan_frame : Keeps [.logs, .outputs, .meas, .faults, .pins] s (s.dipChan i) :=
  (State.dipChan_keeps (by decide) i).mpr (Keeps.refl _ s)

theorem State.dipChan_length : (s.dipChan i).faults.length = s.faults.length := by
  unfold State.dipChan
  split
  · simp
  · rfl

theorem State.dipChan_mono : StickyKept s (s.dipChan i) :=
  (State.dipChan_sound i (Sound.refl true true s)).sticky rfl

theorem State.dipChan_drops (hf : s.faults.length = 18) (on : (s.chan i).isOn = true) : DroppedByPump s (s.dipChan i) i := by
  have inRange := State.lt_of_stage_ne_off (Channel.stage_ne_off_of_isOn on)
  unfold DroppedByPump
  rw [State.dipChan_of_isOn on, State.raise_out_chan, State.chan_ruleOff inRange]
  exact ⟨rfl, rfl, State.raise_has _ _ _ (by simpa using hf) (by decide)⟩

theorem State.dipChan_isOn : ((s.dipChan i).chan i).isOn = false := by
  cases on : (s.chan i).isOn with
  | false => rw [State.dipChan_of_not_isOn on, on]
  | true =>
    have inRange := State.lt_of_stage_ne_off (Channel.stage_ne_off_of_isOn on)
    rw [State.dipChan_of_isOn on, State.raise_out_chan, State.chan_ruleOff inRange]
    rfl

theorem State.dipPair_isOn (ne : a ≠ b) (hi : i = a ∨ i = b) : (((s.dipChan a).dipChan b).chan i).isOn = false := by
  rcases hi with rfl | rfl
  · rw [State.chan_dipChan_ne ne.symm, State.dipChan_isOn]
  · exact State.dipChan_isOn

theorem State.dipPair_drops (hf : s.faults.length = 18) (ne : a ≠ b) (hi : i = a ∨ i = b) (on : (s.chan i).isOn = true) :
    DroppedByPump s ((s.dipChan a).dipChan b) i := by
  rcases hi with rfl | rfl
  · obtain ⟨stage, command, bit⟩ := State.dipChan_drops hf on
    unfold DroppedByPump
    rw [State.chan_dipChan_ne ne.symm]
    exact ⟨stage, command, State.dipChan_mono _ _ bit⟩
  · have same : (s.dipChan a).chan i = s.chan i := State.chan_dipChan_ne ne
    have drops := State.dipChan_drops (s := s.dipChan a) (State.dipChan_length.trans hf) (same.symm ▸ on)
    unfold DroppedByPump at drops ⊢
    rwa [same, State.dipChan_frame.cfg (by decide)] at drops

theorem State.fencePair_fences {k : Nat} (inRange : 2 * k + 1 < s.outputs.channels.length) (hi : i = 2 * k ∨ i = 2 * k + 1) :
    FencedOff ((s.fencePair k).chan i) := by
  have lower : 2 * k < s.outputs.channels.length := by omega
  have ne : 2 * k ≠ 2 * k + 1 := by omega
  unfold State.fencePair
  rw [State.raiseAlso_out_chan]
  rcases hi with rfl | rfl
  · rw [State.chan_updChan_ne _ _ _ _ ne.symm, State.chan_updChan _ _ _ (by simpa using lower), State.chan_ruleOff_ne ne.symm,
      State.chan_ruleOff lower]
    exact ⟨rfl, rfl, rfl⟩
  · rw [State.chan_updChan _ _ _ (by simpa using inRange), State.chan_updChan_ne _ _ _ _ ne,
      State.chan_ruleOff (by simpa using inRange)]
    exact ⟨rfl, rfl, rfl⟩

theorem State.fencePair_has (hf : s.faults.length = 18) {bitNo : Nat} (hb : bitNo ∈ [8, 10 + 2 * k.val, 11 + 2 * k.val]) :
    (s.fencePair k.val).has .out bitNo = true := by
  have small : bitNo < 16 := by simp at hb; omega
  exact State.raiseAlso_has _ _ _ _ (by simpa using hf) _ hb small

theorem State.fencePair_mono {k : Nat} : StickyKept s (s.fencePair k) :=
  (Keeps.sticky (G := [.logs, .outputs, .meas]) (by
    simp (disch := decide) only [State.updChan_keeps, State.ruleOff_keeps]
    exact Keeps.refl _ s) (by decide)).trans (State.raiseAlso_mono _ _ _ _)

theorem State.fencePair_frame {k : Nat} : Keeps [.outputs, .logs, .meas, .faults, .pins] s (s.fencePair k) := by
  unfold State.fencePair
  rw [State.raiseAlso_keeps_calm (calm_of_block (by decide)) (by decide)]
  simp (disch := decide) only [State.updChan_keeps, State.ruleOff_keeps]
  exact Keeps.refl _ s

end

/-! ### VSW below its limit -/

/-- From `s` to `t` no channel has turned on and VSW reads the same. -/
def TurnsNothingOn (s t : State) : Prop :=
  t.outputs.vswOk = s.outputs.vswOk ∧ ∀ j, (s.chan j).isOn = false → (t.chan j).isOn = false

/-- One channel off for VSW: a coil with its command withdrawn, a heater or lamp waiting (R406). -/
def State.dropChan (s : State) (rule i : Nat) : State :=
  if (s.chan i).stage = .off then s
  else if chanRole s.cfg i = .coil then s.commandOff i rule
  else s.ruleOff i rule .held

/-- Every channel and pump off for VSW (R406). -/
def State.vswDark (s : State) : State := ((s.updOutputs fun o => { o with vswOk := false }).allChannelsOff 4).settle

/-- What a device that runs does when VSW falls, before a Dealer opens its pack (R406). -/
def State.vswFalls (s : State) : State := s.vswDark.raise .out 9

section
variable {s t u : State} {i rule : Nat}

theorem TurnsNothingOn.of_outputs (h : t.outputs = s.outputs) : TurnsNothingOn s t := by
  unfold TurnsNothingOn State.chan
  rw [h]
  exact ⟨rfl, fun _ off => off⟩

theorem TurnsNothingOn.trans (h : TurnsNothingOn s t) (k : TurnsNothingOn t u) : TurnsNothingOn s u :=
  ⟨k.1.trans h.1, fun j off => k.2 j (h.2 j off)⟩

theorem turnsNothingOn_foldl {f : State → Nat → State} (hf : ∀ t i, TurnsNothingOn t (f t i)) (l : List Nat) (s : State) :
    TurnsNothingOn s (l.foldl f s) := by
  induction l generalizing s with
  | nil => exact .of_outputs rfl
  | cons i l ih => exact (hf s i).trans (ih (f s i))

theorem State.updChan_isOn {f : Channel → Channel} (dark : ∀ c, (f c).isOn = false) :
    ((s.updChan i f).chan i).isOn = false := by
  by_cases inRange : i < s.outputs.channels.length
  · rw [State.chan_updChan _ _ _ inRange, dark]
  · rw [State.chan_of_length_le (by simpa using Nat.le_of_not_lt inRange)]
    rfl

theorem State.updChan_turnsNothingOn {f : Channel → Channel} (dark : ∀ c, (f c).isOn = false) :
    TurnsNothingOn s (s.updChan i f) := by
  refine ⟨rfl, fun j off => ?_⟩
  by_cases ij : i = j
  · exact ij ▸ State.updChan_isOn dark
  · rw [State.chan_updChan_ne _ _ _ _ ij, off]

/-- A channel turned off is dark, whether or not the device has it, and no other turns on with it. -/
theorem State.commandOff_dark :
    ((s.commandOff i rule).chan i).isOn = false ∧ TurnsNothingOn s (s.commandOff i rule) := by
  unfold State.commandOff
  dsimp only
  split
  · exact ⟨State.updChan_isOn fun _ => rfl,
      .trans (.of_outputs (t := s.traceOut i false rule) rfl) (State.updChan_turnsNothingOn fun _ => rfl)⟩
  · exact ⟨State.updChan_isOn fun _ => rfl, State.updChan_turnsNothingOn fun _ => rfl⟩

theorem State.ruleOff_held_dark :
    ((s.ruleOff i rule .held).chan i).isOn = false ∧ TurnsNothingOn s (s.ruleOff i rule .held) := by
  obtain ⟨u, same, e⟩ := s.ruleOff_eq_updChan (i := i) (rule := rule) (st := .held)
  rw [e]
  exact ⟨State.updChan_isOn fun _ => rfl, .trans (.of_outputs same) (State.updChan_turnsNothingOn fun _ => rfl)⟩

theorem State.dropChan_dark :
    ((s.dropChan rule i).chan i).isOn = false ∧ TurnsNothingOn s (s.dropChan rule i) := by
  unfold State.dropChan
  split
  · next off => exact ⟨by simp [Channel.isOn, off], .of_outputs rfl⟩
  · split
    · exact State.commandOff_dark
    · exact State.ruleOff_held_dark

theorem foldl_dropChan_isOn (l : List Nat) (s : State) (h : i ∈ l) :
    ((l.foldl (fun t j => t.dropChan rule j) s).chan i).isOn = false := by
  induction l generalizing s with
  | nil => cases h
  | cons j l ih =>
    rcases List.mem_cons.mp h with rfl | later
    · exact (turnsNothingOn_foldl (fun _ _ => State.dropChan_dark.2) l _).2 _ State.dropChan_dark.1
    · exact ih _ later

theorem State.allChannelsOff_eq_foldl : s.allChannelsOff rule = (List.range 6).foldl (fun t j => t.dropChan rule j) s := rfl

theorem State.allChannelsOff_dark :
    (s.allChannelsOff rule).outputs.vswOk = s.outputs.vswOk ∧ ∀ i, i < 6 → ((s.allChannelsOff rule).chan i).isOn = false := by
  rw [State.allChannelsOff_eq_foldl]
  exact ⟨(turnsNothingOn_foldl (fun _ _ => State.dropChan_dark.2) _ s).1,
    fun i hi => foldl_dropChan_isOn _ s (List.mem_range.mpr hi)⟩

/-- The unsequenced opening writes the outputs only by turning coils off (R444). -/
theorem State.openPack_turnsNothingOn : TurnsNothingOn s (s.openPack rule) := by
  have coils : TurnsNothingOn s (s.coilsOff rule) := by
    refine turnsNothingOn_foldl (fun t i => ?_) _ s
    split
    · exact State.commandOff_dark.2
    · exact .of_outputs rfl
  have rest : Keeps [.logs, .services, .pins] (s.coilsOff rule) (s.openPack rule) := by
    unfold State.openPack
    simp (disch := decide) only [State.updServices_keeps, State.updPins_keeps, State.stringsOpen_keeps, State.setPack_keeps]
    exact Keeps.refl _ _
  exact coils.trans (.of_outputs (rest.group .outputs (by decide)))

theorem State.vswDark_frame : Keeps [.outputs, .logs, .meas] s s.vswDark := by
  unfold State.vswDark
  simp (disch := decide) only [State.settle_keeps, State.allChannelsOff_keeps, State.updOutputs_keeps]
  exact Keeps.refl _ s

theorem State.vswDark_isOn : s.vswDark.outputs.vswOk = false ∧ ∀ i, i < 6 → (s.vswDark.chan i).isOn = false := by
  obtain ⟨vsw, dark⟩ := (s.updOutputs fun o => { o with vswOk := false }).allChannelsOff_dark (rule := 4)
  unfold State.vswDark
  exact ⟨by rw [State.settle_vswOk, vsw]; rfl, fun i hi => by rw [State.settle_chan, dark i hi]⟩

theorem State.vswFalls_frame : Keeps [.outputs, .logs, .meas, .faults, .pins] s s.vswFalls := by
  unfold State.vswFalls
  exact (State.vswDark_frame.mono (by decide)).trans (State.raise_out_only.mono (by decide))

theorem State.vswFalls_isOn : s.vswFalls.outputs.vswOk = false ∧ ∀ i, i < 6 → (s.vswFalls.chan i).isOn = false := by
  have same : (s.vswDark.raise .out 9).outputs = s.vswDark.outputs := State.raise_out_only.group .outputs (by decide)
  unfold State.vswFalls State.chan
  rw [same]
  exact State.vswDark_isOn

theorem State.vswFalls_mono : StickyKept s s.vswFalls :=
  (State.vswDark_frame.sticky (by decide)).trans (State.raise_mono _ _ _)

theorem State.vswFalls_has (hf : s.faults.length = 18) : s.vswFalls.has .out 9 = true := by
  have same : s.vswDark.faults = s.faults := State.vswDark_frame.group .faults (by decide)
  exact State.raise_has _ _ _ ((congrArg List.length same).trans hf) (by decide)

theorem execVswLow_run (good : s.outputs.vswOk = true) (run : s.running = true) :
    exec .vswLow s = .next (if s.isDealer then s.vswFalls.openPack 4 else s.vswFalls) := by
  have role : s.vswFalls.isDealer = s.isDealer := by simp only [State.isDealer, State.vswFalls_frame.cfg (by decide)]
  have still : (s.updOutputs fun o => { o with vswOk := false }).running = true := run
  rw [← role]
  simp only [exec, execVswLow, good, still, Bool.not_true, Bool.false_eq_true, if_false]
  rfl

/-- VSW low turns every channel off with OUT bit 9 and opens a Dealer's pack (R406, R444). -/
theorem execVswLow_protects (hf : s.faults.length = 18) (good : s.outputs.vswOk = true) (run : s.running = true) :
    Runs .vswLow s fun t =>
      Keeps [.outputs, .logs, .meas, .faults, .pins, .services] s t ∧ t.outputs.vswOk = false ∧ t.has .out 9 = true ∧
      (∀ i, i < 6 → (t.chan i).isOn = false) ∧ StickyKept s t ∧
      (s.isDealer = true → t.services.pack = .opened ∧ t.pins.ready = false) := by
  obtain ⟨low, dark⟩ := s.vswFalls_isOn
  have frame : Keeps [.outputs, .logs, .meas, .faults, .pins, .services] s s.vswFalls := State.vswFalls_frame.mono (by decide)
  refine runs_next (execVswLow_run good run) ?_
  split
  · have opened : Keeps [.outputs, .logs, .meas, .pins, .services] s.vswFalls (s.vswFalls.openPack 4) :=
      (State.openPack_keeps (by decide) 4).mpr (Keeps.refl _ _)
    have sticky := opened.sticky (by decide)
    obtain ⟨vsw, off⟩ := s.vswFalls.openPack_turnsNothingOn (rule := 4)
    exact ⟨frame.trans (opened.mono (by decide)), vsw.trans low, sticky _ _ (State.vswFalls_has hf),
      fun i hi => off i (dark i hi), State.vswFalls_mono.trans sticky, fun _ => State.openPack_pack _ _⟩
  · next other => exact ⟨frame, low, State.vswFalls_has hf, dark, State.vswFalls_mono, fun dealer => absurd dealer other⟩

end

/-! ### The obligation -/

section
variable {s : State} {ch : Fin 6}

/-- An over-current writes its own channel and fences it or lets it wait for its retry (R399). -/
theorem execOvercurrent_protects {c : Instr} (hf : s.faults.length = 18)
    (hc : (c = .inrushOvercurrent ch ∧ (s.chan ch.val).stage = .opening ∧ chanRole s.cfg ch.val ≠ .coil) ∨
      (c = .overcurrent ch ∧ ((s.chan ch.val).stage = .steady ∨
        (s.chan ch.val).stage = .opening ∧ chanRole s.cfg ch.val = .coil))) :
    Runs c s fun t =>
      Keeps [.logs, .outputs, .meas, .faults, .pins] s t ∧ StickyKept s t ∧ (∀ j, j ≠ ch.val → t.chan j = s.chan j) ∧
      (chanRole s.cfg ch.val = .coil ∨ (∃ x, (s.chan ch.val).overAt = some x ∧ s.passed x 60000 = false) →
        FencedOff (t.chan ch.val) ∧ t.has .out 2 = true) ∧
      (chanRole s.cfg ch.val ≠ .coil → (∀ x, (s.chan ch.val).overAt = some x → s.passed x 60000 = true) →
        (t.chan ch.val).stage = .retryWait ∧ (t.chan ch.val).fenced = (s.chan ch.val).fenced ∧
        (t.chan ch.val).command = (s.chan ch.val).command ∧ (t.chan ch.val).overAt = some s.now ∧ t.has .out 1 = true) := by
  obtain ⟨run, staged⟩ := exec_overcurrent hc
  have inRange := State.lt_of_stage_ne_off staged
  refine runs_next run ⟨(State.overcurrent_keeps (by decide) _).mpr (Keeps.refl _ s), State.overcurrent_mono,
    fun j other => State.chan_overcurrent_ne (Ne.symm other), State.overcurrent_fences hf inRange, fun heater first => ?_⟩
  obtain ⟨channel, bit⟩ := State.overcurrent_retries hf inRange heater first
  rw [channel]
  exact ⟨rfl, rfl, rfl, rfl, bit⟩

/-- An off-state current is noted on its channel and reported, without a fence (R401). -/
theorem execOffStateCurrent_reports (hf : s.faults.length = 18) (uncommanded : (s.chan ch.val).command = false)
    (off : (s.chan ch.val).isOn = false) (run : s.running = true) (used : chanRole s.cfg ch.val ≠ .none)
    (inRange : ch.val < s.outputs.channels.length) :
    Runs (.offStateCurrent ch) s fun t =>
      Keeps [.outputs, .meas, .faults, .logs, .pins] s t ∧ t.chan ch.val = { s.chan ch.val with offCurrent := true } ∧
      t.has .out 5 = true ∧ StickyKept s t := by
  have noted : Keeps [.outputs, .meas] s (s.updChan ch.val fun c => { c with offCurrent := true }) :=
    (State.updChan_keeps (by decide) _ _).mpr (Keeps.refl _ s)
  refine runs_next (execOffStateCurrent_run uncommanded off run used)
    ⟨(noted.mono (by decide)).trans (State.raise_out_only.mono (by decide)), ?_, State.raise_has _ _ _ hf (by decide),
      (noted.sticky (by decide)).trans (State.raise_mono _ _ _)⟩
  rw [State.raise_out_chan, State.chan_updChan _ _ _ inRange]

/-- A fence for one cause, of a channel in any stage but off. -/
theorem runs_fenceChan {c : Instr} {bitNo : Nat} (hf : s.faults.length = 18) (hb : bitNo < 16)
    (run : exec c s = .next (s.fenceChan ch.val bitNo)) (staged : (s.chan ch.val).stage ≠ .off) :
    Runs c s fun t => Keeps [.logs, .outputs, .meas, .faults, .pins] s t ∧ FencedOff (t.chan ch.val) ∧
      t.has .out bitNo = true ∧ StickyKept s t :=
  runs_next run ⟨State.fenceChan_frame, State.chan_fenceChan (State.lt_of_stage_ne_off staged),
    (State.fenceChan_has hf ch.isLt hb).1, State.fenceChan_mono⟩

/-- A dip drops the pair of its pump; the third within 1 s fences it (R392, R404, R405). -/
theorem execPumpDip_protects {k : Fin 3} (hf : s.faults.length = 18)
    (run : (s.outputs.pumps.getD k.val Pump.reset).running = true) (inRange : 2 * k.val + 1 < s.outputs.channels.length) :
    Runs (.pumpDip k) s fun t =>
      Keeps [.outputs, .logs, .meas, .faults, .pins] s t ∧ StickyKept s t ∧
      (∀ i, (i = 2 * k.val ∨ i = 2 * k.val + 1) → (t.chan i).isOn = false) ∧
      ((s.nearDips k.val).length < 2 →
        ∀ i, (i = 2 * k.val ∨ i = 2 * k.val + 1) → (s.chan i).isOn = true → DroppedByPump s t i) ∧
      (2 ≤ (s.nearDips k.val).length →
        t.has .out 8 = true ∧ classOf .out 8 = .u ∧
        ∀ i, (i = 2 * k.val ∨ i = 2 * k.val + 1) → FencedOff (t.chan i) ∧ t.has .out (10 + i) = true) := by
  have noted : Keeps [.outputs] s (s.noteDip k.val) := (State.updOutputs_keeps (by decide) _).mpr (Keeps.refl _ s)
  have kept := noted.sticky (by decide)
  by_cases few : (s.nearDips k.val).length < 2
  · have ne : 2 * k.val ≠ 2 * k.val + 1 := by omega
    refine runs_next (execPumpDip_first run few) ⟨?_, (kept.trans State.dipChan_mono).trans State.dipChan_mono,
      fun i hi => State.dipPair_isOn ne hi, fun _ i hi on => State.dipPair_drops (s := s.noteDip k.val) hf ne hi on,
      fun many => absurd many (Nat.not_le_of_lt few)⟩
    exact (noted.mono (by decide)).trans ((State.dipChan_frame.trans State.dipChan_frame).mono (by decide))
  · have fences : ∀ i, (i = 2 * k.val ∨ i = 2 * k.val + 1) → FencedOff (((s.noteDip k.val).fencePair k.val).chan i) :=
      fun i hi => State.fencePair_fences inRange hi
    have bits : ∀ {bitNo}, bitNo ∈ [8, 10 + 2 * k.val, 11 + 2 * k.val] →
        ((s.noteDip k.val).fencePair k.val).has .out bitNo = true := State.fencePair_has (s := s.noteDip k.val) hf
    refine runs_next (execPumpDip_third run (Nat.le_of_not_lt few)) ⟨(noted.mono (by decide)).trans State.fencePair_frame,
      kept.trans State.fencePair_mono, fun i hi => ?_, fun many => absurd many few,
      fun _ => ⟨bits (by simp), by decide, fun i hi => ⟨fences i hi, bits ?_⟩⟩⟩
    · obtain ⟨-, -, off⟩ := fences i hi
      simp [Channel.isOn, off]
    · rcases hi with rfl | rfl
      · simp
      · simp; omega

end

/-- Settles O34: a fence is one operation, which a hard short, a second over-current, a coil's open load and a late pump reach;
the dip of a pump drops its pair channel by channel or fences both; VSW low folds over the channels and opens a Dealer's pack. -/
theorem outputsAreProtected : Obligations.OutputsAreProtected := by
  refine ⟨fun s ch hf => ⟨execOutputHardShort_fences hf, fun c => execOvercurrent_protects hf, fun steady => ⟨fun coil => ?_,
      fun other => ?_⟩, execOffStateCurrent_reports hf⟩,
    fun s hf => ⟨fun k => execPumpDip_protects hf, fun ch inrush dipped => ?_, execVswLow_protects hf⟩⟩
  · exact runs_fenceChan hf (by decide) (execOpenLoad_coil steady coil) (by simp [steady])
  · exact runs_next (execOpenLoad_other steady other)
      ⟨State.raise_out_only.mono (by decide), State.raise_has _ _ _ hf (by decide), State.raise_mono _ _ _⟩
  · exact runs_fenceChan hf (by decide) (execPumpReleaseTimeout_run dipped) (by simp [dipped])

end Sys2Proof.Machine

/-!
PROOFS. What every command keeps: the invariant of the machine; the sticky bits and the fatal state, if it can end in no reset; a
lock-out set in both copies and an open pack under it, unless it is a valid clear or a beacon to a device other than the Dealer
(R478, R492, R511, R512).
-/
namespace Sys2Proof
open Machine

/-- The command is neither a valid clear (R514) nor a beacon from which a Hand or a String Head copies LOCK (R511). -/
def Instr.keepsLockout (c : Instr) (s : State) : Prop :=
  (∀ ms, c = .lockClrRelease ms → s.clearVerdict ms ≠ 0) ∧ ∀ p f x y, c = .beaconReceived p f x y → s.isDealer = true

end Sys2Proof

namespace Sys2Proof.Machine

section
open State
variable {m l : Bool} {s u v : State}

/-! ### Rules for guards -/

section
variable {p : Prop} [Decidable p]

theorem sound_if (h : Sound m l s u) : Sound m l s (if p then u else s) := sound_ite h (.refl ..)

theorem sound_unless (h : Sound m l s u) : Sound m l s (if p then s else u) := sound_ite (.refl ..) h

/-- A step that a second one follows under a guard. -/
theorem sound_then_if (h : Sound m l s u) (k : Sound m l u v) : Sound m l s (if p then v else u) := h.trans (sound_if k)

theorem sound_then_unless (h : Sound m l s u) (k : Sound m l u v) : Sound m l s (if p then u else v) := h.trans (sound_unless k)

end

/-! ### Operations of single commands -/

theorem sat_le (n x : Nat) : sat n x ≤ n := by
  unfold sat
  split
  · assumption
  · exact Nat.le_refl n

theorem State.updNv_setSlot_sound (b x) (h : Sound m l s u) : Sound m l s (u.updNv (setSlot b x)) :=
  updNv_sound (fun k => Nat.le_trans (Nat.le_of_eq (setSlot_fuses b x _).1) k) (fun _ k => (setSlot_fuses b x _).2.trans k) h

theorem State.updNv_loseItem_sound (i) (h : Sound m l s u) : Sound m l s (u.updNv (loseItem i)) :=
  updNv_sound (by cases i <;> exact id) (by cases i <;> exact fun _ => id) h

/-- A keeper that lost its power takes the lock-out from the flash copy (R511). -/
theorem freshKeeper_sound (x : KeeperSource) (h : Sound m l s u) :
    Sound m l s { u with keeper := freshKeeper s.nv.lockout x } := by
  refine ⟨fun i => ?_, h.sticky, h.fatal, fun q keeper nv => ?_⟩
  · obtain ⟨flash, blocks, queue, trace, fuses⟩ := h.inv i
    exact ⟨flash, blocks, queue, trace, fuses⟩
  · obtain ⟨-, nvKept, pack⟩ := h.lock q keeper nv
    exact ⟨nv, nvKept, pack⟩

theorem Keeps.isDealer {G : List Group} (h : Keeps G s u) (c : covers [.straps] G = false) : u.isDealer = s.isDealer := by
  simp only [State.isDealer, h.cfg c]

/-! ### The commands that can clear a lock-out -/

/-- A release that is no valid clear leaves the lock-out; a valid clear keeps all else. -/
theorem execLockClrRelease_sound {ms : Nat} (refused : l = true → s.clearVerdict ms ≠ 0) :
    Runs (.lockClrRelease ms) s (Sound m l s) := by
  have judged := fun verdict =>
    traceClear_sound ms verdict <| updSafety_sound (fun f => { f with pressed := false }) <| Sound.refl m l s
  refine runs_next rfl <| sound_unless <| sound_ite (updSafety_sound _ <| .refl ..) <|
    sound_ite (sound_ite (judged _) <| startSealing_sound (judged _)) ?_
  split
  · next valid =>
    cases l with
    | false => exact clearLockout_sound _ (judged _)
    | true => exact absurd valid (refused rfl)
  · exact logLockout_sound _ _ _ (judged _)

/-- The Dealer takes nothing of LOCK from a beacon; any other device copies it. -/
theorem takeBeacon_sound {p : Port} {f : RxFrame} {t : Nat} {fits : Bool} (h : Sound m l s u)
    (dealer : l = true → u.isDealer = true) :
    Sound m l s (if u.isDealer then u.beaconAtDealer p f
      else if fits then (u.acceptBeacon p f t).relayBeacon p f else u.endBeaconCopy p f) := by
  cases l with
  | false =>
    exact sound_ite (beaconAtDealer_sound _ _ h) <|
      sound_ite (relayBeacon_sound _ _ <| acceptBeacon_sound _ _ _ h) (endBeaconCopy_sound _ _ h)
  | true =>
    rw [if_pos (dealer rfl)]
    exact beaconAtDealer_sound _ _ h

theorem execBeaconReceived_sound {p : Port} {f : RxFrame} {t : Nat} {cut : Option Bool} (dealer : l = true → s.isDealer = true) :
    Runs (.beaconReceived p f t cut) s (Sound m l s) := by
  refine runs_next rfl <| sound_unless <| sound_ite ?ended <|
    takeBeacon_sound (sound_ite ?freed <| countDropped_sound _ ?freed) fun q => ?_
  · exact endFeed_sound _ <| .refl ..
  · exact updPort_sound _ _ <| endFeed_sound _ <| .refl ..
  · refine (Keeps.isDealer (G := offStraps) ?_ (by decide)).trans (dealer q)
    simp (disch := decide) only [keeps_ite_iff, Keeps.refl, implies_true, and_self, State.endFeed_keeps, State.updPort_keeps,
      State.countDropped_keeps]

/-! ### Every command -/

/-- Every command is sound: for the sticky bits and the fatal state if it can end in no reset, for the lock-out unless it may
clear one. Each case runs through the operations the meaning is made of, the last one first. -/
theorem exec_sound (c : Instr) (s : State) (hold : l = true → c.keepsLockout s) : Runs c s (Sound (!c.mayReset) l s) := by
  cases c with (refine runs_next rfl ?_)
  -- Frames and links
  | beaconReceived p f t cut => exact (execBeaconReceived_sound fun q => (hold q).2 p f t cut rfl).next rfl
  | relayDelayedStart =>
    split
    · exact sendBeacon_sound _ _ <| updPort_sound _ _ <| .refl ..
    · split
      · exact .refl ..
      · exact sound_ite (queue_sound _ _ <| updPort_sound _ _ <| .refl ..)
          (freeSlot_sound _ <| queue_sound _ _ <| updPort_sound _ _ <| .refl ..)
  | frameBoundary port =>
    have started : Sound true l s ((atBoundary s port).getD (s.updPort port sendIdle)) :=
      (atBoundary_getD_keeps (G := [.portN, .portS]) (by decide)).sound (by decide)
    exact sound_unless <| sound_ite (updPort_sound _ _ <| .refl ..) <| sound_ite (updPort_sound _ _ <| .refl ..) <|
      sound_ite (updPort_sound _ _ <| .refl ..) started
  | linkDown => exact linkDown_sound _ <| .refl ..
  | ack =>
    exact sound_ite (sound_if <| updLife_sound _ <| .refl ..) <| sound_unless <|
      sound_then_if (endFeed_sound _ <| .refl ..) (updPort_sound _ _ <| .refl ..)
  | nak =>
    exact sound_unless <| sound_then_if (endFeed_sound _ <| .refl ..) (countFail_sound _ _ <| retransmit_sound _ _ <| .refl ..)
  | ackTimeout =>
    split
    · exact .refl ..
    · exact sound_if <| countFail_sound _ _ <| retransmit_sound _ _ <| .refl ..
  | meldDeadline => exact sound_if <| meldDeadline_sound _ <| meldDeadline_sound _ <| .refl ..
  | credit | feedListenWindow | feedTimeout => exact updPort_sound _ _ <| .refl ..
  | marker | l1Convert | l1Read => exact sound_if <| updPort_sound _ _ <| .refl ..
  | controlWordFailed | lockstepMismatch => exact sound_if <| raise_sound _ _ <| .refl ..
  | frameFailure => exact sound_if <| frameFailure_sound _ _ <| .refl ..
  | bufferParityError => exact sound_then_if (raise_sound _ _ <| .refl ..) (frameFailure_sound _ _ <| .refl ..)
  | poisonTail => exact sound_if <| sound_then_if (updPort_sound _ _ <| .refl ..) (poisonCopy_sound _ _ <| .refl ..)
  | linkUp =>
    refine sound_unless <| sound_ite (updPort_sound _ _ <| .refl ..) <| sound_unless ?_
    split
    · exact sound_ite (holdDown_sound _ _ <| .refl ..) (updPort_sound _ _ <| .refl ..)
    · exact sound_ite (holdDown_sound _ _ <| .refl ..)
        (linkCall_sound _ <| traceLink_sound _ _ _ <| updPort_sound _ _ <| .refl ..)
  | otherGenerationActivity => exact sound_if <| holdDown_sound _ _ <| .refl ..
  | carrierOnUpLink => exact sound_if <| linkDown_sound _ <| raise_sound _ _ <| .refl ..
  | skip =>
    refine sound_unless <| sound_ite ?heard <| sound_ite (drainAll_sound _ <| updPort_sound _ _ ?heard) <|
      sound_ite (updPort_sound _ _ ?heard) (updPort_sound _ _ ?heard)
    exact endFeed_sound _ <| .refl ..
  | lifelineReceived =>
    exact sound_unless <| sound_ite (inOrder_sound _ _ _ _ <| feedAnswered_sound _ <| .refl ..)
      (take_sound _ _ _ _ <| updPort_sound _ _ <| feedAnswered_sound _ <| .refl ..)
  | meldReceived | trumpReceived => exact receive_sound _ _ _ _ <| .refl ..
  | call | answer | sealChunk | sealConfirm | rejoin => exact receiveCall_sound _ _ _ <| .refl ..
  | imageBlock | imageStatus | logRequest | logRecords => exact receiveService_sound _ _ _ <| .refl ..
  -- Deals and membership
  | dealBeacon =>
    exact sound_unless <| storageAfterOpening_sound <| distributeBlocks_sound <| releaseHeld_sound <| sendChunks_sound <|
      afterBeacon_sound _ <| sendBeacon_sound _ _ <| sendBeacon_sound _ _ <| updDealer_sound _ <| takeOwnBeacon_sound _ <|
      sendCommands_sound <| sound_then_if (packAtT0_sound <| endPace_sound <| dealerDeal_sound _ _ <| .refl ..)
        (takeBaseline_sound <| kittyPeriod_sound _ <| .refl ..)
  | dealClosure =>
    refine sound_unless <| stagePublication_sound <| armPending_sound <| closurePins_sound <|
      sound_ite (servePack_sound <| pace_sound ?judged) (coreLost_sound ?judged)
    exact degradedClosure_sound <| raiseIf_sound _ _ _ <| sound_foldl _ (fun _ i => actRejoin_sound i <| .refl ..) <|
      sound_foldl _ (fun _ i => closePosition_sound i <| .refl ..) <| updVehicle_sound _ <| updDealer_sound _ <| .refl ..
  | dealBoundary =>
    exact sound_unless <| updSafety_sound _ <| repeatFatal_sound <| fanBoundary_sound <| heating_sound <| lamps_sound <|
      noteReasons_sound _ <| acvSelect_sound <| schedule_sound <| leaveLowest_sound <| closeEpisodes_sound <| dieRelease_sound <|
      acvBoundary_sound <| endReactions_sound <| countCheckIn_sound <| moveDeal_sound <| .refl ..
  | discoveryStart | discoveryRepeat => exact sound_if <| startDiscovery_sound _ <| .refl ..
  | sweepTimeout => exact sound_if <| endSweep_sound <| raise_sound _ _ <| updDealer_sound _ <| .refl ..
  | rejoinSend => exact sound_if <| updRing_sound _ <| send_sound _ _ _ <| .refl ..
  | beaconMissingOnPrimary =>
    exact sound_if <| updRing_sound _ <| takePhase_sound _ _ _ <| switchPrimary_sound _ <| .refl ..
  | beaconTimeout =>
    exact sound_if <| sound_then_if (raise_sound _ _ <| headOpens_sound <| .refl ..) (sendTrumpWords_sound _ <| .refl ..)
  -- Measurement, probes and level-1 devices
  | passivePause => exact sound_if <| updMeas_sound _ <| .refl ..
  | apertureOpen => exact sound_if <| updRing_sound _ <| updMeas_sound _ <| .refl ..
  | samplingInstant | accumulatorTick => exact sound_if <| updMeas_sound _ <| .refl ..
  | apertureClose =>
    exact sound_if <| afterAperture_sound <| updBist_sound _ <| legacyMelds_sound <| assemble_sound _ _ <|
      publishedWord_sound _ _ <| publishedWord_sound _ _ <| takeReadings_sound _ <| .refl ..
  | openWireTestEnd =>
    exact sound_unless <| sound_ite (raise_sound _ _ <| updMeas_sound _ <| updMeas_sound _ <| .refl ..) <|
      sound_foldl _ (fun t k => wireResult_sound _ _ k <| .refl ..) <| updMeas_sound _ <| .refl ..
  | strapLiveRead => exact sound_if <| sound_foldl _ (fun t i => liveRead_sound _ i <| .refl ..) <| .refl ..
  | probeDiscovery =>
    exact sound_unless <| probeRecords_sound <| censusMissing_sound <| raiseIf_sound _ _ _ <|
      sound_foldl _ (fun t x => probePass_sound x <| .refl ..) <| updProbes_sound _ <| .refl ..
  | probeBusFault | pwvddLimit => exact wireFails_sound <| .refl ..
  | frameTick => exact sound_if <| updProbes_sound _ <| .refl ..
  | slotWord => exact sound_unless <| raiseIf_sound _ _ _ <| updSlot_sound _ _ <| .refl ..
  | probeFrameEnd =>
    exact sound_if <| checkProbes_sound <| sound_foldl _ (fun t k => endSlot_sound k <| .refl ..) <| updProbes_sound _ <| .refl ..
  | storageWatch =>
    exact sound_unless <| sound_ite (updKeeper_sound (fun _ k => k) <| .refl ..) <| updNv_sound (fun k => k) (fun _ k => k) <|
      updKeeper_sound (fun _ k => k) <| writeRecord_sound _ _ <| writeRecord_sound _ _ <| writeRecord_sound _ _ <| .refl ..
  | l1Reply =>
    exact sound_unless <| sound_ite (raise_sound _ _ <| .refl ..) <| sound_unless <| checkReply_sound _ _ <|
      updDealer_sound _ <| .refl ..
  | l1ReplyTimeout =>
    exact sound_unless <| raiseIf_sound _ _ _ <| raise_sound _ _ <| updDealer_sound _ <| .refl ..
  -- Balancing
  | commandTimeout => exact sound_if <| endJobs_sound _ <| .refl ..
  | bleedCurrentLimit =>
    exact sound_unless <| sound_then_if (raise_sound _ _ <| updBalance_sound _ <| .refl ..) (fenceSwitch_sound _ _ <| .refl ..)
  | bleedCurrentCheck =>
    exact sound_unless <| sound_then_if (updBalance_sound _ <| .refl ..) (fenceSwitch_sound _ _ <| .refl ..)
  | bleedLeakage =>
    exact sound_unless <| sound_then_if (updBalance_sound _ <| .refl ..)
      (raise_sound _ _ <| endJobs_sound _ <| updBalance_sound _ <| .refl ..)
  | selectionConfirmed | acvPeak | acvZeroCurrent | balTripInactive => exact updBalance_sound _ <| .refl ..
  | switchingPeriod => exact updBalance_sound _ <| raiseIf_sound _ _ _ <| .refl ..
  | acvPeakTimeout =>
    split
    · exact raise_sound _ _ <| updBalance_sound _ <| .refl ..
    · exact .refl ..
  | acvDesaturation =>
    exact sound_unless <| sound_ite (fenceAcv_sound _ <| raise_sound _ _ <| updBalance_sound _ <| .refl ..) <|
      sound_then_if (raise_sound _ _ <| updBalance_sound _ <| .refl ..) <|
      sound_then_if (updBalance_sound _ <| .refl ..) (fenceAcv_sound _ <| .refl ..)
  | acvHardShort =>
    exact sound_unless <| sound_ite (fenceAcv_sound _ <| raise_sound _ _ <| updBalance_sound _ <| .refl ..) <|
      sound_then_if (raise_sound _ _ <| updBalance_sound _ <| .refl ..) (fenceAcv_sound _ <| .refl ..)
  | shootThrough | selLevelTimeout => exact sound_unless <| fenceAcv_sound _ <| .refl ..
  | balTrip => exact sound_then_if (updBalance_sound _ <| .refl ..) (noteReasons_sound _ <| latchTrip_sound <| .refl ..)
  | dieTrip =>
    refine sound_unless <| sound_ite (updBalance_sound _ <| .refl ..) <| noteReasons_sound _ <|
      sound_then_if (sound_then_if (sound_foldl _ (fun _ _ => ?off) <| raise_sound _ _ <| endJobs_sound _ <|
        updBalance_sound _ <| updBalance_sound _ <| .refl ..) (openPack_sound _ <| .refl ..))
        (raise_sound _ _ <| updBalance_sound _ <| .refl ..)
    exact sound_unless <| sound_ite (commandOff_sound _ _ <| .refl ..) (ruleOff_sound _ _ _ <| .refl ..)
  | ageingMeasurement =>
    exact sound_unless <| sound_then_if
      (updBalance_sound _ <| sound_foldl _ (fun _ _ => sound_if <| raise_sound _ _ <| .refl ..) <| updBalance_sound _ <|
        updNv_sound (fun k => k) (fun _ k => k) <| .refl ..) <|
      updBalance_sound _ <| logAgeing_sound _ _ _ <| logAgeing_sound _ _ _ <| logAgeing_sound _ _ _ <|
        logAgeing_sound _ _ _ <| .refl ..
  -- Outputs and fan
  | gateTurnOn => exact sound_if <| gateOn_sound _ _ <| .refl ..
  | pullInEnd | inrushWindowEnd => exact sound_if <| updChan_sound _ _ <| .refl ..
  | outputHardShort => exact sound_unless <| fenceChan_sound _ _ <| .refl ..
  | inrushOvercurrent | overcurrent => exact sound_if <| overcurrent_sound _ <| .refl ..
  | overcurrentRetry => exact sound_if <| sound_ite (gateOn_sound _ _ <| .refl ..) (updChan_sound _ _ <| .refl ..)
  | openLoad => exact sound_unless <| sound_ite (fenceChan_sound _ _ <| .refl ..) (raise_sound _ _ <| .refl ..)
  | offStateCurrent => exact sound_unless <| raise_sound _ _ <| updChan_sound _ _ <| .refl ..
  | pumpDip =>
    refine sound_unless <| sound_ite (raiseAlso_sound _ _ _ <| updChan_sound _ _ <| updChan_sound _ _ <| ruleOff_sound _ _ _ <|
      ruleOff_sound _ _ _ ?noted) (dipChan_sound _ <| dipChan_sound _ ?noted)
    exact updOutputs_sound _ <| .refl ..
  | pumpRestart =>
    split
    · refine sound_ite (updChan_sound _ _ ?up) <| sound_ite (gateOn_sound _ _ ?up) <| sound_ite (updChan_sound _ _ ?up) <|
        sound_ite (fenceChan_sound _ _ ?up) (gateOn_sound _ _ ?up)
      exact updOutputs_sound _ <| .refl ..
    · exact .refl ..
  | pumpReleaseTimeout =>
    split
    · exact fenceChan_sound _ _ <| .refl ..
    · exact .refl ..
  | vswLow =>
    refine sound_unless <| sound_ite ?low <|
      sound_then_if (raise_sound _ _ <| settle_sound <| allChannelsOff_sound _ ?low) (openPack_sound _ <| .refl ..)
    exact updOutputs_sound _ <| .refl ..
  | vswRecovered => exact sound_unless <| restartHeld_sound <| updOutputs_sound _ <| .refl ..
  | fanRampEnd | fanDirChange => exact sound_unless <| updFan_sound _ <| .refl ..
  | purgeDue | purgeStart => exact sound_if <| updFan_sound _ <| .refl ..
  | purgeHoldEnd | tachFaultClear | standstill => exact updFan_sound _ <| .refl ..
  | tachEdge =>
    refine sound_ite ?seen <| sound_ite (updFan_sound _ ?seen) <| sound_ite (updFan_sound _ ?seen) <| sound_ite ?seen <|
      sound_then_if (updFan_sound _ ?seen) (raise_sound _ _ <| updFan_sound _ <| .refl ..)
    exact updFan_sound _ <| .refl ..
  | fanStall => exact sound_unless <| raise_sound _ _ <| updFan_sound _ <| .refl ..
  -- Supplies and power states
  | buckEnergySample =>
    refine updKeeper_sound (fun _ k => ?_) <| .refl ..
    split <;> exact k
  | keeperSourceSwitch =>
    split
    · exact freshKeeper_sound _ <| powerDown_sound _ <| .refl ..
    · exact sound_unless <| updKeeper_sound (fun _ k => k) <| powerDown_sound _ <| .refl ..
    · refine updKeeper_sound (fun _ k => ?_) <| .refl ..
      split <;> exact k
  | wakeCarrierDetect =>
    refine sound_unless ?_
    split
    · refine updDev_sound (fun k => ?_) <| .refl ..
      split <;> exact k
    · exact updLife_sound _ <| .refl ..
    · exact carrierWake_sound _ _ <| updPort_sound _ _ <| updLife_sound _ <| .refl ..
    · exact carrierWake_sound _ _ <| updPort_sound _ _ <| updLife_sound _ <| .refl ..
    · exact .refl ..
  | resetNRelease =>
    split
    · exact bootChecks_sound _ <| beginBoot_sound _ <| .refl ..
    · exact wake_sound _ <| .refl ..
    · refine updDev_sound (fun k => ?_) <| .refl ..
      split <;> exact k
    · exact .refl ..
  | brownOut => exact sound_ite (resetDomains_sound _ _ <| .refl ..) <| sound_if <| resetDomains_sound _ _ <| .refl ..
  | buckStart =>
    split
    · exact beginBoot_sound _ <| .refl ..
    · exact beginBoot_sound _ <| .refl ..
    · exact .refl ..
  | buckStop => exact sound_unless <| sound_ite (enterLifeline_sound <| .refl ..) (powerDown_sound _ <| .refl ..)
  | strapLatch =>
    refine sound_unless <| raiseInvalid_sound <| sound_ite ?known <| updPort_sound _ _ <| updPort_sound _ _ ?known
    exact updSupply_sound _ <| updProbes_sound _ <| updClocks_sound _ <| updRing_sound _ <| updDev_sound (fun k => k) <|
      updKeeper_sound (fun _ k => k) <| updStraps_sound _ <| bootChecks_sound _ <| .refl ..
  | firmwareStart =>
    refine sound_unless <| updPins_sound _ <| updSupply_sound _ <| updService_sound _ <| updDev_sound (fun k => k) <|
      lockoutCopies_sound <| updKeeper_sound (fun _ k => k) <| startChecks_sound _ _ <| updKeeper_sound (fun _ k => k) <|
      imageRecords_sound _ <| sound_ite (log_sound _ _ ?recorded) ?recorded
    exact probeRecords_sound <| bootRecords_sound _ <| restoreServices_sound <| updRing_sound _ <| restoreKeeper_sound <|
      bootLog_sound <| chooseSlot_sound <| sound_if <| updNv_sound (fun k => k) (fun _ k => k) <| .refl ..
  | vauxValid =>
    refine sound_ite (updKeeper_sound (fun _ k => k) <| updSupply_sound _ <| .refl ..) ?_
    split
    · exact beginBoot_sound _ <| updKeeper_sound (fun _ k => k) <| updSupply_sound _ <| .refl ..
    · refine sound_ite ?stays <| updPort_sound _ _ <| updPort_sound _ _ ?stays
      refine updDev_sound (fun k => ?_) <| updServices_sound (fun _ k => k) <| updKeeper_sound (fun _ k => k) <|
        updSupply_sound _ <| .refl ..
      split <;> exact k
    · exact updKeeper_sound (fun _ k => k) <| updSupply_sound _ <| .refl ..
  | vauxInvalid =>
    exact sound_unless <| sound_ite (updSupply_sound _ <| .refl ..) <| raiseIf_sound _ _ _ <| updKeeper_sound (fun _ k => k) <|
      updSupply_sound _ <| .refl ..
  | vauxAbsenceExpiry =>
    exact sound_unless <| sound_ite (beginEntry_sound <| .refl ..) <|
      sound_ite (updServices_sound (fun _ k => k) <| openSequenced_sound <| .refl ..)
        (beginEntry_sound <| openPack_sound _ <| .refl ..)
  | beaconSilenceTimeout => exact sound_if <| beginEntry_sound <| .refl ..
  | storageEntry =>
    refine sound_unless ?_
    generalize s.dev.wakePending = wake
    obtain _ | _ | p := wake
    · exact powerDown_sound _ <| updLife_sound _ <| updKeeper_sound (fun _ k => k) <| sound_if <| entryRecords_sound _ <| .refl ..
    · exact wake_sound _ <| powerDown_sound _ <| updLife_sound _ <| updKeeper_sound (fun _ k => k) <| sound_if <|
        entryRecords_sound _ <| .refl ..
    · exact carrierWake_sound _ _ <| updLife_sound _ <| powerDown_sound _ <| updLife_sound _ <| updKeeper_sound (fun _ k => k) <|
        sound_if <| entryRecords_sound _ <| .refl ..
  | alertN | internalAlert => exact sound_if <| alert_sound _ <| .refl ..
  | alertTimeout => exact sound_if <| raise_sound _ _ <| updSupply_sound _ <| .refl ..
  | alertInactive => exact updSupply_sound _ <| .refl ..
  | stepUpStart => exact sound_if <| updLife_sound _ <| .refl ..
  | stepUpStop | fractionalRegulationStart | openCircuitSample | harvesterStop => exact updLife_sound _ <| .refl ..
  | powerGoodOn =>
    exact sound_then_if (updLife_sound _ <| .refl ..)
      (carrierOut_sound _ _ _ <| carrierOut_sound _ _ _ <| enterLifeline_sound <| .refl ..)
  | powerGoodOff => exact sound_then_if (updLife_sound _ <| .refl ..) (powerDown_sound _ <| .refl ..)
  | feedCarrierStart | feedRetry => exact sound_if <| startFeed_sound _ <| .refl ..
  | lifelineReport => exact sound_unless <| sound_ite (updLife_sound _ <| .refl ..) (sendReport_sound _ <| .refl ..)
  | lfsReaches3v6 => exact sound_if <| sendReport_sound _ <| .refl ..
  | lifelineStale => exact sound_if <| updPos_sound _ _ <| .refl ..
  -- Safety function and sealing
  | lockClrPress | degradedTimerClear => exact sound_if <| updSafety_sound _ <| .refl ..
  | lockClrRelease ms => exact (execLockClrRelease_sound fun q => (hold q).1 ms rfl).next rfl
  | interlockOpen => exact sound_unless <| interlockChanged_sound _ <| updSafety_sound _ <| .refl ..
  | interlockClosed => exact sound_unless <| interlockChanged_sound _ <| updSafety_sound _ <| updSafety_sound _ <| .refl ..
  | interlockTrump => exact sound_if <| sendInterlock_sound <| .refl ..
  | demandOpeningComplete =>
    exact sound_if <| sound_then_if (updSafety_sound _ <| .refl ..)
      (saveDemand_sound <| updKeeper_sound (fun _ k => k) <| .refl ..)
  | demandIntervalExpiry => exact sound_if <| updSafety_sound _ <| demandPending_sound <| .refl ..
  | testPulse =>
    exact sound_unless <| sound_then_unless (judgeSamples_sound _ _ _ <| judgeSource_sound _ _ _ _ <| .refl ..)
      (interlockChanged_sound _ <| .refl ..)
  | degradedTimeExpiry => exact sound_if <| trip_sound _ <| updSafety_sound _ <| .refl ..
  | sealingTimeout =>
    refine sound_unless <| sound_ite ?_ (discardPending_sound <| updRing_sound _ <| .refl ..)
    split
    · exact .refl ..
    · exact sound_unless <| discardPending_sound <| updDealer_sound _ <| logSeal_sound _ _ _ _ <| .refl ..
  -- Faults, clocks and self-test
  | checkIn => exact updDev_sound (fun k => k) <| .refl ..
  | idleWatchdogService =>
    refine updDev_sound (fun k => ?_) <| .refl ..
    split <;> exact k
  | checkInDeadline => exact sound_if <| fenceCore_sound _ _ <| .refl ..
  | watchdogExpiry | ringReset | resetNAssert => exact sound_if <| resetDomains_sound _ _ <| .refl ..
  | clockMonitor =>
    exact sound_unless <| raiseIf_sound _ _ _ <| sound_ite (updClocks_sound _ <| .refl ..) <|
      sound_ite (abandonTest_sound <| updClocks_sound _ <| .refl ..) (abandonSegment_sound <| updClocks_sound _ <| .refl ..)
  | clkinFail => exact sound_if <| raise_sound _ _ <| updVehicle_sound _ <| updClocks_sound _ <| .refl ..
  | pllLock | pllHoldEnd => exact updClocks_sound _ <| .refl ..
  | pllLockLost =>
    exact sound_unless <| sound_ite (abandonTest_sound <| raise_sound _ _ <| updRing_sound _ <| updClocks_sound _ <| .refl ..)
      (abandonSegment_sound <| raise_sound _ _ <| updRing_sound _ <| updClocks_sound _ <| .refl ..)
  | kclkCalibration =>
    exact sound_unless <| sound_ite (raise_sound _ _ <| .refl ..) (updKeeper_sound (fun _ k => k) <| .refl ..)
  | sramEccError =>
    exact sound_unless <| sound_ite (raise_sound _ _ <| .refl ..) <|
      sound_ite (raise_sound _ _ <| updDev_sound (fun k => k) <| .refl ..) (fenceCore_sound _ _ <| .refl ..)
  | flashEccError kind =>
    refine sound_unless ?_
    cases kind with
    | corrected | bothTrimCopies => exact raise_sound _ _ <| .refl ..
    | uncorrectableCode => exact fenceCore_sound _ _ <| .refl ..
    | uncorrectableData i => exact raise_sound _ _ <| updNv_loseItem_sound i <| .refl ..
  | reactionTimeout => exact sound_if <| endReaction_sound _ <| .refl ..
  | memoryBist =>
    exact sound_if <| bistFalls_sound <| bufferResult_sound _ _ <| bufferResult_sound _ _ <|
      sound_foldl _ (fun _ b => bankResult_sound b _ <| .refl ..) <| .refl ..
  | bistSegment =>
    exact sound_unless <| sound_ite (takeTurn_sound <| .refl ..) <| sound_ite (updBist_sound _ <| takeTurn_sound <| .refl ..) <|
      sound_ite (takeTurn_sound <| .refl ..) <| sound_ite (takeTurn_sound <| .refl ..) <|
      segmentEffect_sound <| updBist_sound _ <| takeTurn_sound <| .refl ..
  | bistSegmentEnd =>
    refine sound_unless <| sound_ite ?done <| sound_ite (sliceDone_sound ?done) <|
      sound_ite (raise_sound _ _ <| updBist_sound _ ?done) <| sound_ite (bistFalls_sound <| raise_sound _ _ ?done) <|
      sliceDone_sound <| fenceSlice_sound _ <| bistFalls_sound <| raise_sound _ _ ?done
    exact updBist_sound _ <| segmentRestore_sound <| .refl ..
  | rotationOverdue => exact sound_if <| bistFalls_sound <| raise_sound _ _ <| updBist_sound _ <| .refl ..
  | bistReqPress => exact updBist_sound _ <| .refl ..
  | bistReqRelease =>
    exact sound_ite (updBist_sound _ <| .refl ..) <| sound_ite (beginTest_sound _ <| updBist_sound _ <| .refl ..) <|
      sound_ite (beginTest_sound _ <| updBist_sound _ <| .refl ..) (raise_sound _ _ <| updBist_sound _ <| .refl ..)
  | offlineTestEnd =>
    exact sound_unless <| sound_ite (abandonTest_sound <| .refl ..) <| resetDomains_sound _ _ <|
      updKeeper_sound (fun _ k => k) <| updNv_sound (fun k => k) (fun _ k => k) <| .refl ..
  | tckRisingEdge =>
    exact sound_unless <| sound_ite (updPins_sound _ <| updService_sound _ <| .refl ..)
      (updPins_sound _ <| drawWord_sound <| .refl ..)
  | bistSupplyMonitor =>
    exact sound_ite (updClocks_sound _ <| .refl ..) <| sound_ite (abandonTest_sound <| updClocks_sound _ <| .refl ..)
      (abandonSegment_sound <| updClocks_sound _ <| .refl ..)
  -- Logs, vehicle and service port
  | logWrite =>
    split
    · exact .refl ..
    · exact sound_if <| sound_ite (putRecord_sound _ <| popRecord_sound <| .refl ..)
        (raise_sound _ _ <| spoilSlot_sound <| popRecord_sound <| .refl ..)
  | sectorErase =>
    exact sound_unless <| sound_ite (eraseSpare_sound <| .refl ..) (raise_sound _ _ <| updDev_sound (fun k => k) <|
      flash_sound (fun k => Memory.program_wf k _ _) <| .refl ..)
  | energyRecord => exact sound_if <| saveDemand_sound <| logEnergy_sound <| .refl ..
  | countsRecord => exact sound_if <| logCounts_sound <| .refl ..
  | packTotals => exact sound_if <| logTotals_sound <| .refl ..
  | serviceStateRecord => exact sound_if <| saveServices_sound <| .refl ..
  | shockEventOpen => exact updLogs_sound (fun _ k => k) <| .refl ..
  | shockEventClose =>
    exact sound_unless <| sound_then_if (updLogs_sound (fun _ k => k) <| .refl ..) <|
      updLogs_sound (fun _ k => k) <| log_sound _ _ <| .refl ..
  | shockSummary => exact sound_if <| logSummary_sound _ <| .refl ..
  | publicationStart => exact sound_if <| raiseIf_sound _ _ _ <| raiseIf_sound _ _ _ <| updVehicle_sound _ <| .refl ..
  | canFrameComplete | busOffRecovery => exact sound_if <| updVehicle_sound _ <| .refl ..
  | canFrameReceived =>
    exact sound_if <| sound_ite (updVehicle_sound _ <| drawWord_sound <| .refl ..) (updVehicle_sound _ <| .refl ..)
  | canError kind =>
    refine sound_unless ?_
    cases kind with
    | receive | receiveDominant => exact canCounters_sound _ _ <| .refl ..
    | transmit =>
      exact sound_unless <| raiseIf_sound _ _ _ <| updVehicle_sound _ <| sound_then_if (canCounters_sound _ _ <| .refl ..)
        (busOff_sound <| .refl ..)
  | rs485FrameComplete =>
    exact sound_unless <| sound_foldl _ (fun t _ => raise_sound _ _ <| .refl ..) <| updVehicle_sound _ <| .refl ..
  | requestGapTimeout => exact .refl ..
  | remoteTimeout =>
    split
    · exact .refl ..
    · exact sound_unless <| sound_ite (answer_sound _ _ <| .refl ..) <| sound_if <| answer_sound _ _ <| .refl ..
  | serviceKeyRemoved => exact sound_if <| updService_sound _ <| .refl ..
  | invalidServiceRequest => exact sound_if <| serve_sound (fun t => respond_sound _ _ _ _ <| .refl ..) _ _ <| .refl ..
  | ident => exact serve_sound (fun t => respond_sound _ _ _ _ <| seqBounds_sound <| .refl ..) _ _ <| .refl ..
  | logRead =>
    exact serve_sound (fun t => sound_ite (readOwn_sound _ _ _ <| .refl ..) (readRemote_sound _ _ _ _ <| .refl ..)) _ _ <|
      .refl ..
  | imageLoad =>
    refine serve_sound (fun t => ?_) _ _ <| .refl ..
    exact sound_ite (respond_sound _ _ _ _ <| .refl ..) <| sound_ite (respond_sound _ _ _ _ <| .refl ..) <|
      sound_ite (respond_sound _ _ _ _ <| .refl ..) <|
      sound_ite (updService_sound _ <| updService_sound _ <| writeBlocks_sound _ _ _ <| .refl ..)
        (respond_sound _ _ _ _ <| updService_sound _ <| writeBlocks_sound _ _ _ <| .refl ..)
  | imageVerified =>
    refine sound_unless <| sound_ite (sound_ite (updService_sound _ ?answered) ?answered) <|
      sendImageStatus_sound _ _ <| statusOfCheck_sound _ ?answered
    exact sound_then_if (logImage_sound _ _ <| updNv_setSlot_sound _ _ <| .refl ..) (answer_sound _ _ <| .refl ..)
  | imageStatusSend => exact sound_if <| sendImageStatus_sound _ _ <| .refl ..
  | imageCommit =>
    refine serve_sound (fun t => ?_) _ _ <| .refl ..
    exact sound_ite (respond_sound _ _ _ _ <| .refl ..) <| sound_ite (respond_sound _ _ _ _ <| .refl ..) <|
      sound_ite (respond_sound _ _ _ _ <| .refl ..) <|
      sound_ite (respond_sound _ _ _ _ <| logImage_sound _ _ <| updService_sound _ <| .refl ..) <|
      sound_ite (updService_sound _ <| arm_sound _ <| .refl ..) (respond_sound _ _ _ _ <| arm_sound _ <| .refl ..)
  | fuseBlow =>
    refine sound_if <| logImage_sound _ _ <| updNv_sound (fun k => ?_) (fun _ k => k) <| .refl ..
    dsimp only
    split
    · exact sat_le _ _
    · exact k

end

/-- Settles O56: a reset leaves both copies, a keeper that lost its power reads the flash copy, a boot sets both from either, and
a pack closes on a clear keeper copy only; so every command but a valid clear keeps the lock-out, and under it an open pack. -/
theorem lockoutHoldsThePackOpen : Obligations.LockoutHoldsThePackOpen := by
  intro c s t clear beacon run keeper nv
  exact ((exec_sound (l := true) c s fun _ => ⟨clear, beacon⟩).next run).lock rfl keeper nv

end Sys2Proof.Machine

/-! The proofs from here on run one after another: run side by side they take more memory than the check allows. -/
section
set_option Elab.async false

/-!
PROOFS. The rules of the whole machine: the step on the front of the queue and on an empty one, and from what every command
keeps the invariant, the sticky bits and the fatal state (R478, R492).
-/
namespace Sys2Proof.Machine

section
variable {s t : State}

/-- The invariant says nothing of the commands that wait. -/
theorem State.Inv.withPending (h : s.Inv) (cs : List Instr) : ({ s with pending := cs } : State).Inv :=
  ⟨h.flash, h.blocks, h.queue, h.trace, h.fuses⟩

theorem step_of_cons {c : Instr} {rest : List Instr} (h : s.pending = c :: rest) :
    step s = exec c { s with pending := rest } := by
  simp only [step, h]

theorem step_of_nil (h : s.pending = []) : step s = .next s.tick := by
  simp only [step, h]

theorem exec_inv {c : Instr} (h : exec c s = .next t) (inv : s.Inv) : t.Inv :=
  ((exec_sound (l := false) c s nofun).next h).inv inv

theorem State.tick_inv (inv : s.Inv) : s.tick.Inv :=
  (State.tick_sound (m := false) (l := false) (Sound.refl _ _ s)).inv inv

theorem State.tick_frame (s : State) :
    Keeps [.keeper, .dev, .safety, .supply, .logs, .portN, .portS, .fan, .outputs, .meas] s s.tick :=
  (State.tick_keeps (by decide)).mpr (Keeps.refl _ s)

/-- A period of time advances the keeper's timebase by 1 (R21, log 22). -/
theorem State.tick_time (s : State) : s.tick.keeper.time = s.keeper.time + 1 := by
  have lowest : ∀ u : State, u.leaveLowest.keeper = u.keeper := fun u =>
    ((State.leaveLowest_keeps (G := [.supply, .logs, .portN, .portS, .fan, .outputs, .meas]) (by decide)).mpr
      (Keeps.refl _ u)).group .keeper (by decide)
  unfold State.tick
  dsimp only
  split
  · rw [lowest]; rfl
  · rfl

end

/-- Settles O54: the queue is no part of the invariant, and a command and a period of time are sound. -/
theorem stepKeepsInvariant : Obligations.StepKeepsInvariant := by
  intro s t inv run
  cases queue : s.pending with
  | nil =>
    rw [step_of_nil queue] at run
    cases run
    exact State.tick_inv inv
  | cons c rest =>
    rw [step_of_cons queue] at run
    exact exec_inv run (inv.withPending rest)

/-- Settles O55: a command that can end in no reset is sound for the sticky bits and for the fatal latch. -/
theorem stickyBitsStay : Obligations.StickyBitsStay := by
  intro c s t noReset run
  have kept : Sound (!c.mayReset) false s t := (exec_sound (l := false) c s nofun).next run
  have outside : (!c.mayReset) = true := by rw [noReset]; rfl
  exact ⟨kept.sticky outside, kept.fatal outside⟩

/-- Settles O51: the step matches on the queue; of time alone the keeper's timebase is the only counter the claim names. -/
theorem stepTakesTheFront : Obligations.StepTakesTheFront := by
  refine ⟨fun s c rest queue => step_of_cons queue, fun s queue => ?_⟩
  have frame := s.tick_frame
  exact ⟨s.tick, step_of_nil queue, (frame.group .pending (by decide)).trans queue, s.tick_time,
    frame.group .flash (by decide), frame.group .nv (by decide)⟩

/-- Settles O53: the part out of the factory has erased flash, no record and no trace entry, and no fuse blown. -/
theorem invariantAtReset : Obligations.InvariantAtReset := ⟨rfl, rfl, by decide, by decide, by decide⟩

/-- Settles O60: each word is computed from the manual's own input. -/
theorem wordsOfTheManual : Obligations.WordsOfTheManual := by
  unfold Obligations.WordsOfTheManual
  decide +kernel

end Sys2Proof.Machine

/-!
PROOFS. The widest frame of a command: which leave the flash as it was, and that none touches the queue of the commands that wait
(log 22).
-/
namespace Sys2Proof
open Machine

/-- The groups a command can change at all: never the commands that wait, and the flash only where it may write it. -/
def Instr.widest (c : Instr) : List Group :=
  bif c.mayWriteFlash then Group.all.erase .pending else (Group.all.erase .pending).erase .flash

end Sys2Proof

namespace Sys2Proof.Machine

/-- Every command answers a next state, with the commands that wait as they were, and the flash as it was unless it may write
it. The commands whose frame does not say so run through the operations their meaning is made of. -/
theorem exec_widest (c : Instr) (s : State) : Runs c s (Keeps c.widest s) := by
  cases c with
  | strapLatch | watchdogExpiry | ringReset | resetNAssert | brownOut | buckStop | powerGoodOn | powerGoodOff | bistReqRelease
  | offlineTestEnd | bistSupplyMonitor | clockMonitor | pllLockLost | skip | lifelineReceived | meldReceived | trumpReceived
  | call | answer | sealChunk | sealConfirm | rejoin | imageBlock | imageStatus | logRequest | logRecords | firmwareStart =>
    refine runs_next rfl ?_
    dsimp only [Instr.widest, Instr.mayWriteFlash, cond]
    simp (disch := decide) only [keeps_ite_iff, Keeps.refl, implies_true, and_self, State.updStraps_keeps, State.bootChecks_keeps,
      State.updKeeper_keeps, State.updDev_keeps, State.updRing_keeps, State.updClocks_keeps, State.updProbes_keeps,
      State.updSupply_keeps, State.updPort_keeps, State.raiseInvalid_keeps, State.resetDomains_keeps, State.enterLifeline_keeps,
      State.powerDown_keeps, State.updLife_keeps, State.carrierOut_keeps, State.updBist_keeps, State.beginTest_keeps,
      State.raise_keeps, State.raiseIf_keeps, State.abandonTest_keeps, State.abandonSegment_keeps, State.updNv_keeps,
      State.endFeed_keeps, State.drainAll_keeps, State.feedAnswered_keeps, State.inOrder_keeps, State.take_keeps,
      State.receive_keeps, State.receiveCall_keeps, State.receiveService_keeps, State.chooseSlot_keeps, State.bootLog_keeps,
      State.restoreKeeper_keeps, State.restoreServices_keeps, State.bootRecords_keeps, State.probeRecords_keeps,
      State.log_keeps, State.imageRecords_keeps, State.startChecks_keeps, State.lockoutCopies_keeps, State.updService_keeps,
      State.updPins_keeps]
  | resetNRelease | buckStart =>
    refine runs_next rfl ?_
    dsimp only [Instr.widest, Instr.mayWriteFlash, cond]
    split <;> simp (disch := decide) only [State.bootChecks_keeps, State.beginBoot_keeps, State.wake_keeps,
      State.updDev_keeps, Keeps.refl]
  | wakeCarrierDetect =>
    refine runs_next rfl ?_
    dsimp only [Instr.widest, Instr.mayWriteFlash, cond]
    refine keeps_ite (Keeps.refl _ s) ?_
    split <;> simp (disch := decide) only [State.updDev_keeps, State.updLife_keeps, State.updPort_keeps,
      State.carrierWake_keeps, Keeps.refl]
  | vauxValid =>
    refine runs_next rfl ?_
    dsimp only [Instr.widest, Instr.mayWriteFlash, cond]
    refine keeps_ite ((State.updKeeper_keeps (by decide) _).mpr ((State.updSupply_keeps (by decide) _).mpr (Keeps.refl _ s))) ?_
    split <;> simp (disch := decide) only [keeps_ite_iff, Keeps.refl, implies_true, and_self, State.beginBoot_keeps,
      State.updPort_keeps, State.updDev_keeps, State.updServices_keeps, State.updKeeper_keeps, State.updSupply_keeps]
  | storageEntry =>
    refine runs_next rfl (keeps_ite (Keeps.refl _ s) ?_)
    dsimp only [Instr.widest, Instr.mayWriteFlash, cond]
    generalize s.dev.wakePending = wake
    obtain _ | _ | p := wake <;>
      simp (disch := decide) only [keeps_ite_iff, Keeps.refl, implies_true, and_self, State.entryRecords_keeps,
        State.updKeeper_keeps, State.updLife_keeps, State.powerDown_keeps, State.wake_keeps, State.carrierWake_keeps]
  | keeperSourceSwitch =>
    refine runs_next rfl ?_
    dsimp only [Instr.widest, Instr.mayWriteFlash, cond]
    split
    · change Keeps _ s ((s.powerDown .off).updKeeper fun _ => freshKeeper s.nv.lockout .vmod)
      simp (disch := decide) only [State.updKeeper_keeps, State.powerDown_keeps, Keeps.refl]
    · simp (disch := decide) only [keeps_ite_iff, Keeps.refl, implies_true, and_self, State.powerDown_keeps,
        State.updKeeper_keeps]
    · simp (disch := decide) only [State.updKeeper_keeps, Keeps.refl]
  | energyRecord | countsRecord | serviceStateRecord | shockEventOpen | shockEventClose | shockSummary | packTotals =>
    refine runs_next rfl ?_
    dsimp only [Instr.widest, Instr.mayWriteFlash, cond]
    simp (disch := decide) only [keeps_ite_iff, Keeps.refl, implies_true, and_self, State.logEnergy_keeps,
      State.saveDemand_keeps, State.logCounts_keeps, State.saveServices_keeps, State.updLogs_keeps, State.log_keeps,
      State.logSummary_keeps, State.logTotals_keeps]
  | remoteTimeout =>
    refine runs_next rfl ?_
    dsimp only [Instr.widest, Instr.mayWriteFlash, cond]
    split <;> simp (disch := decide) only [keeps_ite_iff, Keeps.refl, implies_true, and_self, State.answer_keeps]
  | ident | logRead | imageCommit =>
    refine runs_next rfl ?_
    dsimp only [Instr.widest, Instr.mayWriteFlash, cond]
    refine State.serve_keeps (fun t => ?_) (by decide) _ _
    simp (disch := decide) only [keeps_ite_iff, Keeps.refl, implies_true, and_self, State.seqBounds_keeps,
      State.respond_keeps, State.readOwn_keeps, State.readRemote_keeps, State.updService_keeps, State.logImage_keeps,
      State.arm_keeps]
  | invalidServiceRequest =>
    refine runs_next rfl ?_
    dsimp only [Instr.widest, Instr.mayWriteFlash, cond]
    refine keeps_ite (State.serve_keeps (fun t => ?_) (by decide) _ _) (Keeps.refl _ s)
    exact (State.respond_keeps (by decide) _ _ _ _).mpr (Keeps.refl _ t)
  | imageStatusSend | requestGapTimeout | serviceKeyRemoved | imageVerified | fuseBlow =>
    refine runs_next rfl ?_
    dsimp only [Instr.widest, Instr.mayWriteFlash, cond]
    simp (disch := decide) only [keeps_ite_iff, Keeps.refl, implies_true, and_self, State.sendImageStatus_keeps,
      State.updService_keeps, State.logImage_keeps, State.answer_keeps, State.updNv_keeps, State.statusOfCheck_keeps]
  | _ =>
    obtain ⟨t, run, frame⟩ := exec_frame _ s
    exact runs_next run (frame.mono (by dsimp only [Instr.widest, Instr.mayWriteFlash, Instr.frame]; decide))

/-- Settles O52: every command keeps the groups outside its widest frame, which never holds the queue. -/
theorem everyCommandAnswers : Obligations.EveryCommandAnswers := by
  intro c s
  obtain ⟨t, run, frame⟩ := exec_widest c s
  refine ⟨t, run, frame .pending ?_⟩
  unfold Instr.widest
  cases c.mayWriteFlash <;> decide

theorem exec_flash {c : Instr} {s t : State} (h : exec c s = .next t) (readOnly : c.mayWriteFlash = false) :
    t.flash = s.flash := by
  refine (exec_widest c s).next h .flash ?_
  rw [Instr.widest, readOnly]
  decide

end Sys2Proof.Machine

/-!
PROOFS. Flash: what a read finds after bytes are programmed and after a range is erased (log 2).
-/
namespace Sys2Proof.Machine

section
variable {m : List Host.Cell} {x y n : Nat}

theorem Memory.read_program_of_lt (bs : List Byte) (h : Memory.wf m = true) (below : y < x) :
    Memory.read (Memory.program m x bs) y = Memory.read m y := by
  induction bs generalizing m x with
  | nil => rfl
  | cons b bs ih =>
    have ne : y ≠ x := by omega
    rw [Memory.program, ih (Memory.write_wf h x b) (by omega), Memory.read_write h, if_neg ne]

theorem Memory.bytes_succ (m : List Host.Cell) (x n : Nat) :
    Memory.bytes m x (n + 1) = Memory.read m x :: Memory.bytes m (x + 1) n := by
  simp [Memory.bytes, List.range_succ_eq_map, Function.comp_def, Nat.add_comm, Nat.add_left_comm]

/-- What is programmed reads back. -/
theorem Memory.bytes_program (bs : List Byte) (h : Memory.wf m = true) :
    Memory.bytes (Memory.program m x bs) x bs.length = bs := by
  induction bs generalizing m x with
  | nil => rfl
  | cons b bs ih =>
    have written := Memory.write_wf h x b
    rw [List.length_cons, Memory.bytes_succ, Memory.program, Memory.read_program_of_lt bs written (Nat.lt_succ_self x),
      Memory.read_write h, if_pos rfl, ih written]

/-- An erased range reads 0xFF, and every other byte reads as before, in a part of flash above any bound. -/
theorem Memory.read_erase_above {lo : Nat} (h : Memory.wfAbove lo m = true) :
    Memory.read (Memory.erase m x n) y = if x ≤ y ∧ y < x + n then 0xFF else Memory.read m y := by
  induction m generalizing lo with
  | nil => simp [Memory.erase, Memory.read]
  | cons c m ih =>
    obtain ⟨a, b⟩ := c
    simp only [Memory.wfAbove, Bool.and_eq_true, decide_eq_true_eq] at h
    have rest := ih h.2
    by_cases erased : x ≤ a ∧ a < x + n
    · have dropped : Memory.erase ((a, b) :: m) x n = Memory.erase m x n := by
        simp only [Memory.erase]
        exact List.filter_cons_of_neg (by simp; omega)
      rw [dropped, rest]
      split
      · rfl
      · simp only [Memory.read]
        split
        · exact Memory.read_wfAbove m (a + 1) y h.2 (by omega)
        · rw [if_neg (by omega)]
    · have kept : Memory.erase ((a, b) :: m) x n = (a, b) :: Memory.erase m x n := by
        simp only [Memory.erase]
        exact List.filter_cons_of_pos (by simp; omega)
      rw [kept]
      simp only [Memory.read, rest]
      split
      · exact (ite_self _).symm
      · split
        · rw [if_neg (by omega)]
        · rfl

theorem Memory.read_erase (h : Memory.wf m = true) :
    Memory.read (Memory.erase m x n) y = if x ≤ y ∧ y < x + n then 0xFF else Memory.read m y :=
  Memory.read_erase_above h

end

/-- Settles O58: a write is one byte, programming is writes in turn, erasing drops the cells of its range. -/
theorem flashReadsBack : Obligations.FlashReadsBack := fun _ h =>
  ⟨fun x v => ⟨Memory.write_wf h x v, fun y => Memory.read_write h x y v⟩,
    fun x bs => ⟨Memory.program_wf h x bs, Memory.bytes_program bs h⟩,
    fun x n => ⟨Memory.erase_wf h x n, fun _ => Memory.read_erase h⟩⟩

end Sys2Proof.Machine

/-!
PROOFS. Control words and fingerprints: the fields of a word that is built from them (R250, Tables 9-5, 9-6), and bits that
are packed into words and taken out again (Table 3-12).
-/
namespace Sys2Proof.Machine

/-! ### Control words -/

section
variable {kind arg : Nat}

theorem controlWord_toNat (hk : kind ≤ 15) (ha : arg ≤ 31) :
    (controlWord kind arg).toNat = kind * 2 ^ 14 + (15 - kind) * 2 ^ 10 + arg * 2 ^ 5 + (31 - arg) := by
  simp only [controlWord, word, BitVec.toNat_ofNat]
  omega

/-- The fields of a control word, with the complements R250 asks for. -/
theorem controlWord_fields (hk : kind ≤ 15) (ha : arg ≤ 31) :
    field (controlWord kind arg) 17 14 = kind ∧ field (controlWord kind arg) 13 10 = 15 - kind ∧
      field (controlWord kind arg) 9 5 = arg ∧ field (controlWord kind arg) 4 0 = 31 - arg := by
  have fromKind : (controlWord kind arg).toNat / 2 ^ 14 = kind := by
    rw [controlWord_toNat hk ha]
    exact Nat.div_eq_of_lt_le (by omega) (by omega)
  have fromNotKind : (controlWord kind arg).toNat / 2 ^ 10 = kind * 2 ^ 4 + (15 - kind) := by
    rw [controlWord_toNat hk ha]
    exact Nat.div_eq_of_lt_le (by omega) (by omega)
  have fromArg : (controlWord kind arg).toNat / 2 ^ 5 = (kind * 2 ^ 4 + (15 - kind)) * 2 ^ 5 + arg := by
    rw [controlWord_toNat hk ha]
    exact Nat.div_eq_of_lt_le (by omega) (by omega)
  simp only [field, fromKind, fromNotKind, fromArg]
  rw [controlWord_toNat hk ha]
  refine ⟨?_, ?_, ?_, ?_⟩ <;> omega

/-- A word whose complements hold is the control word of its KIND and ARG. -/
theorem controlWord_of_fields {w : Word} (hk : field w 13 10 = 15 - field w 17 14) (ha : field w 4 0 = 31 - field w 9 5) :
    controlWord (field w 17 14) (field w 9 5) = w := by
  have hw : w.toNat < 2 ^ 18 := w.isLt
  apply BitVec.eq_of_toNat_eq
  simp only [field] at hk ha ⊢
  rw [controlWord_toNat (by omega) (by omega)]
  omega

theorem Control.parts_le (c : Control) : c.parts.1 ≤ 15 ∧ c.parts.2 ≤ 31 := by
  cases c with
  | credit r f | idle r f =>
    have hr := r.isLt
    have hf := f.isLt
    simp only [Control.parts]
    omega
  | ack q | nak q | skip q =>
    have hq := q.isLt
    simp only [Control.parts]
    omega
  | marker => simp [Control.parts]

theorem readControl_toWord (c : Control) : readControl c.toWord = some c := by
  obtain ⟨hk, ha⟩ := c.parts_le
  obtain ⟨fieldKind, notKind, fieldArg, notArg⟩ := controlWord_fields hk ha
  simp only [readControl, Control.toWord, fieldKind, notKind, fieldArg, notArg, ne_eq, not_true_eq_false, or_self, if_false]
  cases c with
  | credit r f | idle r f =>
    have hr := r.isLt
    have hf := f.isLt
    have clear : ¬ (r.toNat * 16 + f.toNat) / 8 % 2 = 1 := by omega
    have reserve : (r.toNat * 16 + f.toNat) / 16 = r.toNat := by omega
    have freed : BitVec.ofNat 3 (r.toNat * 16 + f.toNat) = f := by
      apply BitVec.eq_of_toNat_eq
      rw [BitVec.toNat_ofNat]
      omega
    simp only [Control.parts, if_neg clear, reserve, freed, BitVec.ofNat_toNat, BitVec.setWidth_eq]
  | ack q | nak q | skip q => simp only [Control.parts, BitVec.ofNat_toNat, BitVec.setWidth_eq]
  | marker => rfl

/-- A word that reads as a symbol has the KIND and ARG of that symbol, with their complements. -/
theorem readControl_some {w : Word} {c : Control} (h : readControl w = some c) :
    field w 13 10 = 15 - field w 17 14 ∧ field w 4 0 = 31 - field w 9 5 ∧ c.parts = (field w 17 14, field w 9 5) := by
  have ha : field w 9 5 < 32 := Nat.mod_lt _ (by decide)
  unfold readControl at h
  dsimp only at h
  generalize field w 17 14 = kind at *
  generalize field w 9 5 = arg at *
  split at h
  · cases h
  · next complements =>
    obtain ⟨hk, hn⟩ := not_or.mp complements
    refine ⟨Decidable.not_not.mp hk, Decidable.not_not.mp hn, ?_⟩
    split at h
    case h_1 | h_4 =>
      split at h
      · cases h
      · cases h
        simp only [Control.parts, BitVec.toNat_ofNat, Prod.mk.injEq, true_and]
        omega
    case h_2 | h_3 | h_6 =>
      cases h
      simp only [Control.parts, BitVec.toNat_ofNat, Prod.mk.injEq, true_and]
      omega
    case h_5 =>
      split at h
      · next marker =>
        cases h
        rw [marker]
        rfl
      · cases h
    case h_7 => cases h

theorem toWord_of_readControl {w : Word} {c : Control} (h : readControl w = some c) : c.toWord = w := by
  obtain ⟨hk, ha, parts⟩ := readControl_some h
  rw [Control.toWord, parts]
  exact controlWord_of_fields hk ha

end

/-! ### Bits in words -/

section
variable {α : Type}

theorem ofBits_foldl (bs : List Bool) (n : Nat) :
    bs.foldl (fun n b => 2 * n + b.toNat) n = n * 2 ^ bs.length + ofBits bs := by
  induction bs generalizing n with
  | nil => simp [ofBits]
  | cons b bs ih =>
    have doubled : 2 * n * 2 ^ bs.length = n * (2 ^ bs.length * 2) := by
      rw [Nat.mul_comm 2 n, Nat.mul_assoc, Nat.mul_comm 2]
    simp only [ofBits, List.foldl_cons, List.length_cons, ih (2 * n + b.toNat), ih (2 * 0 + b.toNat)]
    rw [Nat.pow_succ, Nat.mul_zero, Nat.zero_add, Nat.add_mul, doubled, Nat.add_assoc]

theorem ofBits_cons (b : Bool) (bs : List Bool) : ofBits (b :: bs) = b.toNat * 2 ^ bs.length + ofBits bs := by
  rw [ofBits, List.foldl_cons, ofBits_foldl]
  simp

theorem ofBits_eq_toNat (bs : List Bool) : ofBits bs = (BitVec.ofBoolListBE bs).toNat := by
  induction bs with
  | nil => rfl
  | cons b bs ih => rw [ofBits_cons, ih, BitVec.ofBoolListBE, BitVec.toNat_cons']; simp [Nat.shiftLeft_eq]

theorem length_bitsOf {n : Nat} (x : BitVec n) : (bitsOf x).length = n := by simp [bitsOf]

/-- Bits packed into a word are the bits of the word. -/
theorem bitsOf_ofBits (bs : List Bool) {n : Nat} (h : bs.length = n) : bitsOf (BitVec.ofNat n (ofBits bs)) = bs := by
  subst h
  rw [ofBits_eq_toNat, BitVec.ofNat_toNat, BitVec.setWidth_eq]
  refine List.ext_getElem (length_bitsOf _) fun i _ hi => ?_
  simp [bitsOf, BitVec.getMsbD_ofBoolListBE, hi]

/-- The bits of a word, packed again, are its number. -/
theorem ofBits_bitsOf {n : Nat} (x : BitVec n) : ofBits (bitsOf x) = x.toNat := by
  have packed : BitVec.ofNat n (ofBits (bitsOf x)) = x := by
    refine BitVec.eq_of_getMsbD_eq fun i hi => ?_
    have bits := congrArg (fun bs : List Bool => bs.getD i false) (bitsOf_ofBits (bitsOf x) (length_bitsOf x))
    simpa [bitsOf, hi] using bits
  have small : ofBits (bitsOf x) < 2 ^ n := by
    rw [ofBits_eq_toNat]
    exact Nat.lt_of_lt_of_eq (BitVec.isLt _) (by rw [length_bitsOf])
  rw [← Nat.mod_eq_of_lt small, ← BitVec.toNat_ofNat, packed]

theorem getD_of_lt {l : List α} {i : Nat} (d : α) (h : i < l.length) : l.getD i d = l[i] := by
  rw [List.getD_eq_getElem?_getD, List.getElem?_eq_getElem h, Option.getD_some]

/-- A list cut into pieces of `k` and put together again. -/
theorem flatMap_chunks (k n : Nat) (bs : List α) :
    ((List.range n).flatMap fun i => (bs.drop (k * i)).take k) = bs.take (k * n) := by
  induction n with
  | zero => simp
  | succ n ih => rw [List.range_succ, List.flatMap_append, ih, Nat.mul_succ, List.take_add]; simp

/-- The `i`th of pieces that are all of length `k`. -/
theorem take_drop_flatMap {β : Type} (f : α → List β) {k : Nat} (hf : ∀ x, (f x).length = k) (tail : List β) (xs : List α) {i : Nat}
    (hi : i < xs.length) : ((xs.flatMap f ++ tail).drop (k * i)).take k = f xs[i] := by
  induction xs generalizing i with
  | nil => cases hi
  | cons x xs ih =>
    cases i with
    | zero => simp [hf]
    | succ i =>
      have past : k * (i + 1) = (f x).length + k * i := by rw [hf, Nat.mul_succ, Nat.add_comm]
      rw [List.flatMap_cons, List.append_assoc, past, ← List.drop_drop, List.drop_left]
      exact ih (Nat.lt_of_succ_lt_succ hi)

end

/-! ### Fingerprints -/

section
variable {ks : List Nat}

theorem length_fingerBits (h : ks.length = 13) : (fingerBits ks).length = 72 := by
  have levels : ∀ ks : List Nat, (ks.flatMap fun k => bitsOf (BitVec.ofNat 5 k)).length = 5 * ks.length := by
    intro ks
    induction ks with
    | nil => rfl
    | cons k ks ih => simp only [List.flatMap_cons, List.length_append, length_bitsOf, ih, List.length_cons]; omega
  rw [fingerBits, List.length_append, levels, length_bitsOf, h]

/-- The four words hold the 72 bits. -/
theorem flatMap_fingerWords (h : ks.length = 13) : (fingerWords ks).flatMap bitsOf = fingerBits ks := by
  have bits := length_fingerBits h
  have word : ∀ i ∈ List.range 4, bitsOf (word (ofBits (((fingerBits ks).drop (18 * i)).take 18))) =
      ((fingerBits ks).drop (18 * i)).take 18 := fun i hi =>
    bitsOf_ofBits _ (by rw [List.length_take, List.length_drop, bits]; have := List.mem_range.mp hi; omega)
  rw [fingerWords, List.flatMap_map, List.flatMap_def, List.map_congr_left word, ← List.flatMap_def, flatMap_chunks,
    List.take_of_length_le (by omega)]

theorem printLevel_fingerWords {i : Nat} (h : ks.length = 13) (le : ∀ k ∈ ks, k ≤ 31) (hi : i < 13) :
    printLevel (fingerWords ks) i = ks.getD i 0 := by
  have inRange : i < ks.length := by omega
  have small : ks[i] ≤ 31 := le _ (List.getElem_mem inRange)
  rw [printLevel, flatMap_fingerWords h, fingerBits, take_drop_flatMap _ (fun k => length_bitsOf _) _ _ inRange, ofBits_bitsOf,
    BitVec.toNat_ofNat, getD_of_lt _ inRange]
  omega

end

/-- Settles O59: the fields of a control word give back KIND and ARG, and these the symbol; a fingerprint's words hold its bits,
and the bits of one level stand at five times its index. -/
theorem wordsRoundTrip : Obligations.WordsRoundTrip :=
  ⟨readControl_toWord, fun _ _ => toWord_of_readControl, fun _ _ => printLevel_fingerWords⟩

end Sys2Proof.Machine

/-!
PROOFS. The link layer: what an acknowledgement, a skip, a request for a retransmission and the other control symbols leave of
their port, and how a link comes up, is refused and goes down (chapters 08 and 09).
-/
namespace Sys2Proof.Machine

/-! ### Raising a calm source -/

section
variable {s : State} {b : Block} {i : Nat}

/-- A source that is not of class F changes status words, logs and pins (Table 16-8). -/
theorem State.raise_frame (h : calm b i = true) : Keeps [.faults, .logs, .pins] s (s.raise b i) :=
  (State.raise_keeps_calm h (by decide)).mpr (Keeps.refl _ s)

@[simp] theorem State.raise_portBlock_port (p r : Port) : (s.raise (portBlock p) i).port r = s.port r :=
  (State.raise_frame (calm_portBlock p i)).port r (by decide) (by decide)

theorem StickyKept.of_faults {t : State} (h : t.faults = s.faults) : StickyKept s t := fun b i set => by
  simpa only [State.has, h] using set

/-- A source of a port is not of class F: raising it sets its bit and keeps the others. -/
theorem runs_raise_portBlock {c : Instr} {p : Port} (hf : s.faults.length = 18) (hi : i < 16)
    (run : exec c s = .next (s.raise (portBlock p) i)) :
    Runs c s fun t => Keeps [.faults, .logs, .pins] s t ∧ t.has (portBlock p) i = true ∧ StickyKept s t :=
  runs_next run ⟨State.raise_frame (calm_portBlock p i), State.raise_has _ _ _ hf hi, State.raise_mono _ _ _⟩

end

/-! ### Acknowledgement and skip -/

section
variable {s : State} {p : Port} {x : BitVec 5}

theorem execAck_run (phase : s.dev.phase ≠ .lifeline) (hears : s.deaf p = false) (up : (s.port p).up = true) :
    exec (.ack p x) s = .next (s.updPort p fun q => acked x { q with feed := Feed.off }) := by
  simp [exec, execAck, phase, hears, State.endFeed, up, State.updPort_updPort]

theorem mem_acked_unacked {q : PortState} {u : Unacked} :
    u ∈ (acked x q).unacked ↔ u ∈ q.unacked ∧ 16 ≤ (x - u.seq).toNat := by
  simp [acked, ackCovers]

theorem execAck_lifeline (phase : s.dev.phase = .lifeline) (waits : s.life.awaiting = true) (onPort : s.life.port = p) :
    exec (.ack p x) s = .next { s with life := { s.life with awaiting := false, unacked := 0 } } := by
  simp [exec, execAck, phase, waits, onPort, State.updLife]

theorem execSkip_run (hears : s.hears p = true) (up : (s.port p).up = true) (frames : (s.port p).heldFrames = [])
    (skips : (s.port p).heldSkips = []) :
    exec (.skip p (s.port p).rxNext) s = .next (s.updPort p fun q => advance { q with feed := Feed.off }) := by
  have taken : exec (.skip p (s.port p).rxNext) s =
      .next ((s.updPort p fun q => advance { q with feed := Feed.off }).drainAll p) := by
    simp [exec, execSkip, hears, State.endFeed, up, State.updPort_updPort]
  rw [taken, State.drainAll_id _ _ (by simp [advance, frames]) (by simp [advance, skips])]

end

/-- Settles O2: an ACK and a SKIP of the SEQ expected write their port once; nothing is held behind the SKIP. -/
theorem acknowledgementsAdvance : Obligations.AcknowledgementsAdvance := by
  refine ⟨fun s p x => ⟨fun phase hears up => ?_, fun phase waits onPort => ?_⟩, fun s p hears up frames skips => ?_⟩
  · exact runs_updPort
      (P := fun q => q.txFails = 0 ∧ q.txSeq = (s.port p).txSeq ∧
        ∀ u, u ∈ q.unacked ↔ u ∈ (s.port p).unacked ∧ 16 ≤ (x - u.seq).toNat)
      (execAck_run phase hears up) ⟨rfl, rfl, fun _ => mem_acked_unacked⟩
  · exact runs_next (execAck_lifeline phase waits onPort) rfl
  · exact runs_updPort (P := fun q => q.rxNext = _ ∧ q.ackDue = _) (execSkip_run hears up frames skips) ⟨rfl, rfl⟩

/-! ### Retransmission -/

/-- A retransmission is asked for: its SEQ is queued once more and its tries advance (R270). -/
def requeue (x : BitVec 5) (q : PortState) : PortState :=
  { q with retryQ := if q.retryQ.contains x then q.retryQ else q.retryQ ++ [x],
           unacked := q.unacked.map fun v => if v.seq = x then { v with tries := v.tries + 1 } else v }

/-- One more failure of a frame sent (R273). -/
def failSent (q : PortState) : PortState := { q with txFails := q.txFails + 1 }

section
variable {s : State} {p : Port} {u : Unacked}

theorem State.retransmit_of_held (held : (s.port p).unacked.find? (fun v => v.seq = u.seq) = some u)
    (live : u.abandoned = false) (inTime : meldLate (s.port p) u.frame = false) (few : u.tries < 3) :
    s.retransmit p u.seq = s.updPort p (requeue u.seq) := by
  simp only [State.retransmit, held, live, inTime, Nat.not_le_of_lt few, Bool.false_eq_true, if_false]
  rfl

theorem State.retransmit_of_tried (held : (s.port p).unacked.find? (fun v => v.seq = u.seq) = some u)
    (live : u.abandoned = false) (inTime : meldLate (s.port p) u.frame = false) (tried : 3 ≤ u.tries) :
    s.retransmit p u.seq = (s.updPort p (abandon u.seq)).raise (portBlock p) 2 := by
  simp only [State.retransmit, held, live, inTime, tried, Bool.false_eq_true, if_false, if_true]

/-- Short of the eighth failure in a row the link stays up. -/
theorem State.countFail_sent (few : (s.port p).txFails < 7) : s.countFail p true = s.updPort p failSent := by
  have short : ¬ 8 ≤ (s.port p).txFails + 1 := by omega
  simp [State.countFail, short]
  rfl

theorem mem_requeue {q : PortState} (held : u ∈ q.unacked) :
    u.seq ∈ (requeue u.seq q).retryQ ∧ { u with tries := u.tries + 1 } ∈ (requeue u.seq q).unacked := by
  constructor
  · by_cases queued : u.seq ∈ q.retryQ <;> simp [requeue, queued]
  · exact List.mem_map.mpr ⟨u, held, if_pos rfl⟩

theorem mem_abandon {q : PortState} : u.seq ∈ (abandon u.seq q).skipDue ∧ u.seq ∉ (abandon u.seq q).retryQ := by
  by_cases due : u.seq ∈ q.skipDue <;> simp [abandon, due]

theorem execNak_run (hears : s.deaf p = false) (up : (s.port p).up = true) :
    exec (.nak p u.seq) s = .next (((s.endFeed p).retransmit p u.seq).countFail p true) := by
  simp [exec, execNak, hears, State.endFeed, up]

theorem execAckTimeout_run {rest : List Unacked} (oldest : (s.port p).unacked = u :: rest) (up : (s.port p).up = true) :
    exec (.ackTimeout p) s = .next ((s.retransmit p u.seq).countFail p true) := by
  simp [exec, execAckTimeout, oldest, up]

/-- What one more retransmission leaves, from a state whose port holds the copy. -/
theorem State.retransmit_countFail (held : (s.port p).unacked.find? (fun v => v.seq = u.seq) = some u)
    (live : u.abandoned = false) (inTime : meldLate (s.port p) u.frame = false) (few : u.tries < 3)
    (fails : (s.port p).txFails < 7) :
    (s.retransmit p u.seq).countFail p true = s.updPort p fun q => failSent (requeue u.seq q) := by
  rw [State.retransmit_of_held held live inTime few, State.countFail_sent (by simpa [requeue] using fails),
    State.updPort_updPort]

end

/-- Settles O3: a request within the three tries writes its port only; a fourth abandons the SEQ on the port and raises bit 2. -/
theorem lostFramesAreRepeatedThenSkipped : Obligations.LostFramesAreRepeatedThenSkipped := by
  refine ⟨fun s p u up live inTime few fails => ⟨fun hears held => ?_, fun rest oldest => ?_⟩,
    fun s p u blocks up hears live inTime tried fails held => ?_⟩
  · have run := execNak_run (u := u) hears up
    rw [State.retransmit_countFail (by simpa [State.endFeed] using held) live (by simpa [State.endFeed, meldLate] using inTime) few
      (by simpa [State.endFeed] using fails), State.endFeed, State.updPort_updPort] at run
    obtain ⟨queued, tried⟩ := mem_requeue (q := { s.port p with feed := Feed.off }) (List.mem_of_find?_eq_some held)
    exact runs_updPort (P := fun q => u.seq ∈ q.retryQ ∧ _ ∈ q.unacked ∧ q.txFails = _) run ⟨queued, tried, rfl⟩
  · have held : (s.port p).unacked.find? (fun v => v.seq = u.seq) = some u := by simp [oldest]
    have run := execAckTimeout_run oldest up
    rw [State.retransmit_countFail held live inTime few fails] at run
    obtain ⟨queued, tried⟩ := mem_requeue (List.mem_of_find?_eq_some held)
    exact runs_updPort (P := fun q => u.seq ∈ q.retryQ ∧ _ ∈ q.unacked ∧ q.txFails = _) run ⟨queued, tried, rfl⟩
  · have run := execNak_run (u := u) hears up
    rw [State.retransmit_of_tried (by simpa [State.endFeed] using held) live (by simpa [State.endFeed, meldLate] using inTime) tried,
      State.countFail_sent (by simpa [State.endFeed, abandon] using fails)] at run
    have same : ((s.endFeed p).updPort p (abandon u.seq)).faults = s.faults := by simp [State.endFeed]
    have raised := State.raise_has ((s.endFeed p).updPort p (abandon u.seq)) (portBlock p) 2 (same.symm ▸ blocks) (by decide)
    have sticky := State.raise_mono ((s.endFeed p).updPort p (abandon u.seq)) (portBlock p) 2
    refine runs_next run ⟨?_, ?_, ?_, (StickyKept.of_faults (by simp)) _ _ raised,
      (StickyKept.of_faults same).trans (sticky.trans (.of_faults (by simp)))⟩
    · simp (disch := decide) only [State.updPort_keeps, State.raise_keeps_calm (calm_portBlock p 2), State.endFeed_keeps, Keeps.refl]
    · simp [failSent, mem_abandon]
    · simp [failSent, mem_abandon]

/-! ### Other control symbols -/

section
variable {s : State} {p : Port}

theorem execCredit_run (hears : s.deaf p = false) (up : (s.port p).up = true) (r : BitVec 1) (f : BitVec 3) :
    ∃ g : PortState → PortState, exec (.credit p r f) s = .next (s.updPort p g) ∧
      g (s.port p) = { s.port p with freedSeen := f, resFreed := r, feed := Feed.off } :=
  ⟨_, rfl, by simp [hears, up]⟩

theorem execMarker_run (run : s.running = true) (hears : s.deaf p = false) :
    exec (.marker p) s = .next (s.updPort p fun q =>
      { q with line := [.control (.idle q.reserveFreed q.freed)], creditDue := false, feed := Feed.off }) := by
  simp [exec, execMarker, run, hears]

theorem execControlWordFailed_fails {w : Word} (run : s.running = true) (hears : s.deaf p = false) (fails : readControl w = none) :
    exec (.controlWordFailed p w) s = .next (s.raise (portBlock p) 0) := by
  simp [exec, execControlWordFailed, run, hears, fails]

theorem execControlWordFailed_reads {w : Word} (reads : (readControl w).isSome = true) :
    exec (.controlWordFailed p w) s = .next s := by
  have read : (readControl w).isNone = false := by simpa using reads
  simp [exec, execControlWordFailed, read]

end

/-- Settles O4: CREDIT and a marker write their port only; a word that fails R250 raises bit 0 and one that reads does nothing. -/
theorem controlSymbolsAreTaken : Obligations.ControlSymbolsAreTaken := by
  refine ⟨fun s p hears => ⟨fun r f up => ?_, fun run => ?_⟩, fun s p w => ⟨fun blocks run hears fails => ?_, fun reads => ?_⟩⟩
  · obtain ⟨g, run, taken⟩ := execCredit_run hears up r f
    exact runs_updPort (P := fun q => q = _) run taken
  · exact runs_updPort (P := fun q => q.line = _ ∧ q.feed = _) (execMarker_run run hears) ⟨rfl, rfl⟩
  · exact runs_raise_portBlock blocks (by decide) (execControlWordFailed_fails run hears fails)
  · exact execControlWordFailed_reads reads

/-! ### A link that comes up -/

section
variable {s : State} {p : Port}

theorem Gen.ne_l1_of_ring {g : Gen} (h : g.ring = true) : g ≠ .l1 := by
  rintro rfl
  cases h

/-- A port in RUN without a link and not held down ends its bring-up as the training says (R215, Table 8-4). -/
theorem execLinkUp_run (run : s.running = true) (free : (s.port p).heldDown = false) (down : (s.port p).up = false)
    (ring : (s.gen p).ring = true) :
    (2 ≤ (s.port p).trainFails → exec (.linkUp p .trainingFailed) s = .next (s.holdDown p 12)) ∧
    (∀ ns, 5 * (s.gen p).reachM < ns → exec (.linkUp p (.trained ns)) s = .next (s.holdDown p 13)) ∧
    ∀ ns, ns ≤ 5 * (s.gen p).reachM →
      exec (.linkUp p (.trained ns)) s = .next (((s.updPort p (portUp ns)).traceLink p true ns).linkCall p) := by
  refine ⟨fun third => ?_, fun ns far => ?_, fun ns near => ?_⟩
  · simp [exec, execLinkUp, run, free, down, ring, Gen.ne_l1_of_ring ring, third]
  · simp [exec, execLinkUp, run, free, down, ring, Gen.ne_l1_of_ring ring, far]
  · simp [exec, execLinkUp, run, free, down, ring, Gen.ne_l1_of_ring ring, Nat.not_lt_of_le near]

/-- A CALL that joins the frames to send of a port touches nothing else of it. -/
theorem State.linkCall_port (s : State) (p : Port) :
    ∃ g : PortState → PortState, s.linkCall p = s.updPort p g ∧
      ∀ q, ∃ fs n, g q = { q with normalQ := fs, queueDrops := n } := by
  have none_sent : ∃ g : PortState → PortState, s = s.updPort p g ∧ ∀ q, ∃ fs n, g q = { q with normalQ := fs, queueDrops := n } :=
    ⟨id, by cases p <;> rfl, fun q => ⟨q.normalQ, q.queueDrops, rfl⟩⟩
  unfold State.linkCall State.sendCall State.send State.queue
  split
  · exact none_sent
  · dsimp only
    split
    · exact none_sent
    · split
      · refine ⟨_, rfl, fun q => ?_⟩
        dsimp only [State.ownFrame]
        split
        · exact ⟨_, _, rfl⟩
        · exact ⟨_, _, rfl⟩
      · exact none_sent

@[simp] theorem State.traceLink_port (up : Bool) (ns : Nat) (r : Port) : (s.traceLink p up ns).port r = s.port r := by
  cases r <;> rfl

@[simp] theorem State.linkCall_port_other : (s.linkCall p).port p.other = s.port p.other := by
  obtain ⟨g, e, -⟩ := s.linkCall_port p
  rw [e, State.updPort_port_other]

/-- What a trained link leaves of its port: up, every count at 0 (R215, R268). -/
theorem State.linkUp_port (s : State) (p : Port) (ns : Nat) :
    ∃ g : PortState → PortState, (((s.updPort p (portUp ns)).traceLink p true ns).linkCall p).port p = g (portUp ns (s.port p)) ∧
      ∀ q, ∃ fs n, g q = { q with normalQ := fs, queueDrops := n } := by
  obtain ⟨g, e, only⟩ := ((s.updPort p (portUp ns)).traceLink p true ns).linkCall_port p
  exact ⟨g, by rw [e, State.updPort_port, State.traceLink_port, State.updPort_port], only⟩

theorem State.linkUp_frame (s : State) (p : Port) (ns : Nat) :
    Keeps [.portN, .portS, .logs] s (((s.updPort p (portUp ns)).traceLink p true ns).linkCall p) := by
  simp (disch := decide) only [State.linkCall_keeps, State.traceLink_keeps, State.updPort_keeps, Keeps.refl]

/-! ### A link that is held down or goes down -/

/-- A link held down keeps the rest of its port, and the bit of its cause is set (Table 8-4). -/
theorem runs_holdDown {c : Instr} {i : Nat} (hf : s.faults.length = 18) (hi : i < 16) (run : exec c s = .next (s.holdDown p i)) :
    Runs c s fun t => Keeps [.portN, .portS, .faults, .logs, .pins] s t ∧ (t.port p).heldDown = true ∧ (t.port p).up = false ∧
      t.has (portBlock p) i = true ∧ StickyKept s t := by
  have same : (s.updPort p fun q => { q with heldDown := true, up := false }).faults = s.faults := State.updPort_faults ..
  refine runs_next run ⟨?_, ?_, ?_, State.raise_has _ _ _ (same.symm ▸ hf) hi, (StickyKept.of_faults same).trans (State.raise_mono _ _ _)⟩
  · exact (State.holdDown_keeps (by decide) p i).mpr (Keeps.refl _ s)
  · simp [State.holdDown]
  · simp [State.holdDown]

/-- What goes with the link: its queues and copies, and the slots of frames that came over it (R273, R268). -/
def State.linkDrops (s : State) (p : Port) : State :=
  (((s.freeSlots ((s.port p).trumpQ ++ (s.port p).normalQ ++ (s.port p).serviceQ ++ (s.port p).delayed)).updPort p portDown).updPort
    p.other (forgetSlots p)).traceLink p false 0

/-- What is left when an up link goes down, before a Hand changes its primary side (R273). -/
def State.linkGone (s : State) (p : Port) : State := (s.linkDrops p).raise (portBlock p) (if s.closedRing then 5 else 9)

theorem State.linkDrops_frame : Keeps [.portN, .portS, .logs] s (s.linkDrops p) := by
  unfold State.linkDrops
  simp (disch := decide) only [State.traceLink_keeps, State.updPort_keeps, State.freeSlots_keeps, Keeps.refl]

theorem Keeps.closedRing {G : List Group} {t : State} (h : Keeps G s t) (c : covers [.straps] G = false)
    (d : covers [.ring] G = false) : t.closedRing = s.closedRing := by
  have ring : t.ring = s.ring := h.group .ring d
  simp only [State.closedRing, h.isDealer c, h.cfg c, ring]

/-- A link that goes down has only its port's primary side left to change (R299, R303). -/
theorem State.linkDown_eq (up : (s.port p).up = true) :
    s.linkDown p = s.linkGone p ∨ s.linkDown p = (s.linkGone p).switchPrimary p.other := by
  have ring : (s.linkDrops p).closedRing = s.closedRing := State.linkDrops_frame.closedRing (by decide) (by decide)
  have down : s.linkDown p = if (s.linkGone p).closedRing && !(s.linkGone p).isDealer && (s.linkGone p).ring.primary = p &&
      ((s.linkGone p).port p.other).up then (s.linkGone p).switchPrimary p.other else s.linkGone p := by
    unfold State.linkGone
    rw [← ring]
    unfold State.linkDown
    rw [if_neg (by simp [up])]
    rfl
  rw [down]
  split
  · exact .inr rfl
  · exact .inl rfl

theorem State.linkGone_port : ((s.linkGone p).port p).up = false ∧ ((s.linkGone p).port p).unacked = [] ∧
    ((s.linkGone p).port p).trumpQ = [] ∧ ((s.linkGone p).port p).normalQ = [] ∧ ((s.linkGone p).port p).serviceQ = [] := by
  simp [State.linkGone, State.linkDrops, portDown, PortState.reset]

theorem State.switchPrimary_port (side r : Port) : (s.switchPrimary side).port r = s.port r :=
  ((State.switchPrimary_keeps (G := [.faults, .logs, .pins, .ring, .clocks]) (by decide) side).mpr (Keeps.refl _ s)).port r
    (by decide) (by decide)

theorem State.linkDown_port (up : (s.port p).up = true) : (s.linkDown p).port p = (s.linkGone p).port p := by
  rcases State.linkDown_eq up with e | e
  · rw [e]
  · rw [e, State.switchPrimary_port]

theorem State.linkDown_has (hf : s.faults.length = 18) (up : (s.port p).up = true) :
    (s.linkDown p).has (portBlock p) (if s.closedRing then 5 else 9) = true := by
  have gone : (s.linkGone p).has (portBlock p) (if s.closedRing then 5 else 9) = true := by
    have same : (s.linkDrops p).faults = s.faults := State.linkDrops_frame.group .faults (by decide)
    exact State.raise_has _ _ _ (same.symm ▸ hf) (by split <;> decide)
  rcases State.linkDown_eq up with e | e
  · rw [e, gone]
  · rw [e]
    exact (State.switchPrimary_sound (m := true) (l := true) _ (Sound.refl _ _ _)).sticky rfl _ _ gone

theorem State.linkDown_frame : Keeps [.portN, .portS, .faults, .logs, .pins, .ring, .clocks] s (s.linkDown p) :=
  (State.linkDown_keeps (by decide) p).mpr (Keeps.refl _ s)

theorem State.linkDown_mono : StickyKept s (s.linkDown p) :=
  (State.linkDown_sound (m := true) (l := true) p (Sound.refl _ _ s)).sticky rfl

theorem execOtherGenerationActivity_run (run : s.running = true) (down : (s.port p).up = false) (ring : (s.gen p).ring = true) :
    exec (.otherGenerationActivity p) s = .next (s.holdDown p 11) := by
  simp [exec, execOtherGenerationActivity, run, down, ring]

theorem execCarrierOnUpLink_run (run : s.running = true) (up : (s.port p).up = true) :
    exec (.carrierOnUpLink p) s = .next ((s.raise (portBlock p) 7).linkDown p) := by
  simp [exec, execCarrierOnUpLink, run, up]

end

/-- Settles O6: bring-up ends in a port out of its reset values or in a link held down; a link that goes down leaves a port of
reset values, and its primary side is all that changes after the event is raised. -/
theorem linksComeAndGo : Obligations.LinksComeAndGo := by
  refine ⟨fun s p run free down ring => ?_, fun s p blocks run down ring => ?_, fun s p blocks up => ⟨?_, fun run => ?_⟩⟩
  · obtain ⟨failed, far, near⟩ := execLinkUp_run run free down ring
    refine ⟨fun ns reach => runs_next (near ns reach) ?_, fun blocks third => ?_, fun ns blocks beyond => ?_⟩
    · obtain ⟨g, port, only⟩ := s.linkUp_port p ns
      obtain ⟨fs, n, e⟩ := only (portUp ns (s.port p))
      rw [port, e]
      exact ⟨s.linkUp_frame p ns, rfl, rfl, rfl, rfl, rfl, rfl, rfl, by simp⟩
    · obtain ⟨t, run, frame, held, noLink, bit, -⟩ := runs_holdDown blocks (by decide) (failed third)
      exact ⟨t, run, frame, held, noLink, bit⟩
    · obtain ⟨t, run, frame, held, noLink, bit, -⟩ := runs_holdDown blocks (by decide) (far ns beyond)
      exact ⟨t, run, frame, held, noLink, bit⟩
  · exact runs_holdDown blocks (by decide) (execOtherGenerationActivity_run run down ring)
  · refine runs_next (u := s.linkDown p) rfl ?_
    rw [State.linkDown_port up]
    obtain ⟨noLink, unacked, trumps, normals, services⟩ := s.linkGone_port (p := p)
    exact ⟨State.linkDown_frame, noLink, unacked, trumps, normals, services, State.linkDown_has blocks up, State.linkDown_mono⟩
  · have raised := State.raise_has s (portBlock p) 7 blocks (by decide)
    have stillUp : ((s.raise (portBlock p) 7).port p).up = true := by simpa using up
    have closed : (s.raise (portBlock p) 7).closedRing = s.closedRing :=
      (State.raise_frame (calm_portBlock p 7)).closedRing (by decide) (by decide)
    have down := State.linkDown_has (by simpa using blocks) stillUp
    rw [closed] at down
    refine runs_next (execCarrierOnUpLink_run run up)
      ⟨((State.raise_frame (calm_portBlock p 7)).mono (by decide)).trans State.linkDown_frame, ?_, State.linkDown_mono _ _ raised, down⟩
    rw [State.linkDown_port stillUp]
    exact State.linkGone_port.1

end Sys2Proof.Machine

/-!
PROOFS. Frames that reach the device: once taken, what it does with them decides the rest. From it the Dealer's ANSWERs, REJOINs,
MELDs and TRUMPs, and beside it the REJOIN of a device out of service (chapters 09 and 10).
-/
namespace Sys2Proof.Machine

/-! ### A frame that is taken -/

/-- From `s` to `w` the port has taken one frame and freed its slot; nothing else has changed. -/
def TakesFrame (s w : State) (p : Port) : Prop := ∃ k : PortState → PortState, PortState.Takes k ∧ w = s.updPort p k

section
variable {s w u : State} {p : Port} {ft : FrameType} {f : RxFrame} {P : State → Prop} {c : Instr} {t : Nat}

theorem TakesFrame.frame (h : TakesFrame s w p) : Keeps [.portN, .portS] s w := by
  obtain ⟨k, -, rfl⟩ := h
  exact (State.updPort_keeps (by decide) p k).mpr (Keeps.refl _ s)

theorem TakesFrame.dealer (h : TakesFrame s w p) : w.dealer = s.dealer := h.frame.group .dealer (by decide)

theorem TakesFrame.pos (h : TakesFrame s w p) (i : Nat) : w.pos i = s.pos i := by simp only [State.pos, h.dealer]

theorem TakesFrame.isDealer (h : TakesFrame s w p) : w.isDealer = s.isDealer := h.frame.isDealer (by decide)

/-- Nothing is held behind a frame that was delivered in order. -/
theorem TakesFrame.held (h : TakesFrame s w p) (d : Delivers s p ft f) :
    (w.port p).heldFrames = [] ∧ (w.port p).heldSkips = [] := by
  obtain ⟨k, takes, rfl⟩ := h
  obtain ⟨-, -, -, -, frames, skips, -⟩ := d
  obtain ⟨-, -, keptFrames, keptSkips, -⟩ := takes (s.port p)
  exact ⟨by rw [State.updPort_port, keptFrames, frames], by rw [State.updPort_port, keptSkips, skips]⟩

theorem TakesFrame.taken (h : TakesFrame s w p) (d : Delivers s p ft f) (hu : u.port p = w.port p) : Taken s u p f := by
  obtain ⟨k, takes, rfl⟩ := h
  obtain ⟨-, -, -, next, -⟩ := d
  exact Taken.of_port s p k takes u f next hu

/-- A frame that is delivered is taken and acted on; the handling decides the rest, where it leaves its own port alone. -/
theorem Delivers.runs (d : Delivers s p ft f) (run : exec c s = .next (s.receive p ft f t))
    (act : ∀ w, TakesFrame s w p → (w.consume p ft f t).port p = w.port p ∧ P (w.consume p ft f t)) :
    Runs c s fun u => P u ∧ Taken s u p f := by
  obtain ⟨k, takes, e⟩ := State.receive_eq s p ft f t d
  have taking : TakesFrame s (s.updPort p k) p := ⟨k, takes, rfl⟩
  obtain ⟨port, result⟩ := act _ taking
  rw [e, Delivers.drained s p k takes _ ft f d port] at run
  exact runs_next run ⟨result, taking.taken d port⟩

theorem execAnswer_run (sub : subtype f.payload = 2) : exec (.answer p f) s = .next (s.receive p .rollcall f 0) := by
  simp [exec, execAnswer, State.receiveCall, sub]

theorem execRejoin_run (sub : subtype f.payload = 5) : exec (.rejoin p f) s = .next (s.receive p .rollcall f 0) := by
  simp [exec, execRejoin, State.receiveCall, sub]

end

/-! ### What the Dealer keeps of a position -/

section
variable {s : State} {i j : Nat} {α : Type}

/-- What the Dealer holds for a position, but its state. -/
theorem State.setPos_pos (s : State) (i j : Nat) (st : PosState) : ∃ x, (s.setPos i st).pos j = { s.pos j with state := x } := by
  have traced : ∀ (u : State) (t : Byte) (d : List Byte), (u.trace t d).dealer = u.dealer := fun _ _ _ => rfl
  have before : ∀ u : State, u.dealer = s.dealer → ∃ x, (u.updPos i fun p => { p with state := st }).pos j = { s.pos j with state := x } := by
    intro u same
    have posSame : u.pos j = s.pos j := by simp only [State.pos, same]
    by_cases ij : i = j
    · subst ij
      by_cases inRange : i < u.dealer.positions.length
      · exact ⟨st, by rw [State.pos_updPos _ _ _ inRange, posSame]⟩
      · refine ⟨(s.pos i).state, ?_⟩
        rw [← posSame]
        simp [State.pos, State.updPos, State.updDealer, List.getD_eq_getElem?_getD, List.getElem?_eq_none (Nat.le_of_not_lt inRange)]
    · exact ⟨(s.pos j).state, by rw [State.pos_updPos_ne _ _ _ _ ij, posSame]⟩
  unfold State.setPos
  dsimp only
  split
  · exact before s rfl
  · exact before _ (traced ..)

@[simp] theorem State.setPos_answer (st : PosState) : ((s.setPos i st).pos j).answer = (s.pos j).answer := by
  obtain ⟨x, e⟩ := s.setPos_pos i j st
  rw [e]

@[simp] theorem State.setPos_partA (st : PosState) : ((s.setPos i st).pos j).partA = (s.pos j).partA := by
  obtain ⟨x, e⟩ := s.setPos_pos i j st
  rw [e]

theorem Keeps.pos {G : List Group} {t : State} (h : Keeps G s t) (c : covers [.dealer] G = false) (i : Nat) : t.pos i = s.pos i := by
  have same : t.dealer = s.dealer := h.group .dealer c
  simp only [State.pos, same]

end

/-! ### ANSWER and REJOIN -/

section
variable {s w : State} {p r : Port} {i src : Nat}

theorem State.port_updPort (s : State) (r p : Port) (g : PortState → PortState) :
    (s.updPort r g).port p = if r = p then g (s.port p) else s.port p := by
  cases r <;> cases p <;> rfl

/-- The frames and the SKIPs a port holds behind a gap are the same in both states. -/
def SameHeld (p : Port) (s t : State) : Prop :=
  (t.port p).heldFrames = (s.port p).heldFrames ∧ (t.port p).heldSkips = (s.port p).heldSkips

theorem SameHeld.of_port {t : State} (h : t.port p = s.port p) : SameHeld p s t := by
  unfold SameHeld
  rw [h]
  exact ⟨rfl, rfl⟩

theorem SameHeld.trans {t u : State} (h : SameHeld p s t) (k : SameHeld p t u) : SameHeld p s u :=
  ⟨k.1.trans h.1, k.2.trans h.2⟩

theorem State.queue_held (s : State) (r : Port) (x : TxFrame) : SameHeld p s (s.queue r x) := by
  unfold SameHeld State.queue
  rw [State.port_updPort]
  split
  · split
    · split <;> exact ⟨rfl, rfl⟩
    · exact ⟨rfl, rfl⟩
  · exact ⟨rfl, rfl⟩

theorem State.sendCall_held (s : State) (r : Port) (target : Nat) : SameHeld p s (s.sendCall r target) := by
  unfold State.sendCall State.send
  split
  · exact s.queue_held _ _
  · exact .of_port rfl

theorem State.endDiscovery_frame : Keeps [.ring, .dealer, .logs] s s.endDiscovery :=
  (State.endDiscovery_keeps (by decide)).mpr (Keeps.refl _ s)

theorem State.endSweep_held : SameHeld p s s.endSweep := by
  unfold State.endSweep State.discoveryCall
  dsimp only
  split
  · exact SameHeld.trans (.of_port (by cases p <;> rfl)) (State.sendCall_held _ _ _)
  · exact .of_port (State.endDiscovery_frame.port p (by decide) (by decide))

/-- The end of a sweep keeps the answers: it makes positions DUMMY and no more of them (R285). -/
theorem State.endDiscovery_answer : (s.endDiscovery.pos i).answer = (s.pos i).answer := by
  have dummies : ∀ (l : List Nat) (u : State), ((l.foldl (fun t j =>
      if 1 ≤ j ∧ (t.pos j).state = .vacant then t.setPos j .dummy else t) u).pos i).answer = (u.pos i).answer := by
    intro l
    induction l with
    | nil => exact fun _ => rfl
    | cons j l ih =>
      intro u
      rw [List.foldl_cons, ih]
      split
      · exact State.setPos_answer _
      · rfl
  unfold State.endDiscovery
  dsimp only
  split
  · rfl
  · rw [dummies]
    rfl

theorem State.endSweep_answer : (s.endSweep.pos i).answer = (s.pos i).answer := by
  unfold State.endSweep State.discoveryCall
  dsimp only
  split
  · rw [((State.sendCall_keeps (G := [.portN, .portS]) (by decide) _ _).mpr (Keeps.refl _ _)).pos (by decide)]
    rfl
  · exact State.endDiscovery_answer

theorem State.judgeFactory_frame (a : Answer) : Keeps [.logs, .dealer, .faults, .pins] s (s.judgeFactory i a) :=
  (State.judgeFactory_keeps (by decide) i a).mpr (Keeps.refl _ s)

theorem State.judgeFactory_answer (a : Answer) : ((s.judgeFactory src a).pos i).answer = (s.pos i).answer := by
  have raised : ∀ (u : State) (c : Bool) (n : Nat), calm .superv n = true → (u.raiseIf c .superv n).pos i = u.pos i :=
    fun u c n h => ((State.raiseIf_keeps_calm (G := [.faults, .logs, .pins]) h (by decide) c).mpr (Keeps.refl _ u)).pos (by decide) i
  unfold State.judgeFactory
  split
  · exact State.setPos_answer _
  · split
    · rw [raised _ _ _ (by decide), State.setPos_answer]
    · rw [(State.raise_frame (by decide)).pos (by decide), State.setPos_answer]

/-- Judged or known already, a position keeps its answer, and the ports are as they were. -/
theorem State.judged_answer {g : Prop} [Decidable g] (a : Answer) :
    ((if g then s else s.judgeFactory src a).pos i).answer = (s.pos i).answer ∧
      ∀ p, (if g then s else s.judgeFactory src a).port p = s.port p := by
  split
  · exact ⟨rfl, fun _ => rfl⟩
  · exact ⟨State.judgeFactory_answer a, fun p => (State.judgeFactory_frame a).port p (by decide) (by decide)⟩

/-- An ANSWER in discovery stays with its position, and what a port holds behind a gap stays as it is (R284). -/
theorem State.handleAnswer_answer {ws : List Word} (dealer : s.isDealer = true) (active : s.dealer.discovery.active = true)
    (other : src ≠ 0) (inRange : src < s.dealer.positions.length) :
    ((s.handleAnswer src ws).pos src).answer = some ws ∧ ∀ p, SameHeld p s (s.handleAnswer src ws) := by
  have noted : ((s.updPos src fun x => { x with answer := some ws }).pos src).answer = some ws := by
    rw [State.pos_updPos _ _ _ inRange]
  have ends : ∀ (c : Prop) [Decidable c] (u : State), (u.pos src).answer = some ws → (∀ p, u.port p = s.port p) →
      ((if c then u.endSweep else u).pos src).answer = some ws ∧ ∀ p, SameHeld p s (if c then u.endSweep else u) := by
    intro c _ u answer ports
    split
    · exact ⟨State.endSweep_answer.trans answer, fun p => (SameHeld.of_port (ports p)).trans State.endSweep_held⟩
    · exact ⟨answer, fun p => .of_port (ports p)⟩
  unfold State.handleAnswer
  simp only [dealer, active, other, Bool.not_true, Bool.false_or, decide_false, Bool.false_eq_true, if_false]
  obtain ⟨answer, ports⟩ := State.judged_answer (s := s.updPos src fun x => { x with answer := some ws }) (src := src) (i := src)
    (g := (s.dealer.discovery.answered.contains src &&
      decide (((s.updPos src fun x => { x with answer := some ws }).pos src).state ≠ .dummy)) = true) (readAnswer ws)
  exact ends _ _ (answer.trans noted) fun p => (ports p)

theorem execAnswer_keeps {f : RxFrame} {t : State} (h : s.receive p .rollcall f 0 = t) (d : Delivers s p .rollcall f)
    (sub : subtype f.payload = 2) (dealer : s.isDealer = true) (active : s.dealer.discovery.active = true)
    (other : f.src.toNat ≠ 0) (inRange : f.src.toNat < s.dealer.positions.length) :
    (t.pos f.src.toNat).answer = some f.payload ∧ t.flash = s.flash ∧ t.keeper = s.keeper := by
  obtain ⟨k, takes, e⟩ := State.receive_eq s p .rollcall f 0 d
  have taking : TakesFrame s (s.updPort p k) p := ⟨k, takes, rfl⟩
  obtain ⟨frames, skips⟩ := taking.held d
  have handled : (s.updPort p k).consume p .rollcall f 0 = (s.updPort p k).handleAnswer f.src.toNat f.payload := by
    simp only [State.consume, sub]
  obtain ⟨answer, held⟩ := State.handleAnswer_answer (s := s.updPort p k) (src := f.src.toNat) (ws := f.payload)
    (taking.isDealer.trans dealer) (by rw [taking.dealer, active]) other (by rw [taking.dealer]; exact inRange)
  have frame : Keeps [.dealer, .logs, .faults, .pins, .ring, .portN, .portS] s
      ((s.updPort p k).handleAnswer f.src.toNat f.payload) := by
    simp (disch := decide) only [State.handleAnswer_keeps, State.updPort_keeps, Keeps.refl]
  rw [e, handled, State.drainAll_id _ _ ((held p).1.trans frames) ((held p).2.trans skips)] at h
  subst h
  exact ⟨answer, frame.group .flash (by decide), frame.group .keeper (by decide)⟩

/-- A REJOIN at the Dealer stays with its position (R307). -/
theorem State.handleRejoin_eq {ws : List Word} (dealer : s.isDealer = true) (other : src ≠ 0) :
    s.handleRejoin src ws = s.updPos src fun p => { p with rejoin := some ws } := by
  simp [State.handleRejoin, dealer, other]

/-! ### REJOIN_SEND -/

theorem execRejoinSend_run (run : s.running = true) (hand : s.isDealer = false) (dealing : s.ring.dealing = true)
    (placed : s.ring.pos.isSome = true) (timed : (s.latency s.ring.primary).isSome = true) (out : s.ring.admitted = false)
    (due : s.ring.rejoinIn = 0) (sane : s.dev.fatal = false) :
    exec .rejoinSend s = .next ((s.send s.ring.primary .rollcall (s.ownAnswer.words 5)).updRing fun r =>
      { r with rejoinIn := if r.refused then 64 else 4, rejoinSent := some r.deal }) := by
  simp [exec, execRejoinSend, run, hand, dealing, placed, timed, out, due, sane]

/-- A frame of general traffic joins the queue of an up port that is not fenced (R262). -/
theorem State.send_normalQ {ft : FrameType} {ws : List Word} (up : (s.port p).up = true) (free : (s.port p).fenced = false)
    (general : ft ≠ .beacon ∧ ft ≠ .trump ∧ ft ≠ .service) :
    ((s.send p ft ws).port p).normalQ = (s.port p).normalQ ++ [s.ownFrame p ft ws] := by
  obtain ⟨notBeacon, notTrump, notService⟩ := general
  cases ft with
  | beacon => exact absurd rfl notBeacon
  | trump => exact absurd rfl notTrump
  | service => exact absurd rfl notService
  | _ => simp [State.send, State.queue, State.ownFrame, up, free]

end

/-- Settles O9: a frame that is delivered is handled once; an ANSWER is noted before the sweep can end, which keeps answers. -/
theorem answersAndRejoin : Obligations.AnswersAndRejoin := by
  refine ⟨fun s p f d dealer other inRange => ⟨fun sub active => ?_, fun sub => ?_⟩,
    fun s run hand dealing placed timed out due sane => ?_⟩
  · exact runs_next (execAnswer_run sub) (execAnswer_keeps rfl d sub dealer active other inRange)
  · obtain ⟨t, run, ⟨frame, kept⟩, taken⟩ := d.runs
      (P := fun t => Keeps [.portN, .portS, .dealer] s t ∧ (t.pos f.src.toNat).rejoin = some f.payload) (execRejoin_run sub) fun w taking => by
        have handled : w.consume p .rollcall f 0 = w.updPos f.src.toNat fun x => { x with rejoin := some f.payload } := by
          simp only [State.consume, sub]
          exact State.handleRejoin_eq (taking.isDealer.trans dealer) other
        rw [handled, State.pos_updPos _ _ _ (by rw [taking.dealer]; exact inRange)]
        refine ⟨by cases p <;> rfl, ?_, rfl⟩
        rw [State.updPos_keeps (by decide)]
        exact taking.frame.mono (by decide)
    exact runs_next run ⟨frame, taken, kept⟩
  · have sent : Keeps [.portN, .portS] s (s.send s.ring.primary .rollcall (s.ownAnswer.words 5)) :=
      (State.send_keeps (by decide) _ _ _).mpr (Keeps.refl _ s)
    have ring : (s.send s.ring.primary .rollcall (s.ownAnswer.words 5)).ring = s.ring := sent.group .ring (by decide)
    refine runs_next (execRejoinSend_run run hand dealing placed timed out due sane) ⟨?_, ?_, fun up free => ?_⟩
    · rw [State.updRing_keeps (by decide)]
      exact sent.mono (by decide)
    · rw [State.updRing_ring, ring]
    · rw [State.updRing_port, State.send_normalQ (ft := .rollcall) up free ⟨nofun, nofun, nofun⟩]

/-! ### MELDs at the Dealer -/

section
variable {s w : State} {p : Port} {f : RxFrame} {i src t : Nat} {deal : Word} {ws : List Word}

theorem State.handleMeld_frame : Keeps [.dealer, .faults, .logs, .pins, .safety] s (s.handleMeld src deal ws t) :=
  (State.handleMeld_keeps (by decide) src deal ws t).mpr (Keeps.refl _ s)

theorem State.handleMeld_dropped (out : (s.pos src).state.isAdmitted = false) : s.handleMeld src deal ws t = s := by
  simp [State.handleMeld, out]

/-- The end of an admission keeps part A (R307). -/
theorem State.completeAdmission_partA : ((s.completeAdmission src ws).pos i).partA = (s.pos i).partA := by
  have timer : ∀ u : State, u.degradedTimer.pos i = u.pos i := fun u =>
    ((State.degradedTimer_keeps (G := [.safety]) (by decide)).mpr (Keeps.refl _ u)).pos (by decide) i
  have served : ∀ u : State, ((u.updPos src fun x => { x with outOfService := false }).pos i).partA = (u.pos i).partA := by
    intro u
    by_cases same : src = i
    · subst same
      by_cases inRange : src < u.dealer.positions.length
      · rw [State.pos_updPos _ _ _ inRange]
      · simp [State.pos, State.updPos, State.updDealer, List.getD_eq_getElem?_getD, List.getElem?_eq_none (Nat.le_of_not_lt inRange)]
    · rw [State.pos_updPos_ne _ _ _ _ same]
  unfold State.completeAdmission
  split
  · dsimp only
    rw [timer, served]
    split
    · exact State.setPos_partA _
    · rfl
  · rfl

/-- A MELD of the open deal from an admitted position is kept (R292). -/
theorem State.handleMeld_partA (admitted : (s.pos src).state.isAdmitted = true) (other : src ≠ 0) (isOpen : s.dealer.open_ = true)
    (now : deal = s.ring.deal) (partA : meldPart ws = 0) (inRange : src < s.dealer.positions.length) :
    ((s.handleMeld src deal ws t).pos src).partA = some ws := by
  have notNext : ¬ s.ring.deal = s.ring.deal + 1 := by simp
  subst now
  simp only [State.handleMeld, admitted, other, isOpen, notNext, Bool.not_true, decide_false, Bool.or_self,
    Bool.false_eq_true, if_false, decide_true, Bool.and_self, State.completeAdmission_partA, State.keepMeld, partA]
  rw [State.pos_updPos _ _ _ (by simpa using inRange)]

/-! ### TRUMPs at the Dealer -/

theorem State.openPack_frame (r : Nat) : Keeps [.logs, .services, .outputs, .meas, .pins] s (s.openPack r) :=
  (State.openPack_keeps (by decide) r).mpr (Keeps.refl _ s)

/-- A trip with lock-out sets both copies and leaves READY low (R472, R497, R511). -/
theorem State.trip_locks (c : Nat) :
    (s.trip (some c)).keeper.lockout = true ∧ (s.trip (some c)).nv.lockout = true ∧ (s.trip (some c)).pins.ready = false := by
  refine ⟨rfl, rfl, ?_⟩
  have logged : ∀ (u : State), (if u.keeper.lockout then u else u.logLockout 1 c 0).pins = u.pins := fun u => by
    split
    · rfl
    · exact ((State.logLockout_keeps (G := [.logs]) (by decide) 1 c 0).mpr (Keeps.refl _ u)).group .pins (by decide)
  simp only [State.trip, State.setLockout, State.lockPin, State.updPins_pins, State.updNv_pins, State.updKeeper_pins, logged]
  exact (State.openPack_pack s 1).2

theorem State.handleTrump_again (admitted : (s.pos f.src.toNat).state.isAdmitted = true)
    (known : s.dealer.trumps.contains (f.src, deal, field (pw ws 0) 17 12, field (pw ws 0) 11 7) = true) :
    s.handleTrump f.src deal ws = (s.updDealer fun d => { d with trumpDrops := d.trumpDrops + 1 }).traceTrump 2 (field (pw ws 0) 17 12)
      (field (pw ws 0) 11 7) f.src.toNat := by
  simp only [State.handleTrump, admitted, known, Bool.not_true, Bool.false_eq_true, if_false, if_true]

/-- The first TRUMP of cause CELL HIGH of its key trips with lock-out cause 1 (R497). -/
theorem State.handleTrump_cellHigh (admitted : (s.pos f.src.toNat).state.isAdmitted = true) (cause : field (pw ws 0) 17 12 = 1)
    (first : s.dealer.trumps.contains (f.src, deal, 1, field (pw ws 0) 11 7) = false) :
    ∃ u : State, Keeps [.dealer, .logs] s u ∧
      s.handleTrump f.src deal ws = (u.trip (some 1)).updPins fun x => { x with faultN := x.faultN || u.running } := by
  refine ⟨(s.updDealer fun d => { d with trumps := d.trumps ++ [(f.src, deal, 1, field (pw ws 0) 11 7)] }).traceTrump 1 1
    (field (pw ws 0) 11 7) f.src.toNat, ?_, ?_⟩
  · simp (disch := decide) only [State.traceTrump_keeps, State.updDealer_keeps, Keeps.refl]
  · simp only [State.handleTrump, admitted, cause, first, State.actTrump, Bool.not_true, Bool.false_eq_true, if_false]

theorem State.hears_running (h : s.hears p = true) : s.running = true :=
  (Bool.and_eq_true_iff.mp h).1

theorem State.handleTrump_trips (run : s.running = true) (admitted : (s.pos f.src.toNat).state.isAdmitted = true)
    (cause : field (pw ws 0) 17 12 = 1) (first : s.dealer.trumps.contains (f.src, deal, 1, field (pw ws 0) 11 7) = false) :
    (s.handleTrump f.src deal ws).keeper.lockout = true ∧ (s.handleTrump f.src deal ws).nv.lockout = true ∧
      (s.handleTrump f.src deal ws).services.pack = .opened ∧ (s.handleTrump f.src deal ws).pins.faultN = true ∧
      (s.handleTrump f.src deal ws).pins.ready = false := by
  obtain ⟨u, frame, e⟩ := State.handleTrump_cellHigh admitted cause first
  have dev : u.dev = s.dev := frame.group .dev (by decide)
  have running : u.running = true := by rw [State.running, dev]; exact run
  obtain ⟨keeper, nv, ready⟩ := u.trip_locks 1
  rw [e]
  exact ⟨keeper, nv, State.trip_pack u 1, by simp [running], ready⟩

theorem State.handleTrump_frame (srcBits : BitVec 6) :
    Keeps [.logs, .dealer, .outputs, .meas, .services, .pins, .keeper, .nv] s (s.handleTrump srcBits deal ws) :=
  (State.handleTrump_keeps (by decide) srcBits deal ws).mpr (Keeps.refl _ s)

end

/-- Settles O10: a frame that is delivered is handled on a state with the Dealer's table of before; a MELD is kept before its
admission ends, a TRUMP's key decides between trip and count. -/
theorem meldsAndTrumpsAtTheDealer : Obligations.MeldsAndTrumpsAtTheDealer := by
  intro s p f t dealer inRange
  refine ⟨fun d partA isOpen now other admitted => ?_, fun d out => ?_, fun d cause admitted first => ?_,
    fun d cause admitted again => ?_⟩
  · refine d.runs (P := fun t => (t.pos f.src.toNat).partA = some f.payload) rfl fun w taking => ⟨?_, ?_⟩
    · exact State.handleMeld_frame.port p (by decide) (by decide)
    · have ring : w.ring = s.ring := taking.frame.group .ring (by decide)
      exact State.handleMeld_partA (by rw [taking.pos]; exact admitted) other (by rw [taking.dealer]; exact isOpen)
        (by rw [ring]; exact now) partA (by rw [taking.dealer]; exact inRange)
  · refine d.runs (P := fun t => t.dealer = s.dealer) rfl fun w taking => ?_
    have dropped : w.consume p .meld f t = w := State.handleMeld_dropped (by rw [taking.pos]; exact out)
    rw [dropped]
    exact ⟨rfl, taking.dealer⟩
  · obtain ⟨hears, -⟩ := id d
    obtain ⟨t, run, ⟨keeper, nv, pack, pin, ready⟩, taken⟩ := d.runs (c := .trumpReceived p f)
      (P := fun t => t.keeper.lockout = true ∧ t.nv.lockout = true ∧ t.services.pack = .opened ∧ t.pins.faultN = true ∧
        t.pins.ready = false) rfl fun w taking => ⟨(State.handleTrump_frame _).port p (by decide) (by decide), by
          have dev : w.dev = s.dev := taking.frame.group .dev (by decide)
          have run : w.running = true := by rw [State.running, dev]; exact State.hears_running hears
          exact State.handleTrump_trips run (by rw [taking.pos]; exact admitted) cause (by rw [taking.dealer]; exact first)⟩
    exact runs_next run ⟨keeper, nv, pack, pin, ready, taken⟩
  · obtain ⟨t, run, ⟨counted, services, outputs⟩, -⟩ := d.runs (c := .trumpReceived p f)
      (P := fun t => t.dealer.trumpDrops = s.dealer.trumpDrops + 1 ∧ t.services = s.services ∧ t.outputs = s.outputs) rfl
      fun w taking => by
        have handled : w.consume p .trump f 0 = _ := State.handleTrump_again (f := f) (by rw [taking.pos]; exact admitted)
          (by rw [taking.dealer, cause]; exact again)
        have frame : Keeps [.portN, .portS, .dealer, .logs] s (w.consume p .trump f 0) := by
          rw [handled]
          simp (disch := decide) only [State.traceTrump_keeps, State.updDealer_keeps]
          exact taking.frame.mono (by decide)
        refine ⟨?_, ?_, frame.group .services (by decide), frame.group .outputs (by decide)⟩
        · exact (State.handleTrump_frame _).port p (by decide) (by decide)
        · rw [handled]
          exact congrArg (fun x : Dealer => x.trumpDrops + 1) taking.dealer
    exact runs_next run ⟨counted, services, outputs⟩

end Sys2Proof.Machine

/-!
PROOFS. Chapter 16: what a raised source leaves, the fatal state it may enter, and the checks of core, lockstep, clocks and
memories that raise one; the end of a reaction, the energy counter and the fuses.
-/
namespace Sys2Proof.Machine

section
variable {s u : State} {b : Block} {i : Nat}

/-! ### Raised sources -/

/-- A source raised on a state with the status words of `s` sets its bit and clears none. -/
theorem State.raise_reports (same : u.faults = s.faults) (hf : s.faults.length = 18) (hi : i < 16) :
    (u.raise b i).has b i = true ∧ StickyKept s (u.raise b i) :=
  ⟨u.raise_has b i (same ▸ hf) hi, (StickyKept.of_faults same).trans (u.raise_mono b i)⟩

/-- What raising a source of any class may change. -/
theorem State.raise_widest : Keeps [.logs, .dev, .outputs, .meas, .balance, .fan, .pins, .portN, .portS, .services, .keeper,
    .vehicle, .ring, .faults] s (s.raise b i) :=
  (State.raise_keeps (by decide) _ _).mpr (Keeps.refl _ _)

/-! ### The fatal state -/

/-- What the fatal entry does on every device, before its role's part (R492). -/
def State.fatalEntry (s : State) (b : Block) (i : Nat) : State :=
  let s := if s.isDealer && !s.keeper.lockout then s.logLockout 1 3 0 else s
  let s := s.log 0x05 (faultPayload b i s.dealNo 0 ((faultOf s.faults b).counts.getD i 0))
  let s := s.updDev fun d => { d with fatal := true, watchdog := false }
  let s := s.fatalOutputs
  (s.updPort .n (ownFramesOut (s.position.getD 0))).updPort .s (ownFramesOut (s.position.getD 0))

theorem State.fatalEntry_frame :
    Keeps [.logs, .dev, .outputs, .meas, .balance, .fan, .pins, .portN, .portS] s (s.fatalEntry b i) := by
  simp (disch := decide) only [State.fatalEntry, State.updPort_keeps, State.fatalOutputs_keeps, State.updDev_keeps,
    State.log_keeps]
  split
  · exact (State.logLockout_keeps (by decide) _ _ _).mpr (Keeps.refl _ _)
  · exact Keeps.refl _ _

theorem State.enterFatal_dealer (alive : s.dev.fatal = false) (dealer : s.isDealer = true) :
    s.enterFatal b i = (s.fatalEntry b i).fatalDealer := by
  have role : (s.fatalEntry b i).isDealer = true := (State.fatalEntry_frame.isDealer (by decide)).trans dealer
  unfold State.enterFatal
  rw [alive]
  exact if_pos role

theorem State.enterFatal_other (alive : s.dev.fatal = false) (other : s.isDealer = false) :
    s.enterFatal b i = ((s.fatalEntry b i).sendTrumpWords ((s.fatalEntry b i).fatalWords b)).updRing fun r =>
      { r with fatalLeft := 2, fatalTrump := (s.fatalEntry b i).fatalWords b } := by
  have role : ¬ (s.fatalEntry b i).isDealer = true := by
    rw [State.fatalEntry_frame.isDealer (by decide), other]; decide
  unfold State.enterFatal
  rw [alive]
  exact if_neg role

/-- The part of the fatal state that no role adds to. -/
def FatalDevice (t : State) : Prop :=
  t.dev.fatal = true ∧ t.dev.watchdog = false ∧ LoadsOff t ∧ t.balance.jobs = [] ∧ t.pins.testPulses = false

theorem FatalDevice.of_same {t : State} (h : FatalDevice s) (dev : t.dev = s.dev) (outputs : t.outputs = s.outputs)
    (balance : t.balance = s.balance) (pins : t.pins.testPulses = s.pins.testPulses) : FatalDevice t := by
  unfold FatalDevice LoadsOff at *
  rwa [dev, outputs, balance, pins]

theorem State.fatalOutputs_off (s : State) :
    LoadsOff s.fatalOutputs ∧ s.fatalOutputs.balance.jobs = [] ∧ s.fatalOutputs.pins.testPulses = false := by
  refine ⟨fun c on => ?_, rfl, rfl⟩
  obtain ⟨x, -, rfl⟩ := List.mem_map.mp (show c ∈ s.outputs.channels.map fun x => { x with command := false, stage := .off, onAt := none } from on)
  exact ⟨rfl, rfl⟩

theorem State.fatalEntry_device : FatalDevice (s.fatalEntry b i) := by
  unfold State.fatalEntry
  extract_lets warned recorded latched off
  obtain ⟨loads, jobs, pulses⟩ := State.fatalOutputs_off latched
  have frame : Keeps [.outputs, .meas, .balance, .fan, .pins] latched off :=
    (State.fatalOutputs_keeps (by decide)).mpr (Keeps.refl _ _)
  have dev : off.dev = latched.dev := frame.group .dev (by decide)
  exact FatalDevice.of_same (s := off) ⟨by rw [dev]; rfl, by rw [dev]; rfl, loads, jobs, pulses⟩ rfl rfl rfl rfl

theorem State.fatalDealer_frame : Keeps [.logs, .services, .keeper, .vehicle, .pins] s s.fatalDealer :=
  (State.fatalDealer_keeps (by decide)).mpr (Keeps.refl _ _)

theorem State.fatalDealer_opens : s.fatalDealer.services.pack = .opened ∧ s.fatalDealer.keeper.lockout = true ∧
    s.fatalDealer.pins.faultN = true ∧ s.fatalDealer.pins.ready = false :=
  ⟨State.setPack_pack _ _, rfl, rfl, rfl⟩

theorem State.fatalDealer_testPulses : s.fatalDealer.pins.testPulses = s.pins.testPulses := by
  have opens : Keeps [.logs, .services] s (s.setPack .opened).stringsOpen :=
    (State.stringsOpen_keeps (by decide)).mpr ((State.setPack_keeps (by decide) _).mpr (Keeps.refl _ _))
  have pins : (s.setPack .opened).stringsOpen.pins = s.pins := opens.group .pins (by decide)
  simp only [State.fatalDealer, State.updPins_pins, State.updVehicle_pins, State.updKeeper_pins, pins]

theorem State.enterFatal_fatal (alive : s.dev.fatal = false) : FatalState s (s.enterFatal b i) := by
  have entry : FatalDevice (s.fatalEntry b i) := State.fatalEntry_device
  cases role : s.isDealer with
  | true =>
    rw [State.enterFatal_dealer alive role]
    have frame := State.fatalDealer_frame (s := s.fatalEntry b i)
    obtain ⟨fatal, watchdog, loads, jobs, pulses⟩ := entry.of_same (frame.group .dev (by decide))
      (frame.group .outputs (by decide)) (frame.group .balance (by decide)) State.fatalDealer_testPulses
    exact ⟨fatal, watchdog, loads, jobs, pulses, fun _ => State.fatalDealer_opens⟩
  | false =>
    rw [State.enterFatal_other alive role]
    have frame : Keeps [.logs, .portN, .portS, .ring] (s.fatalEntry b i)
        (((s.fatalEntry b i).sendTrumpWords ((s.fatalEntry b i).fatalWords b)).updRing fun r =>
          { r with fatalLeft := 2, fatalTrump := (s.fatalEntry b i).fatalWords b }) := by
      simp (disch := decide) only [State.updRing_keeps, State.sendTrumpWords_keeps, Keeps.refl]
    obtain ⟨fatal, watchdog, loads, jobs, pulses⟩ := entry.of_same (frame.group .dev (by decide))
      (frame.group .outputs (by decide)) (frame.group .balance (by decide)) (congrArg _ (frame.group .pins (by decide)))
    exact ⟨fatal, watchdog, loads, jobs, pulses, fun dealer => by simp [role] at dealer⟩

/-- A source of class F takes a device that is not fatal into the fatal state (R492). -/
theorem State.raise_fatal (alive : s.dev.fatal = false) (cls : classOf b i = .f) : FatalState s (s.raise b i) := by
  have only : Keeps [.faults, .logs, .pins] s ((s.raiseBits b i []).faultPin (classOf b i)) := by
    simp (disch := decide) only [State.faultPin_keeps, State.raiseBits_keeps, Keeps.refl]
  have into := State.enterFatal_fatal (b := b) (i := i)
    ((congrArg Dev.fatal (only.group .dev (by decide))).trans alive)
  unfold FatalState at into ⊢
  rw [only.isDealer (by decide)] at into
  simpa only [State.raise, State.raiseAlso, cls, if_true] using into

/-! ### The core and its fence -/

theorem State.coreGone_fenced : s.coreGone.dev = { s.dev with coreFenced := true } := by
  have later : Keeps [.services, .logs, .outputs, .meas, .pins, .fan] (s.updDev fun d => { d with coreFenced := true }) s.coreGone := by
    unfold State.coreGone
    simp (disch := decide) only [State.fanCoreLost_keeps, State.updOutputs_keeps, State.commandOff_keeps]
    split
    · exact (State.coreLost_keeps (by decide)).mpr (Keeps.refl _ _)
    · exact Keeps.refl _ _
  exact later.group .dev (by decide)

theorem State.coreGone_frame : Keeps [.dev, .services, .logs, .outputs, .meas, .pins, .fan] s s.coreGone :=
  (State.coreGone_keeps (by decide)).mpr (Keeps.refl _ _)

/-- A command that fences the core under a source of class C, U or I (R483, R485). -/
theorem runs_fenceCore {c : Instr} (run : exec c s = .next (s.fenceCore b i)) (h : calm b i = true)
    (hf : s.faults.length = 18) (hi : i < 16) :
    Runs c s fun t => t.dev.coreFenced = true ∧ t.core = false ∧ t.has b i = true ∧ StickyKept s t ∧ t.nv = s.nv ∧
      t.flash = s.flash := by
  have frame : Keeps [.dev, .services, .logs, .outputs, .meas, .pins, .fan, .faults] s (s.fenceCore b i) := by
    simp only [State.fenceCore]
    exact (State.coreGone_frame.mono (by decide)).trans (State.raise_frame h |>.mono (by decide))
  have dev : (s.fenceCore b i).dev = { s.dev with coreFenced := true } :=
    ((State.raise_frame h).group .dev (by decide)).trans State.coreGone_fenced
  obtain ⟨bit, sticky⟩ := State.raise_reports (b := b) (State.coreGone_frame.group .faults (by decide)) hf hi
  exact runs_next run ⟨by rw [dev], by simp [State.core, dev], bit, sticky, frame.group .nv (by decide),
    frame.group .flash (by decide)⟩

end

/-! ### Core, supervisor and clocks -/

section
variable {s : State}

theorem execCheckIn_run (run : s.running = true) (core : s.core = true) :
    exec .checkIn s = .next { s with dev := { s.dev with checkedIn := true } } := by
  simp [exec, execCheckIn, run, core, State.updDev]

theorem execCheckInDeadline_run (run : s.running = true) (core : s.core = true) (missed : s.dev.checkedIn = false)
    (again : 1 ≤ s.dev.checkMiss) : exec .checkInDeadline s = .next (s.fenceCore .raivo 8) := by
  simp [exec, execCheckInDeadline, run, core, missed, again]

theorem execLockstepMismatch_run (awake : s.awake = true) (outside : s.testing [11, 12] = false) :
    exec .lockstepMismatch s = .next (s.raise .superv 12) := by
  simp [exec, execLockstepMismatch, awake, outside]

theorem execClockMonitor_good {n : Nat} (awake : s.awake = true) (near : ((n : Int) - safeNominal).natAbs ≤ 2400) :
    exec (.clockMonitor n) s = .next { s with clocks := { s.clocks with safeOk := true } } := by
  have below : ¬ 4800 < ((n : Int) - safeNominal).natAbs := by omega
  simp [exec, execClockMonitor, awake, near, State.raiseIf, State.updClocks, below]

/-- SAFE too far from nominal abandons the segment under test before it is reported. -/
def State.safeLost (s : State) : State := (s.updClocks fun c => { c with safeOk := false }).abandonSegment

theorem State.abandonSegment_frame : Keeps [.balance, .bist, .faults, .logs, .pins] s s.abandonSegment :=
  (State.abandonSegment_keeps (by decide)).mpr (Keeps.refl _ _)

theorem State.abandonSegment_mono : StickyKept s s.abandonSegment := by
  unfold State.abandonSegment
  split
  · have only : Keeps [.balance, .bist] s ((s.segmentRestore).updBist fun b => { b with running := false, done := 0 }) := by
      simp (disch := decide) only [State.updBist_keeps, State.segmentRestore_keeps, Keeps.refl]
    exact (only.sticky (by decide)).trans (State.raise_mono _ _ _)
  · exact StickyKept.refl _

theorem State.abandonSegment_running : s.abandonSegment.bist.running = false := by
  unfold State.abandonSegment
  split
  · exact congrArg Bist.running ((State.raise_frame (by decide)).group .bist (by decide))
  · simpa using ‹¬ s.bist.running = true›

theorem State.abandonSegment_length : s.abandonSegment.faults.length = s.faults.length := by
  unfold State.abandonSegment
  split
  · rw [State.raise_length]
    have only : Keeps [.balance, .bist] s ((s.segmentRestore).updBist fun b => { b with running := false, done := 0 }) := by
      simp (disch := decide) only [State.updBist_keeps, State.segmentRestore_keeps, Keeps.refl]
    exact congrArg List.length (only.group .faults (by decide))
  · rfl

theorem execClockMonitor_bad {n : Nat} (awake : s.awake = true) (far : 4800 < ((n : Int) - safeNominal).natAbs)
    (online : s.dev.offTest = false) : exec (.clockMonitor n) s = .next (s.safeLost.raise .clock 3) := by
  have near : ¬ ((n : Int) - safeNominal).natAbs ≤ 2400 := by omega
  simp [exec, execClockMonitor, awake, near, far, State.raiseIf, online, State.safeLost]

theorem State.safeLost_frame : Keeps [.clocks, .balance, .bist, .faults, .logs, .pins] s s.safeLost :=
  ((State.updClocks_keeps (by decide) _).mpr (Keeps.refl _ _)).trans (State.abandonSegment_frame.mono (by decide))

theorem State.safeLost_mono : StickyKept s s.safeLost :=
  State.abandonSegment_mono (s := s.updClocks fun c => { c with safeOk := false })

/-- CLKIN is lost: the CAN stream stops (R19). -/
def State.clkinLost (s : State) : State :=
  (s.updClocks fun c => { c with clkin := false, clkinFailed := true }).updVehicle fun v => { v with canOut := v.canOut.halt }

theorem State.safeLost_clocks : s.safeLost.clocks = { s.clocks with safeOk := false } :=
  (State.abandonSegment_frame (s := s.updClocks fun c => { c with safeOk := false })).group .clocks (by decide)

theorem execClkinFail_run (awake : s.awake = true) (good : s.clocks.clkin = true) :
    exec .clkinFail s = .next (s.clkinLost.raise .clock 0) := by
  simp [exec, execClkinFail, State.clkinLost, awake, good]

/-- The PLL's lock is lost: the melds are UNSYNC from here (R20). -/
def State.lockLost (s : State) : State :=
  (s.updClocks fun c => { c with locked := false, holding := false }).updRing fun r => { r with unsync := true }

theorem execPllLockLost_run (awake : s.awake = true) (locked : s.clocks.locked = true) (online : s.dev.offTest = false) :
    exec .pllLockLost s = .next ((s.lockLost.raise .clock 1).abandonSegment) := by
  have dev : (s.lockLost.raise .clock 1).dev = s.dev := (State.raise_frame (by decide)).group .dev (by decide)
  simp only [exec, execPllLockLost, awake, locked]
  simp only [State.lockLost] at dev
  simp [State.lockLost, dev, online]

theorem execKclkCalibration_taken {ppm : Int} (awake : s.awake = true) (near : (ppm - s.keeper.calib).natAbs ≤ 20000) :
    exec (.kclkCalibration ppm) s = .next { s with keeper := { s.keeper with calib := ppm } } := by
  have below : ¬ 20000 < (ppm - s.keeper.calib).natAbs := by omega
  simp [exec, execKclkCalibration, awake, below, State.updKeeper]

theorem execKclkCalibration_refused {ppm : Int} (awake : s.awake = true) (far : 20000 < (ppm - s.keeper.calib).natAbs) :
    exec (.kclkCalibration ppm) s = .next (s.raise .clock 2) := by
  simp [exec, execKclkCalibration, awake, far]

theorem execLockstepMismatch_fatal (awake : s.awake = true) (outside : s.testing [11, 12] = false)
    (alive : s.dev.fatal = false) (hf : s.faults.length = 18) :
    Runs .lockstepMismatch s fun t => FatalState s t ∧ t.has .superv 12 = true ∧ StickyKept s t ∧ t.nv = s.nv ∧
      t.flash = s.flash := by
  have run := execLockstepMismatch_run awake outside
  have frame := State.raise_widest (s := s) (b := .superv) (i := 12)
  obtain ⟨bit, sticky⟩ := State.raise_reports (u := s) (b := .superv) (i := 12) rfl hf (by decide)
  exact runs_next run ⟨State.raise_fatal alive rfl, bit, sticky, frame.group .nv (by decide), frame.group .flash (by decide)⟩

theorem execClockMonitor_fatal {n : Nat} (awake : s.awake = true) (hf : s.faults.length = 18)
    (far : 4800 < ((n : Int) - safeNominal).natAbs) (online : s.dev.offTest = false) (alive : s.dev.fatal = false) :
    Runs (.clockMonitor n) s fun t => FatalState s t ∧ t.has .clock 3 = true ∧ t.clocks.safeOk = false ∧ StickyKept s t := by
  have frame := State.safeLost_frame (s := s)
  have fatal : FatalState s.safeLost (s.safeLost.raise .clock 3) :=
    State.raise_fatal ((congrArg Dev.fatal (frame.group .dev (by decide))).trans alive) rfl
  unfold FatalState at fatal
  rw [frame.isDealer (by decide)] at fatal
  refine runs_next (execClockMonitor_bad awake far online) ⟨fatal, State.raise_has _ _ _ ?_ (by decide), ?_, ?_⟩
  · exact State.abandonSegment_length.trans hf
  · have raised : (s.safeLost.raise .clock 3).clocks = s.safeLost.clocks := State.raise_widest.group .clocks (by decide)
    rw [raised, State.safeLost_clocks]
  · exact State.safeLost_mono.trans (s.safeLost.raise_mono .clock 3)

theorem execPllLockLost_reports (awake : s.awake = true) (hf : s.faults.length = 18) (locked : s.clocks.locked = true)
    (online : s.dev.offTest = false) :
    Runs .pllLockLost s fun t => t.clocks.locked = false ∧ t.ring.unsync = true ∧ t.has .clock 1 = true ∧
      t.bist.running = false ∧ StickyKept s t := by
  have later : Keeps [.balance, .bist, .faults, .logs, .pins] s.lockLost ((s.lockLost.raise .clock 1).abandonSegment) :=
    (State.raise_frame (by decide) |>.mono (by decide)).trans State.abandonSegment_frame
  obtain ⟨bit, sticky⟩ := State.raise_reports (u := s.lockLost) (s := s) (b := .clock) (i := 1) rfl hf (by decide)
  exact runs_next (execPllLockLost_run awake locked online)
    ⟨congrArg Clocks.locked (later.group .clocks (by decide)), congrArg Ring.unsync (later.group .ring (by decide)),
      State.abandonSegment_mono _ _ bit, State.abandonSegment_running, sticky.trans State.abandonSegment_mono⟩

end

/-- Settles O28: each finding raises its source on a state whose status words are those of before; what a fence, the fatal
entry and an abandoned segment leave is said once for each. -/
theorem coreAndClocksAreWatched : Obligations.CoreAndClocksAreWatched := by
  unfold Obligations.CoreAndClocksAreWatched
  refine ⟨fun s => ⟨execCheckIn_run, ?_, ?_, execLockstepMismatch_fatal⟩, fun s awake hf => ⟨?_, ?_, ?_, ?_, ?_, rfl, ?_⟩⟩
  · intro run core missed again hf
    exact runs_fenceCore (execCheckInDeadline_run run core missed again) (by decide) hf (by decide)
  · intro awake idle
    simp [exec, execIdleWatchdogService, awake, idle, State.updDev]
  · exact fun n near => execClockMonitor_good awake near
  · exact fun n far online alive => execClockMonitor_fatal awake hf far online alive
  · intro good
    have run := execClkinFail_run awake good
    have lost : Keeps [.clocks, .vehicle] s s.clkinLost := by
      simp (disch := decide) only [State.clkinLost, State.updVehicle_keeps, State.updClocks_keeps, Keeps.refl]
    have raised := State.raise_frame (s := s.clkinLost) (b := .clock) (i := 0) (by decide)
    exact runs_next run ⟨(lost.mono (by decide)).trans (raised.mono (by decide)),
      congrArg Clocks.clkin (raised.group .clocks (by decide)),
      congrArg Clocks.clkinFailed (raised.group .clocks (by decide)),
      congrArg (fun v : Vehicle => v.canOut.stopped) (raised.group .vehicle (by decide)),
      State.raise_reports (lost.group .faults (by decide)) hf (by decide)⟩
  · simp [exec, execPllLock, awake, State.updClocks]
  · exact execPllLockLost_reports awake hf
  · intro ppm
    refine ⟨execKclkCalibration_taken awake, fun far => ?_⟩
    exact runs_next (execKclkCalibration_refused awake far)
      ⟨State.raise_frame (by decide), State.raise_reports rfl hf (by decide)⟩

/-! ### Memory errors -/

section
variable {s : State}

theorem execSramEccError_corrected {bank : Fin 8} {r : Bool} (awake : s.awake = true) :
    exec (.sramEccError bank false r) s = .next (s.raise .mem 0) := by
  simp [exec, execSramEccError, awake]

theorem execSramEccError_trace (awake : s.awake = true) :
    exec (.sramEccError 7 true true) s = .next ((s.updDev fun d => { d with traceOff := true }).raise .mem 3) := by
  simp [exec, execSramEccError, awake]

theorem execSramEccError_core {bank : Fin 8} {r : Bool} (awake : s.awake = true) (elsewhere : r = false ∨ bank ≠ 7) :
    exec (.sramEccError bank true r) s = .next (s.fenceCore .mem 4) := by
  have notTrace : ¬ (r = true ∧ bank = 7) := fun ⟨ring, seven⟩ => by rcases elsewhere with h | h <;> simp_all
  simp [exec, execSramEccError, awake, notTrace]

theorem execFlashEccError_corrected (awake : s.awake = true) :
    exec (.flashEccError .corrected) s = .next (s.raise .mem 1) := by
  simp [exec, execFlashEccError, awake]

theorem execFlashEccError_code (awake : s.awake = true) :
    exec (.flashEccError .uncorrectableCode) s = .next (s.fenceCore .mem 5) := by
  simp [exec, execFlashEccError, awake]

theorem execFlashEccError_data {i : FlashData} (awake : s.awake = true) :
    exec (.flashEccError (.uncorrectableData i)) s = .next ((s.updNv (loseItem i)).raise .mem 6) := by
  simp [exec, execFlashEccError, awake]

theorem execFlashEccError_trim (awake : s.awake = true) :
    exec (.flashEccError .bothTrimCopies) s = .next (s.raise .mem 7) := by
  simp [exec, execFlashEccError, awake]

end

/-- Settles O29: each kind of error raises its source, after its item is lost or the core is fenced. -/
theorem memoryErrorsAreContained : Obligations.MemoryErrorsAreContained := by
  unfold Obligations.MemoryErrorsAreContained
  intro s awake hf
  refine ⟨fun b r => ?_, ?_, fun b r elsewhere => ?_, ?_, ?_, fun i => ?_, fun alive => ?_⟩
  · exact runs_next (execSramEccError_corrected awake)
      ⟨State.raise_frame (by decide), State.raise_reports rfl hf (by decide)⟩
  · have raised := State.raise_frame (s := s.updDev fun d => { d with traceOff := true }) (b := .mem) (i := 3) (by decide)
    refine runs_next (execSramEccError_trace awake) ⟨?_, ?_, State.raise_reports rfl hf (by decide)⟩
    · exact ((State.updDev_keeps (by decide) _).mpr (Keeps.refl _ _)).trans (raised.mono (by decide))
    · exact congrArg Dev.traceOff (raised.group .dev (by decide))
  · obtain ⟨t, run, fenced, -, bit, sticky, nv, flash⟩ :=
      runs_fenceCore (execSramEccError_core awake elsewhere) (by decide) hf (by decide)
    exact ⟨t, run, fenced, bit, sticky, nv, flash⟩
  · exact runs_next (execFlashEccError_corrected awake)
      ⟨State.raise_frame (by decide), State.raise_reports rfl hf (by decide)⟩
  · obtain ⟨t, run, fenced, -, bit, sticky, nv, -⟩ := runs_fenceCore (execFlashEccError_code awake) (by decide) hf (by decide)
    exact ⟨t, run, fenced, bit, sticky, nv⟩
  · have raised := State.raise_frame (s := s.updNv (loseItem i)) (b := .mem) (i := 6) (by decide)
    refine runs_next (execFlashEccError_data awake) ⟨?_, raised.group .nv (by decide), State.raise_reports rfl hf (by decide)⟩
    exact ((State.updNv_keeps (by decide) _).mpr (Keeps.refl _ _)).trans (raised.mono (by decide))
  · exact runs_next (execFlashEccError_trim awake)
      ⟨State.raise_fatal alive rfl, State.raise_reports rfl hf (by decide)⟩

/-! ### Reactions, energy and fuses -/

section
variable {s : State} {b : Block}

theorem execReactionTimeout_run (awake : s.awake = true) (idle : s.deals = false) :
    exec (.reactionTimeout b) s = .next (s.endReaction b) := by
  simp [exec, execReactionTimeout, awake, idle]

theorem faultOf_modify_sticky (fs : List BlockState) (c : Block) {f : BlockState → BlockState}
    (h : ∀ x, (f x).sticky = x.sticky) : (faultOf (fs.modify (blockIndex b) f) c).sticky = (faultOf fs c).sticky := by
  simp only [faultOf, List.getD_eq_getElem?_getD, List.getElem?_modify]
  by_cases same : blockIndex b = blockIndex c
  · cases fs[blockIndex c]? <;> simp [same, h]
  · simp [same]

theorem State.log_queue (core : s.core = true) (room : s.logs.queue.length < 64) (t : Byte) (p : List Byte) :
    (s.log t p).logs.queue = s.logs.queue ++ [{ rtype := t, seconds := s.seconds, payload := p }] := by
  simp [State.log, core, State.pushLog, room]

/-- The end of a reaction that may end: its record waits for flash and the block has no reaction (R478, R486). -/
theorem State.endReaction_eq {r : Reaction} (active : (faultOf s.faults b).reaction = some r) (ends : r.untilReset = false) :
    ∃ p, s.endReaction b = (s.log 0x05 p).updBlock b fun y => { y with reaction := none, merges := if s.core then 0 else y.merges } :=
  ⟨_, by simp [State.endReaction, active, ends]; rfl⟩

theorem execBuckEnergySample_run {mv ua : Nat} (on : s.supply.buck = true) :
    exec (.buckEnergySample mv ua) s = .next (s.updKeeper fun k =>
      { k with energy := k.energy + BitVec.ofNat 32 ((k.energyPart + mv * ua) / 4000000000)
               energyPart := (k.energyPart + mv * ua) % 4000000000 }) := by
  simp [exec, execBuckEnergySample, on]

theorem sat_eq_min (n x : Nat) : sat n x = min n x := by
  unfold sat
  split <;> omega

/-- The fuses are raised to the rollback number of the image that runs (R560). -/
def State.fusesRaised (s : State) : State :=
  s.updNv fun n =>
    { n with fuses := if n.fuses < s.imageRollback s.nv.activeB then sat 32 (s.imageRollback s.nv.activeB) else n.fuses
             committed := false }

theorem execFuseBlow_run (run : s.running = true) (core : s.core = true) (committed : s.nv.committed = true)
    (verified : s.has .raivo 8 = false) : exec .fuseBlow s = .next (s.fusesRaised.logImage 9 s.nv.activeB) := by
  simp [exec, execFuseBlow, run, core, committed, verified, State.fusesRaised]

end

/-- A count of whole units and its remainder, taken modulo `m` units, is the sum modulo `m` units. -/
theorem mod_add_carry (m d e p x : Nat) (hd : 0 < d) :
    (e + (p + x) / d) % m * d + (p + x) % d = (e * d + p + x) % (m * d) := by
  have split : e * d + p + x = (e + (p + x) / d) * d + (p + x) % d := by
    have := Nat.div_add_mod' (p + x) d
    rw [Nat.add_mul, Nat.add_assoc, Nat.add_assoc, this]
  have whole : ((e + (p + x) / d) * d + (p + x) % d) / d = e + (p + x) / d := by
    rw [Nat.mul_comm, Nat.mul_add_div hd, Nat.div_eq_of_lt (Nat.mod_lt _ hd), Nat.add_zero]
  rw [split, Nat.mul_comm m d, Nat.mod_mul, whole, Nat.mul_add_mod_self_right, Nat.mod_mod, Nat.add_comm, Nat.mul_comm d]

/-- Settles O30: the end of a reaction logs it and clears it without touching a bit; quotient and remainder of the energy are a
carry; the fuses take the rollback number of the running image. -/
theorem reactionEnergyAndFuses : Obligations.ReactionEnergyAndFuses := by
  unfold Obligations.ReactionEnergyAndFuses
  refine fun s => ⟨fun b r hf awake idle active ends => ?_, fun mv ua on => ?_, fun run core committed verified => ?_⟩
  · obtain ⟨p, ended⟩ := State.endReaction_eq active ends
    have logged : Keeps [.logs] s (s.log 0x05 p) := (State.log_keeps (by decide) _ _).mpr (Keeps.refl _ _)
    have faults : (s.log 0x05 p).faults = s.faults := logged.group .faults (by decide)
    refine runs_next (execReactionTimeout_run awake idle) ?_
    rw [ended]
    refine ⟨?_, ?_, fun d => ?_, fun core room => ?_⟩
    · exact (State.updBlock_keeps (by decide) _ _).mpr (logged.mono (by decide))
    · show (faultOf ((s.log 0x05 p).faults.modify (blockIndex b) _) b).reaction = none
      rw [faults, faultOf_modify _ _ _ _ hf, if_pos rfl]
    · show (faultOf ((s.log 0x05 p).faults.modify (blockIndex b) _) d).sticky = _
      rw [faults]
      exact faultOf_modify_sticky _ _ fun _ => rfl
    · show (s.log 0x05 p).logs.queue.length = _
      rw [State.log_queue core room]
      simp
  · refine runs_next (execBuckEnergySample_run on) ⟨rfl, ?_⟩
    have carry := mod_add_carry (2 ^ 32) 4000000000 s.keeper.energy.toNat s.keeper.energyPart (mv * ua) (by decide)
    simpa [State.updKeeper, BitVec.toNat_add, BitVec.toNat_ofNat] using carry
  · have logged : Keeps [.logs] s.fusesRaised (s.fusesRaised.logImage 9 s.nv.activeB) :=
      (State.logImage_keeps (by decide) _ _).mpr (Keeps.refl _ _)
    refine runs_next (execFuseBlow_run run core committed verified) ⟨?_, ?_⟩
    · exact ((State.updNv_keeps (by decide) _).mpr (Keeps.refl _ _)).trans (logged.mono (by decide))
    · exact (logged.group .nv (by decide)).trans (by simp [State.fusesRaised, sat_eq_min])

end Sys2Proof.Machine

/-!
PROOFS. Probes, the storage watch and the L1 tail (chapters 05, 07 and 08): what the end of a frame makes of a slot, what a
record leaves in the keeper, and the L1 devices the Dealer knows.
-/
namespace Sys2Proof.Machine

/-! ### Lists with one element changed -/

theorem getD_modify_self {α : Type} {l : List α} {i : Nat} (f : α → α) (d : α) (h : i < l.length) :
    (l.modify i f).getD i d = f (l.getD i d) := by
  simp [List.getD_eq_getElem?_getD, h]

theorem getD_modify_ne {α : Type} {l : List α} {i j : Nat} (f : α → α) (d : α) (h : i ≠ j) :
    (l.modify i f).getD j d = l.getD j d := by
  simp [List.getD_eq_getElem?_getD, h]

section
variable {s u t : State} {b : Block} {i j k : Nat} {c : Bool}

/-! ### Sources raised on a condition -/

theorem State.raiseIf_frame (h : calm b i = true) : Keeps [.faults, .logs, .pins] s (s.raiseIf c b i) :=
  (State.raiseIf_keeps_calm h (by decide) c).mpr (Keeps.refl _ _)

/-- A source raised on a condition is set where the condition holds, and no bit is cleared. -/
theorem State.raiseIf_reports (same : u.faults = s.faults) (hf : s.faults.length = 18) (hi : i < 16) :
    (c = true → (u.raiseIf c b i).has b i = true) ∧ StickyKept s (u.raiseIf c b i) := by
  refine ⟨fun on => ?_, (StickyKept.of_faults same).trans (u.raiseIf_mono c b i)⟩
  rw [State.raiseIf, if_pos on]
  exact u.raise_has b i (same ▸ hf) hi

/-! ### Slots of the probe wire -/

theorem State.slot_lt (held : (s.slot k).ident.isSome = true) : k < s.probes.slots.length := by
  refine Nat.lt_of_not_le fun out => ?_
  rw [State.slot, List.getD_eq_getElem?_getD, List.getElem?_eq_none out, Option.getD_none] at held
  cases held

theorem State.slot_of_probes (h : t.probes = s.probes) : t.slot k = s.slot k := by simp only [State.slot, h]

theorem Keeps.slot {G : List Group} (h : Keeps G s t) (free : covers [.probes] G = false) : t.slot k = s.slot k :=
  State.slot_of_probes (h.group .probes free)

/-- What the end of a frame makes of a slot (R202 to R204). -/
def Slot.ended (x : Slot) : Slot :=
  if x.ident.isNone then x else if x.judged = some true then goodSlot x else missSlot x

theorem State.endSlot_of_free (free : (s.slot k).ident.isNone = true) : s.endSlot k = s := by
  simp [State.endSlot, free]

theorem State.endSlot_of_good (held : (s.slot k).ident.isNone = false) (good : (s.slot k).judged = some true) :
    s.endSlot k = (s.updSlot k goodSlot).raiseIf ((s.slot k).state = .lost) .probe 3 := by
  simp [State.endSlot, held, good]

theorem State.endSlot_of_miss (held : (s.slot k).ident.isNone = false) (bad : (s.slot k).judged ≠ some true) :
    s.endSlot k =
      (((s.raiseIf ((s.slot k).judged.isNone && (s.slot k).state ≠ .lost) .probe 0).updSlot k missSlot).raiseIf
        ((s.slot k).state ≠ .lost && 3 ≤ (s.slot k).misses + 1) .probe 4) := by
  unfold State.endSlot
  dsimp only
  rw [if_neg (by simp [held])]
  split
  · exact absurd ‹_› bad
  · rfl

theorem State.endSlot_slot (s : State) (k : Nat) : (s.endSlot k).slot k = (s.slot k).ended := by
  unfold Slot.ended
  cases free : (s.slot k).ident.isNone with
  | true => simp [State.endSlot_of_free free]
  | false =>
    have held : (s.slot k).ident.isSome = true := by simpa using free
    by_cases good : (s.slot k).judged = some true
    · rw [State.endSlot_of_good free good, Keeps.slot (State.raiseIf_frame (by decide)) (by decide),
        State.slot_updSlot _ _ _ (State.slot_lt held)]
      simp [good]
    · have noted := Keeps.slot (k := k) (State.raiseIf_frame (s := s) (b := .probe) (i := 0)
        (c := (s.slot k).judged.isNone && (s.slot k).state ≠ .lost) (by decide)) (by decide)
      rw [State.endSlot_of_miss free good, Keeps.slot (State.raiseIf_frame (by decide)) (by decide),
        State.slot_updSlot _ _ _ (State.slot_lt (by rwa [noted])), noted]
      simp [good]

theorem State.endSlot_slot_ne (s : State) (ne : k ≠ j) : (s.endSlot k).slot j = s.slot j := by
  cases free : (s.slot k).ident.isNone with
  | true => rw [State.endSlot_of_free free]
  | false =>
    by_cases good : (s.slot k).judged = some true
    · rw [State.endSlot_of_good free good, Keeps.slot (State.raiseIf_frame (by decide)) (by decide),
        State.slot_updSlot_ne _ _ _ _ ne]
    · rw [State.endSlot_of_miss free good, Keeps.slot (State.raiseIf_frame (by decide)) (by decide),
        State.slot_updSlot_ne _ _ _ _ ne, Keeps.slot (State.raiseIf_frame (by decide)) (by decide)]

theorem foldl_endSlot_slot_of_not_mem (l : List Nat) (s : State) (out : j ∉ l) : (l.foldl State.endSlot s).slot j = s.slot j := by
  induction l generalizing s with
  | nil => rfl
  | cons k l ih =>
    rw [List.mem_cons, not_or] at out
    rw [List.foldl_cons, ih _ out.2, State.endSlot_slot_ne _ (Ne.symm out.1)]

theorem foldl_endSlot_slot (l : List Nat) (s : State) (once : l.Nodup) (h : j ∈ l) :
    (l.foldl State.endSlot s).slot j = (s.slot j).ended := by
  induction l generalizing s with
  | nil => cases h
  | cons k l ih =>
    obtain ⟨out, once⟩ := List.nodup_cons.mp once
    rw [List.foldl_cons]
    rcases List.mem_cons.mp h with rfl | h
    · rw [foldl_endSlot_slot_of_not_mem _ _ out, State.endSlot_slot]
    · have ne : k ≠ j := by rintro rfl; exact out h
      rw [ih _ once h, State.endSlot_slot_ne _ ne]

theorem foldl_endSlot_frame (l : List Nat) (s : State) : Keeps [.probes, .faults, .logs, .pins] s (l.foldl State.endSlot s) :=
  keeps_foldl _ (fun t k => (State.endSlot_keeps (by decide) k).mpr (Keeps.refl _ t)) (Keeps.refl _ s)

theorem foldl_endSlot_closed (l : List Nat) (s : State) : (l.foldl State.endSlot s).probes.frame = s.probes.frame := by
  induction l generalizing s with
  | nil => rfl
  | cons k l ih =>
    rw [List.foldl_cons, ih]
    have upd (t : State) (g : Slot → Slot) (q : Bool) (n : Nat) :
        ((t.updSlot k g).raiseIf q .probe n).probes.frame = t.probes.frame :=
      (congrArg ProbeWire.frame ((State.raiseIf_frame (s := t.updSlot k g) (b := .probe) (i := n) (c := q)
        (calm_of_block (by decide))).group .probes (by decide))).trans rfl
    cases free : (s.slot k).ident.isNone with
    | true => rw [State.endSlot_of_free free]
    | false =>
      by_cases good : (s.slot k).judged = some true
      · rw [State.endSlot_of_good free good, upd]
      · rw [State.endSlot_of_miss free good, upd]
        exact congrArg ProbeWire.frame ((State.raiseIf_frame (by decide)).group .probes (by decide))

/-! ### The frame of a deal -/

theorem execSlotWord_run {k : Fin 16} {w : Option (BitVec 32)} (frame : s.probes.frame = true)
    (held : (s.slot k.val).ident.isSome = true) :
    ∃ fresh, exec (.slotWord k w) s = .next
      ((s.updSlot k.val fun y => { y with judged := some (w.any (slotGood k.val (s.slot k.val).first)), fresh := fresh }).raiseIf
        (!(w.any (slotGood k.val (s.slot k.val).first)) && (s.slot k.val).state ≠ .lost) .probe 0) :=
  ⟨_, by simp [exec, execSlotWord, frame, held]; rfl⟩

theorem execProbeFrameEnd_run (frame : s.probes.frame = true) :
    exec .probeFrameEnd s =
      .next ((List.range 16).foldl State.endSlot (s.updProbes fun p => { p with frame := false })).checkProbes := by
  simp [exec, execProbeFrameEnd, frame]

end

/-- Settles O20: the tick and a word change the slots they name; at the end each slot is ended on its own, whatever the others
raise. -/
theorem probeFrameIsJudged : Obligations.ProbeFrameIsJudged := by
  unfold Obligations.ProbeFrameIsJudged
  intro s
  refine ⟨fun samples power found => ?_, fun k w hf frame held => ?_, fun frame => ?_⟩
  · simp [exec, execFrameTick, samples, power, found, State.updProbes]
  · obtain ⟨fresh, run⟩ := execSlotWord_run (w := w) frame held
    have raised {u : State} {q : Bool} := State.raiseIf_frame (s := u) (c := q) (b := .probe) (i := 0) (by decide)
    have reports {f : Slot → Slot} {q : Bool} :=
      State.raiseIf_reports (s := s) (u := s.updSlot k.val f) (c := q) (b := .probe) (i := 0) rfl hf (by decide)
    refine runs_next run ⟨?_, reports.2, ?_, fun j ne => ?_, fun bad present => reports.1 ?_⟩
    · exact ((State.updSlot_keeps (by decide) _ _).mpr (Keeps.refl _ s)).trans (raised.mono (by decide))
    · rw [raised.slot (by decide), State.slot_updSlot _ _ _ (State.slot_lt held)]
    · rw [raised.slot (by decide), State.slot_updSlot_ne _ _ _ _ (Ne.symm ne)]
    · simp [bad, present]
  · have opened : Keeps [.probes] s (s.updProbes fun p => { p with frame := false }) :=
      (State.updProbes_keeps (by decide) _).mpr (Keeps.refl _ _)
    have ended := foldl_endSlot_frame (List.range 16) (s.updProbes fun p => { p with frame := false })
    have checked : Keeps [.logs, .outputs, .meas, .services, .pins, .keeper, .nv, .safety, .portN, .portS]
        ((List.range 16).foldl State.endSlot (s.updProbes fun p => { p with frame := false })) _ :=
      (State.checkProbes_keeps (by decide)).mpr (Keeps.refl _ _)
    refine runs_next (execProbeFrameEnd_run frame) ⟨?_, ?_, fun k hk held => ?_⟩
    · exact (opened.mono (by decide)).trans ((ended.mono (by decide)).trans (checked.mono (by decide)))
    · exact (congrArg ProbeWire.frame (checked.group .probes (by decide))).trans (foldl_endSlot_closed _ _)
    · have whole : ((s.updProbes fun p => { p with frame := false }).slot k) = s.slot k := rfl
      rw [checked.slot (by decide), foldl_endSlot_slot _ _ List.nodup_range (List.mem_range.mpr hk), whole, Slot.ended,
        if_neg (by simp [Option.isSome_iff_ne_none.mp held])]

/-! ### The storage watch -/

section
variable {s t : State} {r : WatchReadings}

/-- What of the keeper a record leaves as it was: all but the place of the next record. -/
def SameWatch (s t : State) : Prop :=
  t.keeper.watches = s.keeper.watches ∧ t.keeper.skipped = s.keeper.skipped ∧ t.keeper.watchAlarm = s.keeper.watchAlarm

theorem SameWatch.trans {u : State} (h : SameWatch s t) (k : SameWatch t u) : SameWatch s u :=
  ⟨k.1.trans h.1, k.2.1.trans h.2.1, k.2.2.trans h.2.2⟩

theorem nextSlot_watch (k : Keeper) :
    (nextSlot k).watches = k.watches ∧ (nextSlot k).skipped = k.skipped ∧ (nextSlot k).watchAlarm = k.watchAlarm := by
  unfold nextSlot
  by_cases within : k.index + 1 < 256 <;> simp [within]

theorem State.putRecord_sameWatch (r : LogRecord) : SameWatch s (s.putRecord r) :=
  nextSlot_watch { s.keeper with seq := s.keeper.seq + 1 }

theorem State.writeRecord_sameWatch (ty : Byte) (p : List Byte) : SameWatch s (s.writeRecord ty p) := by
  unfold State.writeRecord
  dsimp only
  split
  · exact (State.putRecord_sameWatch _).trans ⟨rfl, rfl, rfl⟩
  · exact State.putRecord_sameWatch _

theorem execStorageWatch_skipped (storage : s.dev.phase = .storage) (watched : s.kept.watch.isSome = true)
    (skip : r.vmodMv < buckStartMv ∨ s.keeper.slotVerified = false) :
    exec (.storageWatch r) s = .next { s with keeper := { s.keeper with skipped := s.keeper.skipped + 1 } } := by
  have present : s.kept.watch.isNone = false := by simpa using watched
  simp only [exec, execStorageWatch, storage, present]
  rcases skip with low | unverified
  · simp [low, State.updKeeper]
  · simp [unverified, State.updKeeper]

/-- The three records of a storage watch stand in flash (R128). -/
def State.watchWritten (s : State) (r : WatchReadings) : State :=
  let ps := watchPayloads s.kept s.nv.probeList s.keeper.energy r
  ((s.writeRecord 0x0D (ps.getD 0 [])).writeRecord 0x0E (ps.getD 1 [])).writeRecord 0x0F (ps.getD 2 [])

theorem State.watchWritten_frame : Keeps [.flash, .keeper, .logs, .nv] s (s.watchWritten r) := by
  simp (disch := decide) only [State.watchWritten, State.writeRecord_keeps, Keeps.refl]

theorem State.watchWritten_sameWatch : SameWatch s (s.watchWritten r) :=
  ((State.writeRecord_sameWatch _ _).trans (State.writeRecord_sameWatch _ _)).trans (State.writeRecord_sameWatch _ _)

theorem execStorageWatch_run (storage : s.dev.phase = .storage) (watched : s.kept.watch.isSome = true)
    (fed : buckStartMv ≤ r.vmodMv) (verified : s.keeper.slotVerified = true) :
    exec (.storageWatch r) s = .next (((s.watchWritten r).updKeeper fun k =>
      { k with watches := k.watches + 1, watchAlarm := k.watchAlarm || (watchFindings s.kept s.nv.probeList r).any id }).updNv fun n =>
        { n with energy := (s.watchWritten r).keeper.energy }) := by
  have present : s.kept.watch.isNone = false := by simpa using watched
  have low : ¬ r.vmodMv < buckStartMv := by omega
  simp [exec, execStorageWatch, storage, present, low, verified, State.watchWritten]

end

/-- Settles O21: the records of a watch leave the keeper's counts, which the watch then advances. -/
theorem storageWatchRunsOrIsSkipped : Obligations.StorageWatchRunsOrIsSkipped := by
  unfold Obligations.StorageWatchRunsOrIsSkipped
  refine fun s r storage watched => ⟨execStorageWatch_skipped storage watched, fun fed verified => ?_⟩
  obtain ⟨watches, skipped, alarm⟩ := State.watchWritten_sameWatch (s := s) (r := r)
  refine runs_next (execStorageWatch_run storage watched fed verified) ⟨?_, ?_, skipped, ?_⟩
  · simp (disch := decide) only [State.updNv_keeps, State.updKeeper_keeps]
    exact State.watchWritten_frame.mono (by decide)
  · exact congrArg (· + 1) watches
  · exact congrArg (· || (watchFindings s.kept s.nv.probeList r).any id) alarm

/-! ### The L1 tail -/

section
variable {s : State}

/-- The device at `i` on the Dealer's L1 line. -/
def State.l1At (s : State) (i : Nat) : L1Device := s.dealer.l1.getD i L1Device.none

/-- A good reply is noted for the next melds (R236). -/
def State.l1Answered (s : State) (bs : List Byte) : State :=
  s.updDealer fun d => { d with l1 := d.l1.modify ((bs.getD 1 0).toNat - 1) fun x =>
    { x with next := some (l1Words (bs.getD 1 0).toNat bs), misses := 0, present := true } }

theorem execL1Reply_run {bs : List Byte} (on : s.translates = true) (ok : l1ReplyOk bs = true)
    (other : (bs.getD 1 0).toNat ≠ 0) (inRange : (bs.getD 1 0).toNat ≤ 15)
    (present : (s.dealer.l1.getD ((bs.getD 1 0).toNat - 1) L1Device.none).absent = false) :
    exec (.l1Reply bs) s = .next ((s.l1Answered bs).checkReply (bs.getD 1 0).toNat bs) := by
  have below : ¬ 15 < (bs.getD 1 0).toNat := by omega
  simp only [exec, execL1Reply, State.l1Answered, on, ok, other, below, present, Bool.and_self, Bool.not_true, decide_false,
    Bool.or_self, Bool.false_eq_true, if_false]

/-- A reply is missed: what the Dealer notes of the device (R238). -/
def State.l1Missed (s : State) (i : Nat) : State :=
  s.updDealer fun d => { d with l1 := d.l1.modify i fun x =>
    { x with misses := (s.l1At i).misses + 1, next := none, absent := x.absent || 2 ≤ (s.l1At i).misses + 1 } }

/-- A missed reply is reported, and with it the device that is absent from here on (R238). -/
def State.l1Reported (s : State) (i : Nat) : State :=
  ((s.l1Missed i).raise .portN 8).raiseIf (2 ≤ (s.l1At i).misses + 1 && !(s.l1At i).absent) .portN 14

theorem execL1ReplyTimeout_run {a : BitVec 4} (on : s.translates = true) (other : a ≠ 0)
    (known : s.l1Known (a.toNat - 1) = true) : exec (.l1ReplyTimeout a) s = .next (s.l1Reported (a.toNat - 1)) := by
  have addressed : ¬ a = 0#4 := other
  simp [exec, execL1ReplyTimeout, State.l1Reported, State.l1Missed, State.l1At, on, addressed, known,
    -List.getD_eq_getElem?_getD]

theorem State.l1Reported_frame {i : Nat} : Keeps [.faults, .logs, .pins] (s.l1Missed i) (s.l1Reported i) :=
  (State.raise_frame (by decide)).trans (State.raiseIf_frame (by decide))

theorem State.l1Reported_at {i : Nat} (inRange : i < s.dealer.l1.length) :
    (s.l1Reported i).l1At i = { s.l1At i with
      misses := (s.l1At i).misses + 1, next := none, absent := (s.l1At i).absent || 2 ≤ (s.l1At i).misses + 1 } := by
  have same : (s.l1Reported i).dealer = (s.l1Missed i).dealer := State.l1Reported_frame.group .dealer (by decide)
  simp only [State.l1At, same]
  exact getD_modify_self _ _ inRange

theorem State.l1Reported_has {i : Nat} (hf : s.faults.length = 18) :
    (s.l1Reported i).has .portN 8 = true ∧
      (1 ≤ (s.l1At i).misses → (s.l1At i).absent = false → (s.l1Reported i).has .portN 14 = true) ∧
      StickyKept s (s.l1Reported i) := by
  obtain ⟨bit, sticky⟩ := State.raise_reports (u := s.l1Missed i) (s := s) (b := .portN) (i := 8) rfl hf (by decide)
  obtain ⟨gone, kept⟩ := State.raiseIf_reports (u := (s.l1Missed i).raise .portN 8) (b := .portN) (i := 14)
    (c := 2 ≤ (s.l1At i).misses + 1 && !(s.l1At i).absent) rfl ((State.raise_length ..).trans hf) (by decide)
  exact ⟨kept _ _ bit, fun again first => gone (by simp [again, first]), sticky.trans kept⟩

end

/-- Settles O22: what the Dealer notes of the device stands under the checks of the reply and the sources raised after it. -/
theorem l1TailIsRead : Obligations.L1TailIsRead := by
  unfold Obligations.L1TailIsRead
  refine ⟨fun s on => ⟨?_, fun a other => ?_⟩, fun s on => ⟨fun bs ok other inRange known present => ?_,
    fun a hf other known present => ?_⟩⟩
  · simp [exec, execL1Convert, on, State.updPort]
  · have addressed : ¬ a = 0#4 := other
    simp [exec, execL1Read, on, addressed, State.updPort]
  · have answered : Keeps [.dealer] s (s.l1Answered bs) := (State.updDealer_keeps (by decide) _).mpr (Keeps.refl _ _)
    have checked : Keeps [.logs, .outputs, .meas, .services, .pins, .keeper, .nv, .portN, .portS] (s.l1Answered bs) _ :=
      (State.checkReply_keeps (by decide) (bs.getD 1 0).toNat bs).mpr (Keeps.refl _ _)
    refine runs_next (execL1Reply_run on ok other inRange present)
      ⟨(answered.mono (by decide)).trans (checked.mono (by decide)), ?_⟩
    rw [show _ = _ from checked.group .dealer (by decide)]
    exact getD_modify_self _ _ (by omega)
  · have pos : a.toNat ≠ 0 := fun zero => other (BitVec.eq_of_toNat_eq (by simpa using zero))
    have device := State.l1Reported_at (s := s) (i := a.toNat - 1) (by omega)
    obtain ⟨missed, lost, sticky⟩ := State.l1Reported_has (i := a.toNat - 1) hf
    refine runs_next (execL1ReplyTimeout_run on other present) ⟨?_, sticky, missed, congrArg L1Device.misses device,
      congrArg L1Device.next device, fun again => ⟨(congrArg L1Device.absent device).trans ?_, lost again⟩⟩
    · exact ((State.updDealer_keeps (by decide) _).mpr (Keeps.refl _ s)).trans (State.l1Reported_frame.mono (by decide))
    · have twice : 2 ≤ (s.l1At (a.toNat - 1)).misses + 1 := Nat.succ_le_succ again
      simp only [twice, decide_true, Bool.or_true]

end Sys2Proof.Machine

/-!
PROOFS. The fan and the active converter (chapters 11 and 13).
-/
namespace Sys2Proof.Machine

/-! ### The fan -/

section
variable {s : State} {a b : Bool} {x : Nat}

theorem quadrature_lt (a b : Bool) : quadrature a b < 4 := by cases a <;> cases b <;> decide

theorem execPurgeStart_run (runs : s.fanRuns = true) (due : s.fan.due = true) (none_ : s.fan.purge = none)
    (supplied : s.supply.lowest = false) :
    exec .purgeStart s = .next { s with fan := { s.fan with
      due := false, target := 0, purge := some (if s.fan.duty = 0 then .reverse else .rampDown) } } := by
  simp [exec, execPurgeStart, runs, due, none_, supplied, State.updFan]

/-- The end of a ramp: the duty is the one aimed at, and a purge takes its next step (R415). -/
def rampEnded (now cruise : Nat) (f : Fan) : Fan :=
  let f := { f with duty := f.target, zeroAt := if f.target = 0 ∧ f.duty ≠ 0 then now else f.zeroAt }
  match f.purge with
  | some .rampDown => { f with purge := some .reverse }
  | some .rampUp => { f with purge := some .hold }
  | some .rampBack => if f.reverse then { f with purge := some .forward } else { f with purge := none, target := cruise }
  | _ => f

theorem execFanRampEnd_run (other : s.isHand = false) (run : s.running = true) (free : s.fan.frozen = false)
    (alive : s.dev.fatal = false) :
    exec .fanRampEnd s = .next (s.updFan (rampEnded s.now (if s.core then s.thermalTarget else 480))) := by
  simp only [exec, execFanRampEnd, other, run, free, alive, Bool.not_true, Bool.or_self, Bool.false_eq_true, if_false]
  rfl

theorem rampEnded_duty (now cruise : Nat) (f : Fan) :
    (rampEnded now cruise f).duty = f.target ∧ (rampEnded now cruise f).reverse = f.reverse := by
  unfold rampEnded
  dsimp only
  split
  · exact ⟨rfl, rfl⟩
  · exact ⟨rfl, rfl⟩
  · split <;> exact ⟨rfl, rfl⟩
  · exact ⟨rfl, rfl⟩

theorem execPurgeHoldEnd_run (hold : s.fan.purge = some .hold) (free : s.fan.frozen = false) :
    exec .purgeHoldEnd s = .next { s with fan := { s.fan with purge := some .rampBack, target := 0 } } := by
  simp [exec, execPurgeHoldEnd, hold, free, State.updFan]

theorem execFanDirChange_reverse (other : s.isHand = false) (run : s.running = true) (alive : s.dev.fatal = false)
    (may : s.dirMayChange = true) (step : s.fan.purge = some .reverse) :
    exec .fanDirChange s = .next { s with fan := { s.fan with reverse := true, purge := some .rampUp, target := 480 } } := by
  simp [exec, execFanDirChange, other, run, alive, may, step, State.updFan]

theorem execFanDirChange_forward (other : s.isHand = false) (run : s.running = true) (alive : s.dev.fatal = false)
    (may : s.dirMayChange = true) (step : s.fan.purge = some .forward) :
    exec .fanDirChange s = .next (s.updFan fun f =>
      { f with reverse := false, purge := none, target := if s.core then s.thermalTarget else 480 }) := by
  simp [exec, execFanDirChange, other, run, alive, may, step, State.updFan]

theorem execFanDirChange_refused (not_ : s.dirMayChange = false) : exec .fanDirChange s = .next s := by
  simp [exec, execFanDirChange, not_]

theorem execTachEdge_forward (other : s.isHand = false) (run : s.running = true)
    (next : quadrature a b = (quadrature s.fan.tachA s.fan.tachB + 1) % 4) :
    exec (.tachEdge a b x) s = .next { s with fan := tachEdge true x s.now { s.fan with tachA := a, tachB := b } } := by
  simp only [exec, execTachEdge, other, run, next, Bool.not_true, Bool.or_self, Bool.false_eq_true, if_false, if_true]
  rfl

theorem execTachEdge_backward (other : s.isHand = false) (run : s.running = true)
    (next : quadrature s.fan.tachA s.fan.tachB = (quadrature a b + 1) % 4) :
    exec (.tachEdge a b x) s = .next { s with fan := tachEdge false x s.now { s.fan with tachA := a, tachB := b } } := by
  have notForward : quadrature a b ≠ (quadrature s.fan.tachA s.fan.tachB + 1) % 4 := by
    have := quadrature_lt a b
    omega
  simp only [exec, execTachEdge, other, run, Bool.not_true, Bool.or_self, Bool.false_eq_true, if_false, if_neg notForward]
  rw [if_pos next]
  rfl

/-- An invalid transition of the tachometer is noted with those of the last second (R417). -/
def State.tachInvalid (s : State) (a b : Bool) (x : Nat) : State :=
  s.updFan fun f =>
    { f with tachA := a, tachB := b, tachFault := true
             invalid := (s.fan.invalid.filter fun y => x < y + 1000000) ++ [x] }

theorem execTachEdge_invalid (other : s.isHand = false) (run : s.running = true)
    (both : quadrature a b = (quadrature s.fan.tachA s.fan.tachB + 2) % 4) (first : s.fan.tachFault = false)
    (many : 15 ≤ (s.fan.invalid.filter fun y => x < y + 1000000).length) :
    exec (.tachEdge a b x) s = .next ((s.tachInvalid a b x).raise .fan 0) := by
  have new := quadrature_lt a b
  have old := quadrature_lt s.fan.tachA s.fan.tachB
  have notForward : quadrature a b ≠ (quadrature s.fan.tachA s.fan.tachB + 1) % 4 := by omega
  have notBackward : quadrature s.fan.tachA s.fan.tachB ≠ (quadrature a b + 1) % 4 := by omega
  have moved : quadrature a b ≠ quadrature s.fan.tachA s.fan.tachB := by omega
  simp only [exec, execTachEdge, other, run, Bool.not_true, Bool.or_self, Bool.false_eq_true, if_false, if_neg notForward,
    if_neg notBackward, if_neg moved, State.updFan_fan, first, List.length_append, List.length_singleton, Bool.not_false,
    Bool.and_true, decide_eq_true_eq]
  rw [if_pos (by omega)]
  rfl

theorem execFanStall_run (other : s.isHand = false) (run : s.running = true) (first : s.fan.stall = false)
    (driven : 144 ≤ s.fan.duty) : exec .fanStall s = .next ((s.updFan fun f => { f with stall := true }).raise .fan 1) := by
  have slow : ¬ s.fan.duty < 144 := by omega
  simp [exec, execFanStall, other, run, first, slow]

end

/-- Settles O44: each command is one update of the fan, and the two faults raise their source after it. -/
theorem fanRuns : Obligations.FanRuns := by
  unfold Obligations.FanRuns
  intro s other run
  have fan {f : Fan → Fan} : Keeps [.fan] s (s.updFan f) := (State.updFan_keeps (by decide) _).mpr (Keeps.refl _ _)
  refine ⟨fun purges => ?_, execPurgeStart_run, fun free alive => ?_, execPurgeHoldEnd_run, fun alive may => ⟨?_, ?_⟩,
    execFanDirChange_refused, fun a b x => ⟨?_, ?_, ?_⟩, rfl, rfl, fun first driven hf => ?_⟩
  · simp [exec, execPurgeDue, run, other, purges, State.updFan]
  · obtain ⟨duty, reverse⟩ := rampEnded_duty s.now (if s.core then s.thermalTarget else 480) s.fan
    refine runs_next (execFanRampEnd_run other run free alive) ⟨fan, duty, reverse, ?_, ?_, ?_, ?_⟩
    · intro step; simp [rampEnded, step]
    · intro step; simp [rampEnded, step]
    · intro step back; simp [rampEnded, step, back]
    · intro step ahead; simp [rampEnded, step, ahead]
  · exact execFanDirChange_reverse other run alive may
  · exact fun step => runs_next (execFanDirChange_forward other run alive may step) ⟨fan, rfl, rfl⟩
  · exact execTachEdge_forward other run
  · exact execTachEdge_backward other run
  · intro both first hf many
    have raised := State.raise_frame (s := s.tachInvalid a b x) (b := .fan) (i := 0) (by decide)
    exact runs_next (execTachEdge_invalid other run both first many)
      ⟨(fan.mono (by decide)).trans (raised.mono (by decide)), congrArg Fan.tachFault (raised.group .fan (by decide)),
        State.raise_reports rfl hf (by decide)⟩
  · have raised := State.raise_frame (s := s.updFan fun f => { f with stall := true }) (b := .fan) (i := 1) (by decide)
    exact runs_next (execFanStall_run other run first driven)
      ⟨(fan.mono (by decide)).trans (raised.mono (by decide)), raised.group .fan (by decide),
        State.raise_reports rfl hf (by decide)⟩

/-! ### The converter under jobs that end -/

section
variable {s t u : State}

/-- What the end of jobs and the reasons they note leave of the converter (R337, R340). -/
structure SameConverter (s t : State) : Prop where
  fenced : t.balance.acvFenced = s.balance.acvFenced
  stopped : t.balance.stopped = s.balance.stopped
  latch : t.balance.latch = s.balance.latch
  pin : t.balance.pin = s.balance.pin
  stage : t.balance.stage = s.balance.stage ∨ t.balance.stage = .unselected

theorem SameConverter.refl (s : State) : SameConverter s s := ⟨rfl, rfl, rfl, rfl, .inl rfl⟩

theorem SameConverter.of_balance (h : t.balance = s.balance) : SameConverter s t := by
  constructor <;> simp [h]

theorem SameConverter.trans (h : SameConverter s t) (k : SameConverter t u) : SameConverter s u where
  fenced := k.fenced.trans h.fenced
  stopped := k.stopped.trans h.stopped
  latch := k.latch.trans h.latch
  pin := k.pin.trans h.pin
  stage := k.stage.elim (fun same => h.stage.imp same.trans same.trans) .inr

theorem SameConverter.foldl {α : Type} {f : State → α → State} (h : ∀ t x, SameConverter t (f t x)) (l : List α) (s : State) :
    SameConverter s (l.foldl f s) := by
  induction l generalizing s with
  | nil => exact .refl s
  | cons x l ih => exact (h s x).trans (ih _)

theorem SameConverter.gateOn (h : SameConverter s t) (off : s.balance.stage.gateOn = false) : t.balance.stage.gateOn = false := by
  rcases h.stage with same | none_
  · rw [same, off]
  · rw [none_]; rfl

theorem SameConverter.unselected (h : SameConverter s t) (off : s.balance.stage = .unselected) :
    t.balance.stage = .unselected := h.stage.elim (fun same => same.trans off) id

theorem State.updBalance_dropJob_same (j : Job) : SameConverter s (s.updBalance (dropJob j)) := by
  cases j with
  | mk cell unit =>
    cases unit with
    | active => exact ⟨rfl, rfl, rfl, rfl, .inr rfl⟩
    | pbA => exact ⟨rfl, rfl, rfl, rfl, .inl rfl⟩
    | pbB => exact ⟨rfl, rfl, rfl, rfl, .inl rfl⟩

theorem State.reportJob_same (j : Job) : SameConverter s (s.reportJob j) := by
  unfold State.reportJob
  extract_lets ticks secs e logged traced full raised
  have noted : Keeps [.logs, .faults, .pins] s raised := by
    simp (disch := decide) only [raised, traced, logged, State.raiseIf_keeps_calm, State.traceJob_keeps, State.log_keeps,
      Keeps.refl]
  have balance : raised.balance = s.balance := noted.group .balance (by decide)
  exact (SameConverter.of_balance balance).trans ⟨rfl, rfl, rfl, rfl, .inl rfl⟩

theorem State.endJob_same (j : Job) : SameConverter s (s.endJob j) := by
  unfold State.endJob
  dsimp only
  split
  · exact (State.updBalance_dropJob_same j).trans (State.reportJob_same j)
  · exact State.updBalance_dropJob_same j

theorem State.endJobs_same (c : Job → Bool) : SameConverter s (s.endJobs c) :=
  SameConverter.foldl (fun _ => State.endJob_same) _ s

theorem State.noteReasons_same (n : Nat) : SameConverter s (s.noteReasons n) := by
  refine SameConverter.foldl (fun t r => ?_) throttleRank s
  dsimp only
  split
  · split
    · exact ⟨rfl, rfl, rfl, rfl, .inl rfl⟩
    · exact .refl t
  · exact ⟨rfl, rfl, rfl, rfl, .inl rfl⟩

theorem State.endJobs_activeJob : (s.endJobs (·.unit = .active)).activeJob = none := by
  simp [State.activeJob, State.endJobs_jobs]

theorem State.activeJob_of_jobs (h : t.balance.jobs = s.balance.jobs) : t.activeJob = s.activeJob := by
  simp only [State.activeJob, h]

/-! ### Sources and the fence of the converter -/

variable {i n : Nat} {f : Balance → Balance}

theorem State.raise_bala_balance : (s.raise .bala i).balance = s.balance :=
  (State.raise_frame (calm_of_block (by decide))).group .balance (by decide)

/-- A source of the converter raised after an update of the balancing. -/
def State.reportBala (s : State) (f : Balance → Balance) (i : Nat) : State := (s.updBalance f).raise .bala i

@[simp] theorem State.reportBala_balance : (s.reportBala f i).balance = f s.balance := State.raise_bala_balance

theorem State.reportBala_frame : Keeps [.balance, .faults, .logs, .pins] s (s.reportBala f i) :=
  ((State.updBalance_keeps (by decide) _).mpr (Keeps.refl _ s)).trans
    ((State.raise_frame (calm_of_block (by decide))).mono (by decide))

theorem State.reportBala_length : (s.reportBala f i).faults.length = s.faults.length := State.raise_length ..

theorem State.reportBala_reports (hf : s.faults.length = 18) (hi : i < 16) :
    (s.reportBala f i).has .bala i = true ∧ StickyKept s (s.reportBala f i) := State.raise_reports rfl hf hi

/-- No cell is selected and nothing is commanded from here on (R337). -/
def fenceConverter (b : Balance) : Balance := { b with acvFenced := true, stage := .unselected, wanted := none, command := 0 }

theorem State.fenceAcv_eq : s.fenceAcv n = (s.reportBala fenceConverter n).endJobs (·.unit = .active) := rfl

theorem State.fenceAcv_same : SameConverter (s.reportBala fenceConverter n) (s.fenceAcv n) := State.endJobs_same _

theorem State.fenceAcv_fences : ConverterFenced (s.fenceAcv n) :=
  ⟨State.fenceAcv_same.fenced.trans (by rw [State.reportBala_balance]; rfl),
    State.fenceAcv_same.unselected (by rw [State.reportBala_balance]; rfl), State.endJobs_activeJob⟩

theorem State.fenceAcv_frame : Keeps [.balance, .faults, .logs, .pins] s (s.fenceAcv n) :=
  (State.fenceAcv_keeps (by decide) n).mpr (Keeps.refl _ s)

theorem State.endJobs_mono (c : Job → Bool) : StickyKept s (s.endJobs c) :=
  (State.endJobs_sound c (Sound.refl true true s)).sticky rfl

theorem State.fenceAcv_reports (hf : s.faults.length = 18) (hn : n < 16) :
    (s.fenceAcv n).has .bala n = true ∧ StickyKept s (s.fenceAcv n) := by
  obtain ⟨bit, sticky⟩ := State.reportBala_reports (f := fenceConverter) hf hn
  exact ⟨State.endJobs_mono _ _ _ bit, sticky.trans (State.endJobs_mono _)⟩

/-- A command that fences the converter. -/
theorem runs_fenceAcv {c : Instr} (run : exec c s = .next (s.fenceAcv n)) (hf : s.faults.length = 18) (hn : n < 16) :
    Runs c s fun t =>
      Keeps [.balance, .faults, .logs, .pins] s t ∧ ConverterFenced t ∧ t.has .bala n = true ∧ StickyKept s t :=
  runs_next run ⟨State.fenceAcv_frame, State.fenceAcv_fences, State.fenceAcv_reports hf hn⟩

end

/-! ### The switching periods -/

section
variable {s : State} {c w : Nat}

theorem execSelectionConfirmed_ready (selecting : s.balance.stage = .selecting c) (wanted : s.balance.wanted = some c) :
    exec .selectionConfirmed s = .next { s with balance := { s.balance with stage := .ready c, soft := 0, skipNext := false } } := by
  simp [exec, execSelectionConfirmed, selecting, wanted, State.updBalance]

theorem execSelectionConfirmed_newer (selecting : s.balance.stage = .selecting c) (newer : w ≠ c)
    (wanted : s.balance.wanted = some w) :
    exec .selectionConfirmed s = .next { s with balance := { s.balance with stage := .selecting w } } := by
  simp [exec, execSelectionConfirmed, selecting, wanted, newer, State.updBalance]

theorem execSelectionConfirmed_gone (selecting : s.balance.stage = .selecting c) (wanted : s.balance.wanted = none) :
    exec .selectionConfirmed s = .next { s with balance := { s.balance with stage := .unselected } } := by
  simp [exec, execSelectionConfirmed, selecting, wanted, State.updBalance]

/-- A period begins with both gates off; the primary leg may turn on (R328, R330). -/
def beginPeriod (enable : Bool) (b : Balance) : Balance :=
  let b := gatesOff { b with legsHit := [], skipNext := false }
  match b.stage with
  | .ready c => if enable then { b with stage := .primaryOn c, soft := sat 32 (b.soft + 1) } else b
  | _ => b

theorem execSwitchingPeriod_ready {r : Bool} {ma : Nat} (ready : s.balance.stage = .ready c) (may : s.maySwitch = true)
    (go : s.balance.skipNext = false) :
    exec (.switchingPeriod r ma) s = .next (s.updBalance (beginPeriod ((ma : Rat) < s.balance.command))) := by
  simp only [exec, execSwitchingPeriod, ready, Bool.and_false, State.raiseIf, Bool.false_eq_true, if_false, may, go,
    Bool.or_self, Bool.not_false, Bool.and_true, Bool.true_and]
  rfl

theorem beginPeriod_starts (b : Balance) (ready : b.stage = .ready c) :
    (beginPeriod true b).stage = .primaryOn c ∧ (beginPeriod true b).soft = min 32 (b.soft + 1) := by
  simp [beginPeriod, gatesOff, ready, sat_eq_min]

theorem beginPeriod_waits (b : Balance) (ready : b.stage = .ready c) : (beginPeriod false b).stage = .ready c := by
  simp [beginPeriod, gatesOff, ready]

theorem beginPeriod_late (b : Balance) (rectifying : b.stage = .rectifierOn c) : (beginPeriod false b).stage = .ready c := by
  simp [beginPeriod, gatesOff, rectifying]

theorem execSwitchingPeriod_late {ma : Nat} (rectifying : s.balance.stage = .rectifierOn c) :
    exec (.switchingPeriod true ma) s = .next ((s.raise .bala 0).updBalance (beginPeriod false)) := by
  have same : (s.raise .bala 0).balance = s.balance := State.raise_bala_balance
  simp only [exec, execSwitchingPeriod, rectifying, Bool.and_self, State.raiseIf, if_true, Bool.or_true, Bool.not_true,
    Bool.and_false, Bool.false_and]
  rfl

theorem execAcvPeakTimeout_run (on : s.balance.stage = .primaryOn c) :
    exec .acvPeakTimeout s = .next (s.reportBala (fun b => { b with stage := .ready c }) 0) := by
  simp [exec, execAcvPeakTimeout, on, State.reportBala]

theorem switchingPeriod_runs : (s.balance.stage = .ready c → s.maySwitch = true → s.balance.skipNext = false →
    ∀ (r : Bool) (ma : Nat),
    ((ma : Rat) < s.balance.command → Runs (.switchingPeriod r ma) s fun t =>
      Keeps [.balance] s t ∧ t.balance.stage = .primaryOn c ∧ t.balance.soft = min 32 (s.balance.soft + 1)) ∧
    (s.balance.command ≤ (ma : Rat) → Runs (.switchingPeriod r ma) s fun t =>
      Keeps [.balance] s t ∧ t.balance.stage = .ready c)) := by
  intro ready may go r ma
  have only {f : Balance → Balance} : Keeps [.balance] s (s.updBalance f) :=
    (State.updBalance_keeps (by decide) _).mpr (Keeps.refl _ s)
  refine ⟨fun below => ?_, fun above => ?_⟩
  · have run := execSwitchingPeriod_ready (r := r) (ma := ma) ready may go
    rw [decide_eq_true below] at run
    exact runs_next run ⟨only, beginPeriod_starts _ ready⟩
  · have run := execSwitchingPeriod_ready (r := r) (ma := ma) ready may go
    rw [decide_eq_false (Rat.not_lt.mpr above)] at run
    exact runs_next run ⟨only, beginPeriod_waits _ ready⟩

theorem switchingPeriod_reports {ma : Nat} (hf : s.faults.length = 18) (rectifying : s.balance.stage = .rectifierOn c) :
    Runs (.switchingPeriod true ma) s fun t =>
      Keeps [.balance, .faults, .logs, .pins] s t ∧ t.balance.stage = .ready c ∧ t.has .bala 0 = true ∧ StickyKept s t := by
  have raised := State.raise_frame (s := s) (b := .bala) (i := 0) (by decide)
  have same : (s.raise .bala 0).balance = s.balance := State.raise_bala_balance
  obtain ⟨bit, sticky⟩ := State.raise_reports (b := .bala) (i := 0) rfl hf (by decide)
  refine runs_next (execSwitchingPeriod_late rectifying) ⟨?_, beginPeriod_late _ (by rw [same, rectifying]), bit, sticky⟩
  exact (State.updBalance_keeps (by decide) _).mpr (raised.mono (by decide))

/-! ### Desaturation and hard short -/

variable {l : Leg}

/-- A leg hit for the first time in a period joins those that were. -/
theorem noteLeg_second {b : Balance} (one : b.legsHit.length = 1) (other : b.legsHit.contains l = false) :
    (noteLeg l b).legsHit.length = 2 := by
  simp only [noteLeg, other, Bool.false_eq_true, if_false, List.length_append, one, List.length_singleton]

theorem gatesOff_stage (b : Balance) : (gatesOff b).stage.gateOn = false := by
  unfold gatesOff
  cases h : b.stage <;> rfl

/-- A desaturation turns both gates off and is counted (R335). -/
def desaturated (l : Leg) (b : Balance) : Balance := { noteLeg l (gatesOff b) with desats := b.desats + 1 }

/-- The eighth desaturation stops the converter for the deal (R336). -/
def stopDesats (b : Balance) : Balance := { b with stopped := true, desatStopped := true, desatStops := b.desatStops + 1 }

theorem execAcvDesaturation_run (free : s.balance.acvFenced = false) (job : s.activeJob.isSome = true) :
    exec (.acvDesaturation l) s = .next
      (if (desaturated l s.balance).legsHit.length = 2 then (s.reportBala (desaturated l) 1).fenceAcv 7
       else if s.balance.desats + 1 = 8 then
         if s.balance.desatStops + 1 = 3 then ((s.reportBala (desaturated l) 1).updBalance stopDesats).fenceAcv 5
         else (s.reportBala (desaturated l) 1).updBalance stopDesats
       else s.reportBala (desaturated l) 1) := by
  have some_ : s.activeJob.isNone = false := by simpa using job
  have same : ((s.updBalance fun b => { noteLeg l (gatesOff b) with desats := b.desats + 1 }).raise .bala 1).balance =
      desaturated l s.balance := State.raise_bala_balance
  simp only [exec, execAcvDesaturation, free, some_, Bool.or_self, Bool.false_eq_true, if_false, State.updBalance_balance, same]
  rfl

/-- A hard short deselects the cell and stops the converter for the deal (R336). -/
def shorted (l : Leg) (deals : Nat) (b : Balance) : Balance :=
  { noteLeg l (gatesOff b) with stage := .unselected, stopped := true
                                shorts := (b.shorts.filter fun d => deals < d + 64) ++ [deals] }

theorem execAcvHardShort_run (free : s.balance.acvFenced = false) (job : s.activeJob.isSome = true) :
    exec (.acvHardShort l) s = .next
      (if (shorted l s.ring.deals s.balance).legsHit.length = 2 then (s.reportBala (shorted l s.ring.deals) 2).fenceAcv 7
       else if 2 ≤ (s.balance.shorts.filter fun d => s.ring.deals < d + 64).length + 1 then
         (s.reportBala (shorted l s.ring.deals) 2).fenceAcv 6
       else s.reportBala (shorted l s.ring.deals) 2) := by
  have some_ : s.activeJob.isNone = false := by simpa using job
  have same : (s.reportBala (shorted l s.ring.deals) 2).balance = shorted l s.ring.deals s.balance :=
    State.reportBala_balance
  have length : ((s.balance.shorts.filter fun d => s.ring.deals < d + 64) ++ [s.ring.deals]).length =
      (s.balance.shorts.filter fun d => s.ring.deals < d + 64).length + 1 := by simp
  rw [← length, ← same]
  simp only [exec, execAcvHardShort, free, some_, Bool.or_self, Bool.false_eq_true, if_false]
  rfl

/-- What a protection leaves that reports its source and may then fence the converter. -/
structure Protects (s t : State) (i : Nat) : Prop where
  frame : Keeps [.balance, .faults, .logs, .pins] s t
  sticky : StickyKept s t
  bit : t.has .bala i = true

theorem Protects.fence {u : State} {i n : Nat} (h : Protects s u i) (hf : u.faults.length = 18) (hn : n < 16) :
    Protects s (u.fenceAcv n) i where
  frame := h.frame.trans State.fenceAcv_frame
  sticky := h.sticky.trans (State.fenceAcv_reports hf hn).2
  bit := (State.fenceAcv_reports hf hn).2 _ _ h.bit

theorem Protects.report {f : Balance → Balance} {i : Nat} (hf : s.faults.length = 18) (hi : i < 16) :
    Protects s (s.reportBala f i) i :=
  ⟨State.reportBala_frame, (State.reportBala_reports hf hi).2, (State.reportBala_reports hf hi).1⟩

theorem Protects.updBalance {u : State} {f : Balance → Balance} {i : Nat} (h : Protects s u i) : Protects s (u.updBalance f) i :=
  ⟨(State.updBalance_keeps (by decide) _).mpr h.frame, h.sticky, h.bit⟩

theorem ConverterFenced.gateOn {t : State} (h : ConverterFenced t) : t.balance.stage.gateOn = false := by
  rw [h.2.1]; rfl

theorem execAcvDesaturation_protects (hf : s.faults.length = 18) (free : s.balance.acvFenced = false)
    (job : s.activeJob.isSome = true) : Runs (.acvDesaturation l) s fun t =>
      Keeps [.balance, .faults, .logs, .pins] s t ∧ StickyKept s t ∧ t.has .bala 1 = true ∧
      t.balance.stage.gateOn = false ∧ (s.balance.desats = 7 → t.balance.stopped = true ∨ t.balance.acvFenced = true) ∧
      (s.balance.legsHit.length = 1 → s.balance.legsHit.contains l = false → ConverterFenced t ∧ t.has .bala 7 = true) := by
  have hit : Protects s (s.reportBala (desaturated l) 1) 1 := .report hf (by decide)
  have length : (s.reportBala (desaturated l) 1).faults.length = 18 := State.reportBala_length.trans hf
  have off : (s.reportBala (desaturated l) 1).balance.stage.gateOn = false := by
    rw [State.reportBala_balance]
    exact gatesOff_stage s.balance
  refine runs_next (execAcvDesaturation_run free job) ?_
  by_cases second : (desaturated l s.balance).legsHit.length = 2
  · rw [if_pos second]
    obtain ⟨frame, sticky, bit⟩ := hit.fence (n := 7) length (by decide)
    have fenced := State.fenceAcv_fences (s := s.reportBala (desaturated l) 1) (n := 7)
    exact ⟨frame, sticky, bit, fenced.gateOn, fun _ => .inr fenced.1, fun _ _ =>
      ⟨fenced, (State.fenceAcv_reports length (by decide)).1⟩⟩
  · have once : ¬ (s.balance.legsHit.length = 1 ∧ s.balance.legsHit.contains l = false) := fun ⟨one, other⟩ =>
      second (noteLeg_second (b := gatesOff s.balance) one other)
    rw [if_neg second]
    split
    · split
      · obtain ⟨frame, sticky, bit⟩ := (hit.updBalance (f := stopDesats)).fence (n := 5) length (by decide)
        have fenced := State.fenceAcv_fences (s := (s.reportBala (desaturated l) 1).updBalance stopDesats) (n := 5)
        exact ⟨frame, sticky, bit, fenced.gateOn, fun _ => .inr fenced.1, fun one other => absurd ⟨one, other⟩ once⟩
      · obtain ⟨frame, sticky, bit⟩ := hit.updBalance (f := stopDesats)
        exact ⟨frame, sticky, bit, off, fun _ => .inl rfl, fun one other => absurd ⟨one, other⟩ once⟩
    · obtain ⟨frame, sticky, bit⟩ := hit
      exact ⟨frame, sticky, bit, off, fun seven => by omega, fun one other => absurd ⟨one, other⟩ once⟩

theorem State.shorted_fences {deals n : Nat} (hit : Protects s (s.reportBala (shorted l deals) 2) 2)
    (length : (s.reportBala (shorted l deals) 2).faults.length = 18) (hn : n < 16) :
    Protects s ((s.reportBala (shorted l deals) 2).fenceAcv n) 2 ∧
      ((s.reportBala (shorted l deals) 2).fenceAcv n).balance.stage = .unselected ∧
      ((s.reportBala (shorted l deals) 2).fenceAcv n).balance.stopped = true ∧
      ConverterFenced ((s.reportBala (shorted l deals) 2).fenceAcv n) := by
  have fenced := State.fenceAcv_fences (s := s.reportBala (shorted l deals) 2) (n := n)
  have stop : (s.reportBala (shorted l deals) 2).balance.stopped = true := by rw [State.reportBala_balance]; rfl
  refine ⟨hit.fence length hn, fenced.2.1, State.fenceAcv_same.stopped.trans ?_, fenced⟩
  rwa [State.reportBala_balance]

theorem execAcvHardShort_protects (hf : s.faults.length = 18) (free : s.balance.acvFenced = false)
    (job : s.activeJob.isSome = true) : Runs (.acvHardShort l) s fun t =>
      Keeps [.balance, .faults, .logs, .pins] s t ∧ StickyKept s t ∧ t.has .bala 2 = true ∧ t.balance.stage = .unselected ∧
      t.balance.stopped = true ∧
      (1 ≤ (s.balance.shorts.filter fun d => s.ring.deals < d + 64).length → ConverterFenced t) := by
  have hit : Protects s (s.reportBala (shorted l s.ring.deals) 2) 2 := .report hf (by decide)
  have length : (s.reportBala (shorted l s.ring.deals) 2).faults.length = 18 := State.reportBala_length.trans hf
  refine runs_next (execAcvHardShort_run free job) ?_
  split
  · obtain ⟨held, stage, stopped, fenced⟩ := State.shorted_fences (n := 7) hit length (by decide)
    exact ⟨held.frame, held.sticky, held.bit, stage, stopped, fun _ => fenced⟩
  · split
    · obtain ⟨held, stage, stopped, fenced⟩ := State.shorted_fences (n := 6) hit length (by decide)
      exact ⟨held.frame, held.sticky, held.bit, stage, stopped, fun _ => fenced⟩
    · refine ⟨hit.frame, hit.sticky, hit.bit, ?_, ?_, fun again => by omega⟩ <;> rw [State.reportBala_balance] <;> rfl

/-! ### The external trip -/

/-- An external trip is latched with the deals of the trips before it; both gates turn off (R340). -/
def latched (deals : Nat) (b : Balance) : Balance :=
  { gatesOff b with latch := true, trips64 := (b.trips64.filter fun d => deals < d + 64) ++ [deals] }

/-- The converter is fenced by the third trip (R341). -/
def fenceTripped (b : Balance) : Balance := { b with acvFenced := true, stage := .unselected }

/-- The third trip within 64 deals fences the converter (R341). -/
def State.fenceThird (s : State) : State := (s.reportBala fenceTripped 9).endJobs (·.unit = .active)

theorem State.latchTrip_eq : s.latchTrip =
    if 3 ≤ (s.balance.trips64.filter fun d => s.ring.deals < d + 64).length + 1 then
      (s.reportBala (latched s.ring.deals) 3).fenceThird
    else s.reportBala (latched s.ring.deals) 3 := by
  unfold State.latchTrip
  simp only [List.length_append, List.length_singleton]
  rfl

/-- The pin of an external trip, noted before the trip is latched. -/
def State.tripPin (s : State) : State := s.updBalance fun b => { b with pin := true }

theorem execBalTrip_run (run : s.running = true) (powered : s.acvPowered = true) (first : s.balance.latch = false)
    (free : s.balance.acvFenced = false) :
    exec .balTrip s = .next (s.tripPin.latchTrip.noteReasons 0) := by
  simp only [exec, execBalTrip]
  rw [if_pos]
  · rfl
  simp [run, powered, first, free, show (s.updBalance fun b => { b with pin := true }).running = s.running from rfl,
    show (s.updBalance fun b => { b with pin := true }).acvPowered = s.acvPowered from rfl]

theorem State.fenceThird_protects {i : Nat} {u : State} (h : Protects s u i) (hf : u.faults.length = 18) :
    Protects s u.fenceThird i ∧ u.fenceThird.has .bala 9 = true ∧ ConverterFenced u.fenceThird ∧
      u.fenceThird.balance.latch = u.balance.latch ∧ u.fenceThird.balance.pin = u.balance.pin := by
  have jobs : SameConverter (u.reportBala fenceTripped 9) u.fenceThird := State.endJobs_same _
  obtain ⟨nine, kept⟩ := State.reportBala_reports (s := u) (f := fenceTripped) (i := 9) hf (by decide)
  have mono := kept.trans (State.endJobs_mono (s := u.reportBala fenceTripped 9) (·.unit = .active))
  refine ⟨⟨?_, h.sticky.trans mono, mono _ _ h.bit⟩, State.endJobs_mono _ _ _ nine, ⟨?_, ?_, State.endJobs_activeJob⟩, ?_, ?_⟩
  · exact h.frame.trans (State.reportBala_frame.trans ((State.endJobs_keeps (by decide) _).mpr (Keeps.refl _ _)))
  · exact jobs.fenced.trans (by rw [State.reportBala_balance]; rfl)
  · exact jobs.unselected (by rw [State.reportBala_balance]; rfl)
  · exact jobs.latch.trans (by rw [State.reportBala_balance]; rfl)
  · exact jobs.pin.trans (by rw [State.reportBala_balance]; rfl)

theorem State.noteReasons_frame (n : Nat) : Keeps [.balance, .logs] s (s.noteReasons n) :=
  (State.noteReasons_keeps (by decide) n).mpr (Keeps.refl _ s)

theorem ConverterFenced.noteReasons (h : ConverterFenced s) (n : Nat) : ConverterFenced (s.noteReasons n) :=
  ⟨(State.noteReasons_same n).fenced.trans h.1, (State.noteReasons_same n).unselected h.2.1,
    (State.activeJob_of_jobs (State.noteReasons_jobs s n)).trans h.2.2⟩

theorem Protects.noteReasons {u : State} {i : Nat} (h : Protects s u i) (n : Nat) : Protects s (u.noteReasons n) i where
  frame := h.frame.trans ((State.noteReasons_frame n).mono (by decide))
  sticky := h.sticky.trans ((State.noteReasons_frame n).sticky (by decide))
  bit := ((State.noteReasons_frame n).has (by decide) _ _).trans h.bit

/-- What an external trip leaves before the third within 64 deals fences the converter. -/
theorem State.latchTrip_protects (hf : s.faults.length = 18) :
    Protects s s.latchTrip 3 ∧ s.latchTrip.balance.pin = s.balance.pin ∧ s.latchTrip.balance.latch = true ∧
      s.latchTrip.balance.stage.gateOn = false ∧
      (2 ≤ (s.balance.trips64.filter fun d => s.ring.deals < d + 64).length →
        ConverterFenced s.latchTrip ∧ s.latchTrip.has .bala 9 = true) := by
  have noted : Protects s (s.reportBala (latched s.ring.deals) 3) 3 := .report hf (by decide)
  have balance : (s.reportBala (latched s.ring.deals) 3).balance = latched s.ring.deals s.balance := State.reportBala_balance
  rw [State.latchTrip_eq]
  split
  · obtain ⟨held, nine, fenced, latch, pin⟩ := State.fenceThird_protects noted (State.reportBala_length.trans hf)
    exact ⟨held, pin.trans (by rw [balance]; rfl), latch.trans (by rw [balance]; rfl), fenced.gateOn, fun _ => ⟨fenced, nine⟩⟩
  · refine ⟨noted, ?_, ?_, ?_, fun third => by omega⟩ <;> rw [balance]
    · rfl
    · rfl
    · exact gatesOff_stage s.balance

theorem execBalTrip_protects (hf : s.faults.length = 18) (run : s.running = true) (powered : s.acvPowered = true)
    (first : s.balance.latch = false) (free : s.balance.acvFenced = false) : Runs .balTrip s fun t =>
      Keeps [.balance, .faults, .logs, .pins] s t ∧ t.balance.pin = true ∧ t.balance.latch = true ∧ t.has .bala 3 = true ∧
      t.balance.stage.gateOn = false ∧ StickyKept s t ∧
      (2 ≤ (s.balance.trips64.filter fun d => s.ring.deals < d + 64).length →
        ConverterFenced t ∧ t.has .bala 9 = true) := by
  obtain ⟨held, pin, latch, gates, third⟩ := State.latchTrip_protects (s := s.tripPin) hf
  obtain ⟨frame, sticky, bit⟩ := held.noteReasons 0
  have same := State.noteReasons_same (s := s.tripPin.latchTrip) 0
  have only : Keeps [.balance] s s.tripPin := (State.updBalance_keeps (by decide) _).mpr (Keeps.refl _ s)
  refine runs_next (execBalTrip_run run powered first free) ⟨(only.mono (by decide)).trans frame, same.pin.trans pin,
    same.latch.trans latch, bit, same.gateOn gates, (StickyKept.of_faults (s := s) (t := s.tripPin) rfl).trans sticky, fun many => ?_⟩
  obtain ⟨fenced, nine⟩ := third many
  exact ⟨fenced.noteReasons 0, ((State.noteReasons_frame 0).has (by decide) _ _).trans nine⟩

end

/-- Settles O42: the periods are one update of the balancing each; a protection reports its source, and a fence ends the active
job without touching what else the protection left. -/
theorem converterSwitchesAndIsProtected : Obligations.ConverterSwitchesAndIsProtected := by
  unfold Obligations.ConverterSwitchesAndIsProtected
  refine ⟨fun s c => ⟨fun selecting => ⟨execSelectionConfirmed_ready selecting,
      fun w newer => execSelectionConfirmed_newer selecting newer, execSelectionConfirmed_gone selecting⟩,
    switchingPeriod_runs, fun on => ⟨?_, fun hf => ?_⟩,
    fun rectifying => ⟨?_, fun hf ma => switchingPeriod_reports hf rectifying⟩⟩, fun s hf => ⟨fun free job l =>
      ⟨execAcvDesaturation_protects hf free job, execAcvHardShort_protects hf free job⟩, fun free run => ⟨?_, ?_⟩,
      fun run powered first free => execBalTrip_protects hf run powered first free, rfl⟩⟩
  · simp [exec, execAcvPeak, on, State.updBalance]
  · exact runs_next (execAcvPeakTimeout_run on)
      ⟨State.reportBala_frame, State.reportBala_balance, State.reportBala_reports hf (by decide)⟩
  · simp [exec, execAcvZeroCurrent, rectifying, State.updBalance]
  · exact runs_fenceAcv (by simp [exec, execShootThrough, free, run]) hf (by decide)
  · exact runs_fenceAcv (by simp [exec, execSelLevelTimeout, free, run]) hf (by decide)

end Sys2Proof.Machine

/-!
PROOFS. Channels that conduct and the interlock (chapters 13 and 17).
-/
namespace Sys2Proof.Machine

/-! ### A gate that turns on -/

section
variable {s t : State} {ch : Fin 6} {i j rule : Nat}

theorem State.traceOut_only (on : Bool) : Keeps [.logs] s (s.traceOut i on rule) :=
  (State.traceOut_keeps (by decide) i on rule).mpr (Keeps.refl _ s)

theorem State.gateOn_frame : Keeps [.logs, .outputs, .meas] s (s.gateOn i rule) :=
  (State.gateOn_keeps (by decide) i rule).mpr (Keeps.refl _ s)

theorem State.chan_gateOn (h : i < s.outputs.channels.length) :
    (s.gateOn i rule).chan i = { s.chan i with stage := .opening, onAt := some s.now } := by
  have same : (s.traceOut i true rule).outputs = s.outputs := (State.traceOut_only true).group .outputs (by decide)
  unfold State.gateOn
  rw [State.chan_updChan _ _ _ (same ▸ h), (State.traceOut_only true).chan (by decide)]

theorem State.chan_gateOn_ne (h : i ≠ j) : (s.gateOn i rule).chan j = s.chan j := by
  unfold State.gateOn
  rw [State.chan_updChan_ne _ _ _ _ h, (State.traceOut_only true).chan (by decide)]

theorem execGateTurnOn_run (waits : (s.chan ch.val).stage = .pumpWait) (on : (s.chan ch.val).command = true)
    (allowed : s.gateAllowed ch.val = true) : exec (.gateTurnOn ch) s = .next (s.gateOn ch.val 0) := by
  simp [exec, execGateTurnOn, waits, on, allowed]

/-- The windows of a turn-on end in one update of the channel (R394, R395). -/
theorem exec_windowEnd {c : Instr} (hc : (c = .pullInEnd ch ∧ chanRole s.cfg ch.val = .coil) ∨
      (c = .inrushWindowEnd ch ∧ chanRole s.cfg ch.val ≠ .coil)) (opening : (s.chan ch.val).stage = .opening) :
    exec c s = .next (s.updChan ch.val fun x => { x with stage := .steady }) := by
  rcases hc with ⟨rfl, coil⟩ | ⟨rfl, other⟩
  · simp [exec, execPullInEnd, opening, coil]
  · simp [exec, execInrushWindowEnd, opening, other]

theorem execOvercurrentRetry_run (waits : (s.chan ch.val).stage = .retryWait) (on : (s.chan ch.val).command = true) :
    exec (.overcurrentRetry ch) s = .next (if s.gateAllowed ch.val then s.gateOn ch.val 2
      else s.updChan ch.val fun c => { c with stage := .held }) := by
  simp [exec, execOvercurrentRetry, waits, on]

/-! ### A pump that restarts -/

/-- The pump of a pair is out of its undervoltage (R404). -/
def State.pumpReleased (s : State) (k : Nat) : State :=
  s.updOutputs fun o => { o with pumps := o.pumps.modify k fun q => { q with under := false } }

@[simp] theorem State.pumpReleased_chan (k : Nat) : (s.pumpReleased k).chan i = s.chan i := rfl

theorem execPumpRestart_run {inrush : Bool} {w : Nat} (dipped : (s.chan ch.val).stage = .dipped inrush)
    (on : (s.chan ch.val).command = true) :
    exec (.pumpRestart ch w) s = .next
      (if chanRole s.cfg ch.val = .coil then (s.pumpReleased (ch.val / 2)).gateOn ch.val 3
       else if s.supply.lowest then (s.pumpReleased (ch.val / 2)).updChan ch.val fun c => { c with stage := .held }
       else if inrush && w < windowUs (chanRole s.cfg ch.val) && windowUs (chanRole s.cfg ch.val) < 2 * w then
         (s.pumpReleased (ch.val / 2)).fenceChan ch.val 7
       else (s.pumpReleased (ch.val / 2)).gateOn ch.val 3) := by
  have commanded : ((s.pumpReleased (ch.val / 2)).chan ch.val).command = true := on
  unfold State.pumpReleased at *
  simp only [exec, execPumpRestart, dipped, commanded, Bool.not_true, Bool.false_eq_true, if_false]
  rfl

/-! ### The return of VSW -/

/-- One channel that waits starts again where it may (R406). -/
def State.restartChan (s : State) (i : Nat) : State :=
  if (s.chan i).stage = .held && (s.chan i).command && s.mayTurnOn i then s.updChan i fun c => { c with stage := .pumpWait }
  else s

theorem State.restartHeld_eq : s.restartHeld = (List.range 6).foldl State.restartChan s.settle := rfl

/-- Nothing that decides whether channel `i` may turn on differs. -/
def SameGate (i : Nat) (s t : State) : Prop := t.chan i = s.chan i ∧ t.mayTurnOn i = s.mayTurnOn i

theorem State.restartChan_vswOk : (s.restartChan i).outputs.vswOk = s.outputs.vswOk := by
  unfold State.restartChan
  split <;> rfl

theorem State.restartChan_other (ne : i ≠ j) : SameGate j s (s.restartChan i) := by
  unfold State.restartChan
  split
  · have same : (s.updChan i fun c => { c with stage := .pumpWait }).chan j = s.chan j := State.chan_updChan_ne _ _ _ _ ne
    refine ⟨same, ?_⟩
    unfold State.mayTurnOn
    rw [same]
    rfl
  · exact ⟨rfl, rfl⟩

theorem State.restartChan_waits (held : (s.chan i).stage = .held) (on : (s.chan i).command = true)
    (may : s.mayTurnOn i = true) : ((s.restartChan i).chan i).stage = .pumpWait := by
  have inRange : i < s.outputs.channels.length := State.lt_of_stage_ne_off (by simp [held])
  unfold State.restartChan
  rw [if_pos (by simp [held, on, may]), State.chan_updChan _ _ _ inRange]

theorem foldl_restartChan_of_not_mem (l : List Nat) (s : State) (out : i ∉ l) : SameGate i s (l.foldl State.restartChan s) := by
  induction l generalizing s with
  | nil => exact ⟨rfl, rfl⟩
  | cons j l ih =>
    rw [List.mem_cons, not_or] at out
    obtain ⟨chan, may⟩ := ih (s.restartChan j) out.2
    obtain ⟨chan', may'⟩ := State.restartChan_other (s := s) (Ne.symm out.1)
    exact ⟨chan.trans chan', may.trans may'⟩

theorem foldl_restartChan_waits (l : List Nat) (s : State) (once : l.Nodup) (h : i ∈ l) (held : (s.chan i).stage = .held)
    (on : (s.chan i).command = true) (may : s.mayTurnOn i = true) :
    ((l.foldl State.restartChan s).chan i).stage = .pumpWait := by
  induction l generalizing s with
  | nil => cases h
  | cons j l ih =>
    obtain ⟨out, once⟩ := List.nodup_cons.mp once
    rw [List.foldl_cons]
    rcases List.mem_cons.mp h with rfl | h
    · rw [(foldl_restartChan_of_not_mem l _ out).1, State.restartChan_waits held on may]
    · have ne : j ≠ i := by rintro rfl; exact out h
      obtain ⟨chan, may'⟩ := State.restartChan_other (s := s) ne
      exact ih _ once h (by rw [chan, held]) (by rw [chan, on]) (by rw [may', may])

theorem foldl_restartChan_vswOk (l : List Nat) (s : State) :
    (l.foldl State.restartChan s).outputs.vswOk = s.outputs.vswOk := by
  induction l generalizing s with
  | nil => rfl
  | cons j l ih => rw [List.foldl_cons, ih, State.restartChan_vswOk]

theorem execVswRecovered_run (low : s.outputs.vswOk = false) :
    exec .vswRecovered s = .next (s.updOutputs fun o => { o with vswOk := true }).restartHeld := by
  simp [exec, execVswRecovered, low]

theorem pumpRestart_conducts {inrush : Bool} {w : Nat} (dipped : (s.chan ch.val).stage = .dipped inrush)
    (on : (s.chan ch.val).command = true) :
    Runs (.pumpRestart ch w) s fun t =>
      (chanRole s.cfg ch.val = .coil →
        t.chan ch.val = { s.chan ch.val with stage := .opening, onAt := some s.now }) ∧
      (chanRole s.cfg ch.val ≠ .coil → s.supply.lowest = true → t.chan ch.val = { s.chan ch.val with stage := .held }) ∧
      (chanRole s.cfg ch.val ≠ .coil → s.supply.lowest = false →
        ¬ (inrush = true ∧ w < windowUs (chanRole s.cfg ch.val) ∧ windowUs (chanRole s.cfg ch.val) < 2 * w) →
        t.chan ch.val = { s.chan ch.val with stage := .opening, onAt := some s.now }) ∧
      (chanRole s.cfg ch.val ≠ .coil → s.supply.lowest = false → s.faults.length = 18 →
        (inrush = true ∧ w < windowUs (chanRole s.cfg ch.val) ∧ windowUs (chanRole s.cfg ch.val) < 2 * w) →
        FencedOff (t.chan ch.val) ∧ t.has .out 7 = true) := by
  have inRange : ch.val < s.outputs.channels.length := State.lt_of_stage_ne_off (by simp [dipped])
  have conducts : ((s.pumpReleased (ch.val / 2)).gateOn ch.val 3).chan ch.val =
      { s.chan ch.val with stage := .opening, onAt := some s.now } := State.chan_gateOn inRange
  refine runs_next (execPumpRestart_run dipped on) ⟨fun coil => ?_, fun other lowest => ?_, fun other supplied outside => ?_,
    fun other supplied hf inside => ?_⟩
  · rw [if_pos coil, conducts]
  · rw [if_neg other, if_pos lowest]
    exact State.chan_updChan (s.pumpReleased (ch.val / 2)) _ _ inRange
  · rw [if_neg other, supplied, if_neg Bool.false_ne_true, if_neg (by simpa [and_assoc] using outside), conducts]
  · obtain ⟨short, within, late⟩ := inside
    rw [if_neg other, supplied, if_neg Bool.false_ne_true, if_pos (by simp [short, within, late])]
    exact ⟨State.chan_fenceChan inRange, (State.fenceChan_has (s := s.pumpReleased (ch.val / 2)) hf ch.isLt (by decide)).1⟩

theorem vswRecovered_restarts (low : s.outputs.vswOk = false) :
    Runs .vswRecovered s fun t =>
      Keeps [.outputs, .meas] s t ∧ t.outputs.vswOk = true ∧
      ∀ i, i < 6 → (s.chan i).stage = .held → (s.chan i).command = true →
        { s with outputs := { s.outputs with vswOk := true } }.mayTurnOn i = true → (t.chan i).stage = .pumpWait := by
  refine runs_next (execVswRecovered_run low) ⟨?_, ?_, fun i hi held on may => ?_⟩
  · simp (disch := decide) only [State.restartHeld_keeps, State.updOutputs_keeps, Keeps.refl]
  · rw [State.restartHeld_eq, foldl_restartChan_vswOk]
    rfl
  · rw [State.restartHeld_eq]
    exact foldl_restartChan_waits _ _ List.nodup_range (List.mem_range.mpr hi) held on may

end

/-- Settles O33: each command writes one channel, and the return of VSW starts the channels one after the other, none of which
the others touch. -/
theorem channelsConduct : Obligations.ChannelsConduct := by
  unfold Obligations.ChannelsConduct
  intro s ch
  have lt (st : ChanStage) (h : (s.chan ch.val).stage = st) (ne : st ≠ .off) : ch.val < s.outputs.channels.length :=
    State.lt_of_stage_ne_off (h ▸ ne)
  refine ⟨fun waits on allowed => ?_, fun c hc opening => ?_, fun waits on => ?_,
    fun inrush w dipped on => pumpRestart_conducts dipped on, vswRecovered_restarts⟩
  · exact runs_next (execGateTurnOn_run waits on allowed) ⟨State.gateOn_frame,
      State.chan_gateOn (lt _ waits (by decide)), fun j other => State.chan_gateOn_ne (Ne.symm other)⟩
  · exact runs_next (exec_windowEnd hc opening) ⟨(State.updChan_keeps (by decide) _ _).mpr (Keeps.refl _ s),
      State.chan_updChan _ _ _ (lt _ opening (by decide)), fun j other => State.chan_updChan_ne _ _ _ _ (Ne.symm other)⟩
  · refine runs_next (execOvercurrentRetry_run waits on) ?_
    split
    · exact ⟨State.gateOn_frame, State.chan_gateOn (lt _ waits (by decide))⟩
    · exact ⟨(State.updChan_keeps (by decide) _ _).mpr (Keeps.refl _ s), State.chan_updChan _ _ _ (lt _ waits (by decide))⟩

/-! ### Coils turned off -/

section
variable {s t u : State} {i j rule : Nat}

/-- Channel `i` does not conduct and has no command. -/
def Uncommanded (s : State) (i : Nat) : Prop := (s.chan i).isOn = false ∧ (s.chan i).command = false

theorem Uncommanded.of_chan (h : Uncommanded s i) (same : t.chan i = s.chan i) : Uncommanded t i := by
  unfold Uncommanded at *
  rwa [same]

theorem State.updChan_uncommanded {f : Channel → Channel} (dark : ∀ c, (f c).isOn = false ∧ (f c).command = false) :
    Uncommanded (s.updChan i f) i := by
  unfold Uncommanded
  by_cases inRange : i < s.outputs.channels.length
  · rw [State.chan_updChan _ _ _ inRange]
    exact dark _
  · rw [State.chan_of_length_le (by simpa using Nat.le_of_not_lt inRange)]
    exact ⟨rfl, rfl⟩

/-- A channel whose command is withdrawn. -/
theorem State.commandOff_uncommanded : Uncommanded (s.commandOff i rule) i :=
  State.updChan_uncommanded fun _ => ⟨rfl, rfl⟩

theorem State.chan_commandOff_ne (h : i ≠ j) : (s.commandOff i rule).chan j = s.chan j := by
  unfold State.commandOff
  dsimp only
  rw [State.chan_updChan_ne _ _ _ _ h]
  split
  · exact (State.traceOut_only false).chan (by decide) j
  · rfl

theorem Uncommanded.commandOff (h : Uncommanded s i) : Uncommanded (s.commandOff j rule) i := by
  by_cases ji : j = i
  · exact ji ▸ State.commandOff_uncommanded
  · exact h.of_chan (State.chan_commandOff_ne ji)

theorem foldl_commandOff_uncommanded (c : Nat → Bool) (l : List Nat) (s : State)
    (h : Uncommanded s i ∨ i ∈ l ∧ c i = true) :
    Uncommanded (l.foldl (fun t j => if c j then t.commandOff j rule else t) s) i := by
  induction l generalizing s with
  | nil => exact h.resolve_right (by simp)
  | cons j l ih =>
    rw [List.foldl_cons]
    refine ih _ ?_
    rcases h with off | ⟨at_, coil⟩
    · left
      split
      · exact off.commandOff
      · exact off
    · rcases List.mem_cons.mp at_ with rfl | later
      · left
        rw [if_pos coil]
        exact State.commandOff_uncommanded
      · exact .inr ⟨later, coil⟩

/-- The coils are off and uncommanded after a rule that turns them off (R444, R518). -/
theorem State.coilsOff_uncommanded (hi : i < 3) (coil : chanRole s.cfg i = .coil) : Uncommanded (s.coilsOff rule) i := by
  have off := foldl_commandOff_uncommanded (rule := rule) (i := i) (fun j => chanRole s.cfg j = .coil) (List.range 3) s
    (.inr ⟨List.mem_range.mpr hi, by simp [coil]⟩)
  simpa only [State.coilsOff, decide_eq_true_eq] using off

end

/-! ### A change of the interlock -/

section
variable {s t u : State} {i : Nat} {before : Word}

/-- The state of the loop itself, which what follows a change of it leaves alone. -/
structure SameLoops (s t : State) : Prop where
  openA : t.safety.openA = s.safety.openA
  openB : t.safety.openB = s.safety.openB
  crossShort : t.safety.crossShort = s.safety.crossShort
  srcFault : t.safety.srcFault = s.safety.srcFault
  crossA : t.safety.crossA = s.safety.crossA

theorem SameLoops.refl (s : State) : SameLoops s s := ⟨rfl, rfl, rfl, rfl, rfl⟩

theorem SameLoops.of_safety (h : t.safety = s.safety) : SameLoops s t := by constructor <;> rw [h]

theorem SameLoops.trans (h : SameLoops s t) (k : SameLoops t u) : SameLoops s u :=
  ⟨k.openA.trans h.openA, k.openB.trans h.openB, k.crossShort.trans h.crossShort, k.srcFault.trans h.srcFault,
    k.crossA.trans h.crossA⟩

theorem SameLoops.loopOpen (h : SameLoops s t) (ch : Loop) : t.loopOpen ch = s.loopOpen ch := by
  cases ch
  · exact h.openA
  · exact h.openB

theorem SameLoops.interlockClosed (h : SameLoops s t) : t.interlockClosed = s.interlockClosed := by
  simp only [State.interlockClosed, h.openA, h.openB, h.crossShort, h.srcFault]

/-- What an interlock that is not closed brings about: a trip, an opened string, or nothing (R498, R518). -/
def State.interlockActs (s : State) : State :=
  if s.interlockClosed then s else if s.isDealer then s.trip none else if s.isHead then s.headOpens else s

theorem State.interlockChanged_eq : s.interlockChanged before =
    if s.interlockActs.interlockWord = before then s.interlockActs else s.interlockActs.sendInterlock := rfl

theorem State.openPack_safety (r : Nat) : (s.openPack r).safety = s.safety :=
  ((State.openPack_keeps (G := [.logs, .outputs, .meas, .services, .pins]) (by decide) r).mpr (Keeps.refl _ s)).group .safety
    (by decide)

theorem State.headOpens_safety : s.headOpens.safety = { s.safety with refuse := true } := by
  have coils : Keeps [.logs, .outputs, .meas] s (s.coilsOff 1) := (State.coilsOff_keeps (by decide) 1).mpr (Keeps.refl _ s)
  have same : (s.coilsOff 1).safety = s.safety := coils.group .safety (by decide)
  unfold State.headOpens
  rw [State.updSafety_safety, same]

theorem State.interlockActs_same : SameLoops s s.interlockActs := by
  unfold State.interlockActs
  split
  · exact .refl s
  · split
    · exact .of_safety (State.openPack_safety 1)
    · split
      · constructor <;> rw [State.headOpens_safety]
      · exact .refl s

theorem State.interlockActs_frame : Keeps [.logs, .outputs, .meas, .services, .pins, .safety] s s.interlockActs := by
  unfold State.interlockActs
  split
  · exact Keeps.refl _ s
  · split
    · exact (State.openPack_keeps (by decide) 1).mpr (Keeps.refl _ s)
    · split
      · exact (State.headOpens_keeps (by decide)).mpr (Keeps.refl _ s)
      · exact Keeps.refl _ s

theorem State.interlockActs_dealer (opened : s.interlockClosed = false) (dealer : s.isDealer = true) :
    s.interlockActs.services.pack = .opened ∧ s.interlockActs.pins.ready = false := by
  unfold State.interlockActs
  rw [opened, dealer, if_neg Bool.false_ne_true, if_pos rfl]
  exact State.openPack_pack s 1

theorem State.isDealer_of_isHead (head : s.isHead = true) : s.isDealer = false := by
  have role : s.cfg.role = .stringHead := by simpa [State.isHead] using head
  simp [State.isDealer, role]

theorem State.interlockActs_head (opened : s.interlockClosed = false) (head : s.isHead = true) :
    s.interlockActs = s.headOpens := by
  unfold State.interlockActs
  rw [opened, State.isDealer_of_isHead head, head]
  rfl

theorem State.sendInterlock_frame : Keeps [.safety, .logs, .portN, .portS] s s.sendInterlock :=
  (State.sendInterlock_keeps (by decide)).mpr (Keeps.refl _ s)

theorem State.sendInterlock_safety : s.sendInterlock.safety = { s.safety with ilkDeals := 0 } := by
  unfold State.sendInterlock
  dsimp only
  split
  · exact ((State.sendTrumpWords_keeps (G := [.logs, .portN, .portS]) (by decide) _).mpr (Keeps.refl _ _)).group .safety
      (by decide)
  · rfl

theorem State.sendInterlock_same : SameLoops s s.sendInterlock := by constructor <;> rw [State.sendInterlock_safety]

/-- What follows a change leaves what its acts leave, but for the TRUMP that reports it. -/
theorem State.interlockChanged_after :
    Keeps [.safety, .logs, .portN, .portS] s.interlockActs (s.interlockChanged before) ∧
      (s.interlockChanged before).safety.refuse = s.interlockActs.safety.refuse ∧
      SameLoops s (s.interlockChanged before) := by
  rw [State.interlockChanged_eq]
  split
  · exact ⟨Keeps.refl _ _, rfl, State.interlockActs_same⟩
  · exact ⟨State.sendInterlock_frame, by rw [State.sendInterlock_safety],
      State.interlockActs_same.trans State.sendInterlock_same⟩

theorem State.interlockChanged_frame :
    Keeps [.safety, .logs, .outputs, .meas, .services, .pins, .portN, .portS] s (s.interlockChanged before) :=
  (State.interlockActs_frame.mono (by decide)).trans (State.interlockChanged_after.1.mono (by decide))

theorem State.interlockChanged_dealer (opened : s.interlockClosed = false) (dealer : s.isDealer = true) :
    (s.interlockChanged before).services.pack = .opened ∧ (s.interlockChanged before).pins.ready = false := by
  obtain ⟨pack, ready⟩ := State.interlockActs_dealer opened dealer
  obtain ⟨later, -, -⟩ := State.interlockChanged_after (s := s) (before := before)
  rw [show _ = _ from later.group .services (by decide), show _ = _ from later.group .pins (by decide)]
  exact ⟨pack, ready⟩

theorem State.interlockChanged_head (opened : s.interlockClosed = false) (head : s.isHead = true) :
    (s.interlockChanged before).safety.refuse = true ∧
      ∀ i, i < 3 → chanRole s.cfg i = .coil → Uncommanded (s.interlockChanged before) i := by
  obtain ⟨later, refuse, -⟩ := State.interlockChanged_after (s := s) (before := before)
  have acts := State.interlockActs_head opened head
  refine ⟨refuse.trans ?_, fun i hi coil => ?_⟩
  · rw [acts, State.headOpens_safety]
  · refine Uncommanded.of_chan (s := s.headOpens) ?_ ((later.chan (by decide) i).trans (by rw [acts]))
    exact State.coilsOff_uncommanded hi coil

/-! ### Its commands -/

/-- A channel reads open (R504, R507). -/
def noteOpen (ch : Loop) (now : Nat) (f : Safety) : Safety :=
  let f := setLoop ch true f
  { f with
    closedAt := none
    qualified := false
    bothSince := if f.openA && f.openB then some now else none
    afterPend := f.openA && f.openB && !f.untilBoot }

theorem execInterlockOpen_run {ch : Loop} (runs : s.interlockRuns = true) (closed : s.loopOpen ch = false) :
    exec (.interlockOpen ch) s = .next ((s.updSafety (noteOpen ch s.now)).interlockChanged s.interlockWord) := by
  simp only [exec, execInterlockOpen, runs, closed, Bool.not_true, Bool.or_self, Bool.false_eq_true, if_false]
  rfl

theorem State.noteOpen_loop (ch : Loop) (n : Nat) :
    (s.updSafety (noteOpen ch n)).loopOpen ch = true ∧ (s.updSafety (noteOpen ch n)).interlockClosed = false := by
  cases ch
  · exact ⟨rfl, rfl⟩
  · exact ⟨rfl, by simp [State.interlockClosed, noteOpen, setLoop]⟩

/-- A channel reads closed again (R504, R507). -/
def State.noteClosed (s : State) (ch : Loop) : State :=
  let hit := s.safety.afterPend && s.safety.bothSince.any fun t => s.passed t 100
  let s := s.updSafety fun f => { setLoop ch false f with bothSince := none, qualified := f.qualified || hit }
  s.updSafety fun f => { f with closedAt := if s.interlockClosed then some s.now else none }

theorem execInterlockClosed_run {ch : Loop} (runs : s.interlockRuns = true) (opened : s.loopOpen ch = true) :
    exec (.interlockClosed ch) s = .next ((s.noteClosed ch).interlockChanged s.interlockWord) := by
  simp only [exec, execInterlockClosed, runs, opened, Bool.not_true, Bool.or_self, Bool.false_eq_true, if_false]
  rfl

theorem State.noteClosed_loop (ch : Loop) : (s.noteClosed ch).loopOpen ch = false := by cases ch <;> rfl

end

section
variable {s : State}

/-! ### Test pulses -/

/-- Of the three parts of the interlock's word, a fault that comes up changes it. -/
theorem interlockWord_of_fault {u : State} (openA : u.safety.openA = s.safety.openA) (openB : u.safety.openB = s.safety.openB)
    (keeper : u.keeper = s.keeper) (was : (s.safety.crossShort || s.safety.srcFault) = false)
    (now : (u.safety.crossShort || u.safety.srcFault) = true) : u.interlockWord ≠ s.interlockWord := by
  unfold State.interlockWord
  rw [openA, openB, keeper, was, now]
  cases s.safety.openA || s.safety.openB <;> cases s.keeper.demand <;> decide

/-- The second bad readback of source A in a row faults it (R506). -/
def State.sourceFaulted (s : State) : State :=
  ((s.updSafety fun f => { f with srcA := 2 }).updSafety fun f => { f with srcFault := true }).raise .superv 11

theorem State.judgeSource_second {i o v : Nat} (once : s.safety.srcA = 1) (supplied : 15000 ≤ v) (bad : 1000 < i ∨ o < 10000) :
    s.judgeSource .a i o v = s.sourceFaulted := by
  have judged : ¬ v < 15000 := by omega
  have wrong : (1000 < i || o < 10000 : Bool) = true := by simpa using bad
  simp only [State.judgeSource, judged, wrong, once, if_false, if_true]
  rfl

theorem State.sourceFaulted_safety : s.sourceFaulted.safety = { s.safety with srcA := 2, srcFault := true } :=
  ((State.raise_keeps (G := [.logs, .dev, .outputs, .meas, .balance, .fan, .pins, .portN, .portS, .services, .keeper, .vehicle,
    .ring, .faults]) (by decide) .superv 11).mpr (Keeps.refl _ _)).group .safety (by decide)

theorem execTestPulse_run {src : Loop} {a b : Bool} {i o v : Nat} (runs : s.interlockRuns = true)
    (changed : ((s.judgeSource src i o v).judgeSamples src a b).interlockWord ≠ s.interlockWord) :
    exec (.testPulse src a b i o v) s =
      .next (((s.judgeSource src i o v).judgeSamples src a b).interlockChanged s.interlockWord) := by
  simp only [exec, execTestPulse, runs, Bool.not_true, Bool.false_eq_true, if_false, if_neg changed]

theorem execTestPulse_unchanged {src : Loop} {a b : Bool} {i o v : Nat} (runs : s.interlockRuns = true)
    (same : ((s.judgeSource src i o v).judgeSamples src a b).interlockWord = s.interlockWord) :
    exec (.testPulse src a b i o v) s = .next ((s.judgeSource src i o v).judgeSamples src a b) := by
  simp only [exec, execTestPulse, runs, Bool.not_true, Bool.false_eq_true, if_false, if_pos same]

/-- The samples of the TPA pulse are held for the TPB pulse (R505). -/
theorem State.judgeSamples_a (a b : Bool) :
    SameLoops s (s.judgeSamples .a a b) ∧ Keeps [.safety] s (s.judgeSamples .a a b) :=
  ⟨⟨rfl, rfl, rfl, rfl, rfl⟩, (State.updSafety_keeps (by decide) _).mpr (Keeps.refl _ s)⟩

theorem State.sourceFaulted_frame : Keeps [.safety, .faults, .logs, .pins] s s.sourceFaulted := by
  simp (disch := decide) only [State.sourceFaulted, State.raise_keeps_calm, State.updSafety_keeps, Keeps.refl]

theorem State.sourceFaulted_reports (hf : s.faults.length = 18) :
    s.sourceFaulted.has .superv 11 = true ∧ StickyKept s s.sourceFaulted :=
  State.raise_reports (s := s) (u := (s.updSafety fun f => { f with srcA := 2 }).updSafety fun f => { f with srcFault := true })
    rfl hf (by decide)

theorem testPulse_faults {a b : Bool} {i o v : Nat} (runs : s.interlockRuns = true) (hf : s.faults.length = 18)
    (once : s.safety.srcA = 1) (sound : s.safety.srcFault = false) (short : s.safety.crossShort = false) (supplied : 15000 ≤ v)
    (bad : 1000 < i ∨ o < 10000) :
    Runs (.testPulse .a a b i o v) s fun t =>
      t.safety.srcFault = true ∧ t.interlockClosed = false ∧ t.has .superv 11 = true ∧ StickyKept s t ∧
      (s.isDealer = true → t.services.pack = .opened) := by
  have judged := State.judgeSource_second (i := i) (o := o) once supplied bad
  obtain ⟨sampled, only⟩ := State.judgeSamples_a (s := s.sourceFaulted) a b
  have frame := (State.sourceFaulted_frame (s := s)).trans (only.mono (by decide))
  obtain ⟨bit, sticky⟩ := State.sourceFaulted_reports hf
  have faulted := sampled.srcFault.trans (congrArg Safety.srcFault State.sourceFaulted_safety)
  have opened : (s.sourceFaulted.judgeSamples .a a b).interlockClosed = false := by simp [State.interlockClosed, faulted]
  have changed : (s.sourceFaulted.judgeSamples .a a b).interlockWord ≠ s.interlockWord :=
    interlockWord_of_fault (sampled.openA.trans (by rw [State.sourceFaulted_safety]))
      (sampled.openB.trans (by rw [State.sourceFaulted_safety])) (frame.group .keeper (by decide))
      (by simp [sound, short]) (by simp [faulted])
  have run := execTestPulse_run (a := a) (b := b) (i := i) (o := o) (v := v) (src := .a) runs (by rw [judged]; exact changed)
  rw [judged] at run
  obtain ⟨-, -, loops⟩ :=
    State.interlockChanged_after (s := s.sourceFaulted.judgeSamples .a a b) (before := s.interlockWord)
  have later := State.interlockChanged_frame (s := s.sourceFaulted.judgeSamples .a a b) (before := s.interlockWord)
  refine runs_next run ⟨loops.srcFault.trans faulted, loops.interlockClosed.trans opened, ?_, ?_, fun dealer => ?_⟩
  · exact (later.has (by decide) _ _).trans ((only.has (by decide) _ _).trans bit)
  · exact (sticky.trans (only.sticky (by decide))).trans (later.sticky (by decide))
  · exact (State.interlockChanged_dealer opened ((frame.isDealer (by decide)).trans dealer)).1

/-- The loop after a TPB pulse that finds a cross short on channel A (R505). -/
def State.shortFound (s : State) (sampleB : Bool) (f : Safety) : Safety :=
  { f with
    crossA := 2
    crossB := crossNext s.safety.crossB s.safety.halfB (s.judged .b) (sampleWrong true sampleB)
    halfA := none, halfB := none, crossShort := true }

/-- The second cycle in a row with a wrong sample of channel A is a cross short (R505). -/
theorem State.judgeSamples_short {a b : Bool} (once : s.safety.crossA = 1) (half : s.safety.halfA = some true)
    (judged : s.judged .a = true) : s.judgeSamples .b a b = (s.updSafety (s.shortFound b)).raise .superv 10 := by
  have twice (wrong : Bool) : crossNext 1 s.safety.halfA (s.judged .a) wrong = 2 := by
    simp [crossNext, half, judged]
  simp only [State.judgeSamples, State.raiseIf, twice, once, ne_eq, decide_true, Nat.reduceEqDiff, not_false_eq_true,
    Bool.and_self, Bool.true_or, Bool.or_true, if_true]
  rfl

theorem testPulse_crossShort {a b : Bool} {i o v : Nat} (runs : s.interlockRuns = true) (hf : s.faults.length = 18)
    (once : s.safety.crossA = 1) (half : s.safety.halfA = some true) (judged : s.judged .a = true) (low : v < 15000) :
    Runs (.testPulse .b a b i o v) s fun t =>
      t.safety.crossA = 2 ∧ t.safety.crossShort = true ∧ t.has .superv 10 = true ∧ StickyKept s t := by
  have samples := State.judgeSamples_short (a := a) (b := b) once half judged
  have unjudged : s.judgeSource .b i o v = s := by simp [State.judgeSource, low]
  have raised := State.raise_frame (s := s.updSafety (s.shortFound b)) (b := .superv) (i := 10) (by decide)
  have safety : ((s.updSafety (s.shortFound b)).raise .superv 10).safety = s.shortFound b s.safety :=
    raised.group .safety (by decide)
  obtain ⟨bit, sticky⟩ := State.raise_reports (s := s) (u := s.updSafety (s.shortFound b)) (b := .superv) (i := 10) rfl hf (by decide)
  by_cases same : ((s.updSafety (s.shortFound b)).raise .superv 10).interlockWord = s.interlockWord
  · have run := execTestPulse_unchanged (a := a) (b := b) (i := i) (o := o) (v := v) (src := .b) runs
      (by rw [unjudged, samples]; exact same)
    rw [unjudged, samples] at run
    exact runs_next run ⟨by rw [safety]; rfl, by rw [safety]; rfl, bit, sticky⟩
  · have run := execTestPulse_run (a := a) (b := b) (i := i) (o := o) (v := v) (src := .b) runs
      (by rw [unjudged, samples]; exact same)
    rw [unjudged, samples] at run
    have loops := (State.interlockChanged_after (s := (s.updSafety (s.shortFound b)).raise .superv 10) (before := s.interlockWord)).2.2
    have later := State.interlockChanged_frame (s := (s.updSafety (s.shortFound b)).raise .superv 10) (before := s.interlockWord)
    exact runs_next run ⟨loops.crossA.trans (by rw [safety]; rfl), loops.crossShort.trans (by rw [safety]; rfl),
      (later.has (by decide) _ _).trans bit, sticky.trans (later.sticky (by decide))⟩

/-! ### The INTERLOCK TRUMP -/

/-- A TRUMP joins the TRUMPs of an up port that is not fenced (R262). -/
theorem State.send_trumpQ {p : Port} {ws : List Word} (up : (s.port p).up = true) (free : (s.port p).fenced = false) :
    ((s.send p .trump ws).port p).trumpQ = (s.port p).trumpQ ++ [s.ownFrame p .trump ws] := by
  simp [State.send, State.queue, State.ownFrame, up, free]

/-- In an open chain a TRUMP leaves by the primary side (R266). -/
theorem State.sendTrumpWords_trumpQ {ws : List Word} (chain : s.closedRing = false) (up : (s.port s.ring.primary).up = true)
    (free : (s.port s.ring.primary).fenced = false) :
    ((s.sendTrumpWords ws).port s.ring.primary).trumpQ =
      (s.port s.ring.primary).trumpQ ++ [s.ownFrame s.ring.primary .trump ws] := by
  unfold State.sendTrumpWords
  extract_lets w traced
  have traces : Keeps [.logs] s traced := (State.trace_keeps (by decide) _ _).mpr (Keeps.refl _ s)
  have port : traced.port s.ring.primary = s.port s.ring.primary := traces.port _ (by decide) (by decide)
  have open_ : traced.closedRing = false := chain
  rw [open_, if_neg Bool.false_ne_true]
  have sent := State.send_trumpQ (s := traced) (p := s.ring.primary) (ws := ws) (by rw [port, up]) (by rw [port, free])
  rw [port] at sent
  exact sent

theorem execInterlockTrump_run (run : s.running = true) (head : s.isHead = true) (uses : s.usesInterlock = true)
    (pending : s.interlockWord ≠ 0) : exec .interlockTrump s = .next s.sendInterlock := by
  have some_ : ¬ s.interlockWord = 0#18 := pending
  simp [exec, execInterlockTrump, run, head, uses, some_]

/-- The INTERLOCK TRUMP of a String Head with its place in the ring (R521). -/
theorem State.sendInterlock_trumpQ (head : s.isHead = true) (set : s.ring.bitSet = true) (alive : s.dev.fatal = false)
    (chain : s.closedRing = false) (up : (s.port s.ring.primary).up = true) (free : (s.port s.ring.primary).fenced = false) :
    (s.sendInterlock.port s.ring.primary).trumpQ = (s.port s.ring.primary).trumpQ ++
      [s.ownFrame s.ring.primary .trump (trumpWords 0x0C 0 0 s.interlockWord (summaryWord s.faults) 0)] := by
  have sent := State.sendTrumpWords_trumpQ (s := s.updSafety fun f => { f with ilkDeals := 0 })
    (ws := trumpWords 0x0C 0 0 s.interlockWord (summaryWord s.faults) 0) chain (by simpa using up) (by simpa using free)
  have role : (s.updSafety fun f => { f with ilkDeals := 0 }).isHead = true := head
  unfold State.sendInterlock
  simp only [role, set, alive, State.updSafety_ring, State.updSafety_dev, Bool.and_self, Bool.not_false, if_true]
  rw [State.updSafety_port, State.updSafety_ring] at sent
  exact sent

end

/-- Settles O35: a change is noted before it acts, and what acts leaves the loop's state; the TRUMP that reports it touches the
ports alone. -/
theorem interlockIsSampled : Obligations.InterlockIsSampled := by
  unfold Obligations.InterlockIsSampled
  refine fun s => ⟨fun runs ch closed => ?_, fun runs ch opened => ?_, fun runs hf once sound short a b i o v supplied bad =>
      testPulse_faults runs hf once sound short supplied bad, fun runs hf once half judged a b i o v low =>
      testPulse_crossShort runs hf once half judged low, fun run head uses pending set alive chain up free => ?_⟩
  · obtain ⟨loop, opened⟩ := State.noteOpen_loop (s := s) ch s.now
    obtain ⟨-, -, loops⟩ := State.interlockChanged_after (s := s.updSafety (noteOpen ch s.now)) (before := s.interlockWord)
    have only : Keeps [.safety] s (s.updSafety (noteOpen ch s.now)) := (State.updSafety_keeps (by decide) _).mpr (Keeps.refl _ s)
    exact runs_next (execInterlockOpen_run runs closed) ⟨(only.mono (by decide)).trans State.interlockChanged_frame,
      (loops.loopOpen ch).trans loop, loops.interlockClosed.trans opened, State.interlockChanged_dealer opened,
      State.interlockChanged_head opened⟩
  · obtain ⟨-, -, loops⟩ := State.interlockChanged_after (s := s.noteClosed ch) (before := s.interlockWord)
    have only : Keeps [.safety] s (s.noteClosed ch) := by
      simp (disch := decide) only [State.noteClosed, State.updSafety_keeps, Keeps.refl]
    have frame : Keeps _ s _ := (only.mono (by decide)).trans (State.interlockChanged_frame (before := s.interlockWord))
    exact runs_next (execInterlockClosed_run runs opened) ⟨frame, (loops.loopOpen ch).trans (State.noteClosed_loop ch),
      congrArg Keeper.lockout (frame.group .keeper (by decide))⟩
  · exact runs_next (execInterlockTrump_run run head uses pending) ⟨State.sendInterlock_frame, State.sendInterlock_safety,
      State.sendInterlock_trumpQ head set alive chain up free⟩

end Sys2Proof.Machine

/-!
PROOFS. The rolling self-test and the memory test of a boot (chapter 19).
-/
namespace Sys2Proof.Machine

section
variable {s t u : State} {i k : Nat}

/-! ### A segment begins -/

/-- A slice that runs and whose turn it is keeps its turn (R571). -/
theorem State.sliceFrom_self (low : 1 ≤ k) (high : k ≤ 24) (runs : s.sliceRuns k = true) : s.sliceFrom k = k := by
  have all : (List.range 24).map (· + 1) = List.range' 1 24 := by decide
  have before : List.range' 1 24 = List.range' 1 (k - 1) ++ k :: List.range' (k + 1) (24 - k) := by
    rw [show k :: List.range' (k + 1) (24 - k) = List.range' k (25 - k) by
      rw [show 25 - k = (24 - k) + 1 by omega]; rfl]
    have joined := List.range'_append (s := 1) (m := k - 1) (n := 25 - k) (step := 1)
    rw [show 1 + 1 * (k - 1) = k by omega, show k - 1 + (25 - k) = 24 by omega] at joined
    exact joined.symm
  have none_ : (List.range' 1 (k - 1)).find? (fun j => decide (k ≤ j) && s.sliceRuns j) = none := by
    rw [List.find?_eq_none]
    intro j hj
    have := List.mem_range'_1.mp hj
    simp; omega
  unfold State.sliceFrom
  rw [all, before, List.find?_append, none_, List.find?_cons]
  simp [runs]

/-- The slice whose turn it is goes on where it was. -/
theorem State.takeTurn_bist (low : 1 ≤ s.bist.slice) (high : s.bist.slice ≤ 24) (runs : s.sliceRuns s.bist.slice = true) :
    s.takeTurn.bist.slice = s.bist.slice ∧ s.takeTurn.bist.done = s.bist.done ∧
      s.takeTurn.bist.lastDeal = s.bist.lastDeal ∧ s.takeTurn.bist.restDeal = s.bist.restDeal := by
  have turn := State.sliceFrom_self low high runs
  have some_ : s.bist.slice ≠ 0 := by omega
  simp only [State.takeTurn, State.updBist_bist, turn, if_neg some_, if_true, and_self]

/-- A segment begins: it runs, and the deal has its segment (R569, R572). -/
def beginSegment (d : Word) (b : Bist) : Bist :=
  { b with running := true, lastDeal := some d, taken := if b.slice ≤ 5 then b.slice else b.taken,
           restDeal := if b.slice ≤ 5 then some (d + 1) else b.restDeal }

theorem execBistSegment_run (rolls : s.rolling = true) (idle : s.bist.running = false) (low : 1 ≤ s.bist.slice)
    (high : s.bist.slice ≤ 24) (runs : s.sliceRuns s.bist.slice = true) (fresh : s.bist.lastDeal ≠ some s.bistDeal)
    (noRest : s.bist.restDeal ≠ some s.bistDeal)
    (noWire : ¬ (4 ≤ s.bist.slice ∧ s.bist.slice ≤ 6 ∧ s.wireTestDeal s.bistDeal = true)) (r565 : s.r565 = true)
    (supplied : s.supply.lowest = false) (noTrump : ¬ ((s.bist.slice = 13 ∨ s.bist.slice = 14) ∧ s.trumpHeld = true))
    (opened : s.windowOpen = true) :
    exec .bistSegment s = .next (s.takeTurn.updBist (beginSegment s.bistDeal)).segmentEffect := by
  obtain ⟨slice, -, lastDeal, restDeal⟩ := State.takeTurn_bist low high runs
  have deal : s.takeTurn.bistDeal = s.bistDeal := rfl
  have wire : s.takeTurn.wireTestDeal = s.wireTestDeal := rfl
  have checked : s.takeTurn.r565 = s.r565 := rfl
  have held : s.takeTurn.trumpHeld = s.trumpHeld := rfl
  have supply : s.takeTurn.supply = s.supply := rfl
  have window : s.takeTurn.windowOpen = s.windowOpen := by
    unfold State.windowOpen
    rw [slice]
    rfl
  have noWire' : ¬ (decide (4 ≤ s.bist.slice) && decide (s.bist.slice ≤ 6) && s.wireTestDeal s.bistDeal) = true := by
    simpa [and_assoc] using noWire
  have noTrump' : ¬ ((decide (s.bist.slice = 13) || decide (s.bist.slice = 14)) && s.trumpHeld) = true := by
    simpa using noTrump
  simp only [exec, execBistSegment, rolls, idle, Bool.not_true, Bool.or_self, Bool.false_eq_true, if_false, deal, lastDeal,
    fresh, restDeal, noRest, slice, wire, noWire', checked, r565, supply, supplied, held, Bool.eq_false_iff.mpr noTrump',
    window, opened]
  rfl

theorem bistSegment_begins (rolls : s.rolling = true) (idle : s.bist.running = false) (low : 1 ≤ s.bist.slice)
    (high : s.bist.slice ≤ 24) (runs : s.sliceRuns s.bist.slice = true) (fresh : s.bist.lastDeal ≠ some s.bistDeal)
    (noRest : s.bist.restDeal ≠ some s.bistDeal)
    (noWire : ¬ (4 ≤ s.bist.slice ∧ s.bist.slice ≤ 6 ∧ s.wireTestDeal s.bistDeal = true)) (r565 : s.r565 = true)
    (supplied : s.supply.lowest = false) (noTrump : ¬ ((s.bist.slice = 13 ∨ s.bist.slice = 14) ∧ s.trumpHeld = true))
    (opened : s.windowOpen = true) :
    Runs .bistSegment s fun t =>
      Keeps [.bist, .balance] s t ∧ t.bist.running = true ∧ t.bist.slice = s.bist.slice ∧ t.bist.done = s.bist.done ∧
      t.bist.lastDeal = some s.bistDeal ∧ (s.bist.slice ≤ 5 → t.bist.restDeal = some (s.bistDeal + 1)) := by
  obtain ⟨slice, done, -, -⟩ := State.takeTurn_bist low high runs
  have effect : Keeps [.balance] (s.takeTurn.updBist (beginSegment s.bistDeal))
      (s.takeTurn.updBist (beginSegment s.bistDeal)).segmentEffect := (State.segmentEffect_keeps (by decide)).mpr (Keeps.refl _ _)
  have bist := effect.group .bist (by decide)
  refine runs_next (execBistSegment_run rolls idle low high runs fresh noRest noWire r565 supplied noTrump opened)
    ⟨?_, congrArg Bist.running bist, (congrArg Bist.slice bist).trans slice, (congrArg Bist.done bist).trans done,
      congrArg Bist.lastDeal bist, fun window => (congrArg Bist.restDeal bist).trans (if_pos (slice.symm ▸ window))⟩
  simp (disch := decide) only [State.segmentEffect_keeps, State.updBist_keeps, State.takeTurn_keeps, Keeps.refl]

/-! ### A segment ends -/

/-- The segment is counted and its block is back (R569). -/
def State.segmentOver (s : State) : State := s.segmentRestore.updBist fun b => { b with running := false, done := b.done + 1 }

theorem State.segmentRestore_frame : Keeps [.balance] s s.segmentRestore :=
  (State.segmentRestore_keeps (by decide)).mpr (Keeps.refl _ s)

theorem State.segmentOver_frame : Keeps [.balance, .bist] s s.segmentOver :=
  (State.updBist_keeps (by decide) _).mpr (State.segmentRestore_frame.mono (by decide))

@[simp] theorem State.segmentOver_bist : s.segmentOver.bist = { s.bist with running := false, done := s.bist.done + 1 } := rfl

theorem execBistSegmentEnd_more (m : Bool) (runs : s.bist.running = true)
    (more : s.bist.done + 1 < sliceSegments s.bist.slice) : exec (.bistSegmentEnd m) s = .next s.segmentOver := by
  have short : s.segmentOver.bist.done < sliceSegments s.bist.slice := more
  unfold State.segmentOver at *
  simp only [exec, execBistSegmentEnd, runs, short, Bool.not_true, Bool.false_eq_true, if_false, if_true]

theorem execBistSegmentEnd_last (m : Bool) (runs : s.bist.running = true)
    (last : sliceSegments s.bist.slice ≤ s.bist.done + 1) :
    exec (.bistSegmentEnd m) s = .next
      (if m then s.segmentOver.sliceDone
       else if !s.bist.again then (s.segmentOver.updBist fun b => { b with done := 0, again := true }).raise .bist 1
       else if s.sliceFatal s.bist.slice then (s.segmentOver.raise .bist 7).bistFalls
       else (((s.segmentOver.raise .bist 4).bistFalls).fenceSlice s.bist.slice).sliceDone) := by
  have whole : ¬ s.segmentOver.bist.done < sliceSegments s.bist.slice := by simpa using last
  have again : s.segmentOver.bist.again = s.bist.again := rfl
  have fatal : s.segmentOver.sliceFatal = s.sliceFatal := rfl
  rw [← again, ← fatal]
  unfold State.segmentOver at *
  simp only [exec, execBistSegmentEnd, runs, whole, Bool.not_true, Bool.false_eq_true, if_false]

theorem State.sliceDone_bist : s.sliceDone.bist.running = s.bist.running ∧ s.sliceDone.bist.done = 0 ∧
    s.sliceDone.bist.again = false ∧ s.sliceDone.bist.fenced = s.bist.fenced := by
  simp only [State.sliceDone, State.updBist_bist]
  split <;> exact ⟨rfl, rfl, rfl, rfl⟩

theorem State.sliceDone_frame : Keeps [.bist] s s.sliceDone := (State.sliceDone_keeps (by decide)).mpr (Keeps.refl _ s)

/-! ### BIST_OK -/

theorem State.bistFalls_frame : Keeps [.pins] s s.bistFalls := (State.bistFalls_keeps (by decide)).mpr (Keeps.refl _ s)

/-- BIST_OK is low while one of BIST bits 3 to 7 is set. -/
theorem State.bistFalls_low (bit : s.has .bist i = true) (hi : i ∈ [3, 4, 5, 6, 7]) : s.bistFalls.pins.bistOk = false := by
  have masked : (faultOf s.faults .bist).sticky &&& 0x00F8 ≠ 0 := by
    intro zero
    have clear : ((faultOf s.faults .bist).sticky &&& 0x00F8).getLsbD i = (0 : BitVec 16).getLsbD i := by rw [zero]
    have bit : (faultOf s.faults .bist).sticky.getLsbD i = true := bit
    have mask : (0x00F8 : BitVec 16).getLsbD i = true := by
      have cases_ : ∀ j ∈ [3, 4, 5, 6, 7], (0x00F8 : BitVec 16).getLsbD j = true := by decide
      exact cases_ i hi
    rw [BitVec.getLsbD_and, bit, mask] at clear
    simp at clear
  unfold State.bistFalls
  rw [State.updPins_pins, if_pos masked]

theorem State.bistFalls_pins : s.bistFalls.pins = { s.pins with bistOk := s.bistFalls.pins.bistOk } := by
  unfold State.bistFalls
  rw [State.updPins_pins]
  split <;> rfl

theorem FatalState.bistFalls (h : FatalState s t) : FatalState s t.bistFalls := by
  have frame := State.bistFalls_frame (s := t)
  unfold FatalState LoadsOff at *
  rw [show _ = _ from frame.group .dev (by decide), show _ = _ from frame.group .outputs (by decide),
    show _ = _ from frame.group .balance (by decide), show _ = _ from frame.group .services (by decide),
    show _ = _ from frame.group .keeper (by decide), State.bistFalls_pins]
  exact h

theorem FatalState.of_role (h : FatalState u t) (role : u.isDealer = s.isDealer) : FatalState s t := by
  unfold FatalState at *
  rwa [role] at h

/-! ### What a fence leaves of BIST_OK -/

/-- The pin BIST_OK is as it was. -/
def SameBistOk (s t : State) : Prop := t.pins.bistOk = s.pins.bistOk

theorem SameBistOk.of_pins (h : t.pins = s.pins) : SameBistOk s t := congrArg Pins.bistOk h

theorem SameBistOk.trans (h : SameBistOk s t) (k : SameBistOk t u) : SameBistOk s u := Eq.trans k h

theorem SameBistOk.foldl {α : Type} {f : State → α → State} (h : ∀ t x, SameBistOk t (f t x)) (l : List α) (s : State) :
    SameBistOk s (l.foldl f s) := by
  induction l generalizing s with
  | nil => exact .of_pins rfl
  | cons x l ih => exact (h s x).trans (ih _)

theorem State.raiseAlso_bistOk (b : Block) (h : calm b i = true) (l : List Nat) : SameBistOk s (s.raiseAlso b i l) := by
  have bits : Keeps [.faults, .logs] s (s.raiseBits b i l) := (State.raiseBits_keeps (by decide) _ _ _).mpr (Keeps.refl _ s)
  have pins : (s.raiseBits b i l).pins = s.pins := bits.group .pins (by decide)
  unfold State.raiseAlso SameBistOk
  dsimp only
  rw [if_neg (classOf_calm h), State.faultPin, State.updPins_pins, pins]
  split <;> rfl

theorem State.openPack_bistOk (r : Nat) : SameBistOk s (s.openPack r) := by
  have before : Keeps [.logs, .services, .outputs, .meas] s ((s.coilsOff r).setPack .opened).stringsOpen := by
    simp (disch := decide) only [State.stringsOpen_keeps, State.setPack_keeps, State.coilsOff_keeps, Keeps.refl]
  have pins : (((s.coilsOff r).setPack .opened).stringsOpen).pins = s.pins := before.group .pins (by decide)
  unfold State.openPack SameBistOk
  rw [State.updServices_pins, State.updPins_pins, pins]

theorem State.raiseIf_bistOk (c : Bool) (b : Block) (h : calm b i = true) : SameBistOk s (s.raiseIf c b i) := by
  unfold State.raiseIf
  split
  · exact State.raiseAlso_bistOk b h []
  · exact .of_pins rfl

theorem State.reportJob_bistOk (j : Job) : SameBistOk s (s.reportJob j) := by
  unfold State.reportJob
  extract_lets ticks secs e logged traced full raised
  have noted : Keeps [.logs] s traced := by
    simp (disch := decide) only [traced, logged, State.traceJob_keeps, State.log_keeps, Keeps.refl]
  have same : SameBistOk s traced := .of_pins (noted.group .pins (by decide))
  exact same.trans (u := raised) (State.raiseIf_bistOk full .raivo (by decide))

theorem State.endJob_bistOk (j : Job) : SameBistOk s (s.endJob j) := by
  unfold State.endJob
  dsimp only
  split
  · exact State.reportJob_bistOk (s := s.updBalance (dropJob j)) j
  · exact .of_pins rfl

theorem State.endJobs_bistOk (c : Job → Bool) : SameBistOk s (s.endJobs c) := SameBistOk.foldl (fun _ => State.endJob_bistOk) _ s

theorem State.fenceChan_bistOk (bitNo : Nat) : SameBistOk s (s.fenceChan i bitNo) := by
  have before : Keeps [.logs, .outputs, .meas] s
      ((s.ruleOff i 2 .off).updChan i fun c => { c with fenced := true, command := false }) := by
    simp (disch := decide) only [State.updChan_keeps, State.ruleOff_keeps, Keeps.refl]
  exact SameBistOk.trans (.of_pins (before.group .pins (by decide)))
    (State.raiseAlso_bistOk .out (calm_of_block (by decide)) _)

theorem State.coreGone_bistOk : SameBistOk s s.coreGone := by
  have later (v : State) : SameBistOk v ((v.commandOff 3 1).updOutputs fun o => { o with heater := false }).fanCoreLost := by
    have keeps : Keeps [.logs, .outputs, .meas, .fan] v
        ((v.commandOff 3 1).updOutputs fun o => { o with heater := false }).fanCoreLost := by
      simp (disch := decide) only [State.fanCoreLost_keeps, State.updOutputs_keeps, State.commandOff_keeps, Keeps.refl]
    exact .of_pins (keeps.group .pins (by decide))
  unfold State.coreGone
  extract_lets fenced held
  refine SameBistOk.trans (t := held) ?_ (later held)
  show SameBistOk fenced held
  simp only [held]
  split
  · unfold State.coreLost
    split
    · exact .of_pins rfl
    · split
      · exact .of_pins rfl
      · exact SameBistOk.trans (.of_pins rfl) (State.openPack_bistOk 1)
  · exact .of_pins rfl

/-- A fence leaves BIST_OK, which falls with the mismatch before it (R580). -/
theorem State.fenceSlice_bistOk : SameBistOk s (s.fenceSlice k) := by
  have pair (l : List Nat) (v : State) : SameBistOk v (l.foldl (fun t i => t.fenceChan i (10 + i)) v) :=
    SameBistOk.foldl (fun _ j => State.fenceChan_bistOk (10 + j)) l v
  have jobs (v : State) (f : Balance → Balance) (c : Job → Bool) : SameBistOk v ((v.updBalance f).endJobs c) :=
    SameBistOk.trans (.of_pins rfl) (State.endJobs_bistOk c)
  refine SameBistOk.trans (.of_pins rfl : SameBistOk s (s.updBist fun b => { b with fenced := b.fenced ++ [k] })) ?_
  unfold State.fenceSlice
  dsimp only
  split
  · exact jobs _ _ _
  · exact jobs _ _ _
  · exact jobs _ _ _
  · exact jobs _ _ _
  · exact pair _ _
  · exact pair _ _
  · exact pair _ _
  · exact .of_pins rfl
  · exact State.coreGone_bistOk
  · exact .of_pins rfl
  · exact .of_pins rfl

theorem State.fenceSlice_bist : (s.fenceSlice k).bist = { s.bist with fenced := s.bist.fenced ++ [k] } := by
  have later : Keeps [.balance, .logs, .faults, .pins, .outputs, .meas, .fan, .dev, .services, .vehicle]
      (s.updBist fun b => { b with fenced := b.fenced ++ [k] }) (s.fenceSlice k) := by
    have fence (v : State) (j : Nat) : Keeps [.outputs, .meas, .faults, .logs, .pins] v (v.fenceChan j (10 + j)) :=
      (State.fenceChan_keeps (by decide) j (10 + j)).mpr (Keeps.refl _ v)
    unfold State.fenceSlice
    dsimp only
    split
    all_goals simp (disch := decide) only [State.endJobs_keeps, State.updBalance_keeps, State.updFan_keeps,
      State.coreGone_keeps, State.updVehicle_keeps, keeps_foldl_iff fence, Keeps.refl]
  exact later.group .bist (by decide)

theorem State.fenceSlice_mono : StickyKept s (s.fenceSlice k) :=
  (State.fenceSlice_sound k (Sound.refl true true s)).sticky rfl

end

section
variable {s t u : State} {i k b rows : Nat}

/-! ### The end of a slice -/

theorem State.segmentOver_length : s.segmentOver.faults.length = s.faults.length := rfl

theorem State.segmentOver_mono : StickyKept s s.segmentOver := State.segmentOver_frame.sticky (by decide)

theorem bistSegmentEnd_repeats (hf : s.faults.length = 18) (runs : s.bist.running = true)
    (last : sliceSegments s.bist.slice ≤ s.bist.done + 1) (first : s.bist.again = false) :
    Runs (.bistSegmentEnd false) s fun t =>
      t.bist.running = false ∧ t.bist.done = 0 ∧ t.bist.again = true ∧ t.bist.slice = s.bist.slice ∧ t.has .bist 1 = true ∧
      StickyKept s t ∧ Keeps [.bist, .balance, .faults, .logs, .pins] s t := by
  have run := execBistSegmentEnd_last false runs last
  rw [first, if_neg Bool.false_ne_true, Bool.not_false, if_pos rfl] at run
  have only : Keeps [.balance, .bist] s (s.segmentOver.updBist fun b => { b with done := 0, again := true }) :=
    (State.updBist_keeps (by decide) _).mpr State.segmentOver_frame
  have raised := State.raise_frame (s := s.segmentOver.updBist fun b => { b with done := 0, again := true }) (b := .bist) (i := 1)
    (by decide)
  have bist := raised.group .bist (by decide)
  obtain ⟨bit, sticky⟩ := State.raise_reports (b := .bist) (i := 1) (only.group .faults (by decide)) hf (by decide)
  exact runs_next run ⟨congrArg Bist.running bist, congrArg Bist.done bist, congrArg Bist.again bist,
    (congrArg Bist.slice bist).trans rfl,
    bit, sticky, (only.mono (by decide)).trans (raised.mono (by decide))⟩

theorem bistSegmentEnd_fatal (hf : s.faults.length = 18) (runs : s.bist.running = true)
    (last : sliceSegments s.bist.slice ≤ s.bist.done + 1) (again : s.bist.again = true) (alive : s.dev.fatal = false)
    (fatal : s.sliceFatal s.bist.slice = true) :
    Runs (.bistSegmentEnd false) s fun t =>
      FatalState s t ∧ t.has .bist 7 = true ∧ t.pins.bistOk = false ∧ StickyKept s t := by
  have run := execBistSegmentEnd_last false runs last
  rw [again, fatal, if_neg Bool.false_ne_true, Bool.not_true, if_neg Bool.false_ne_true, if_pos rfl] at run
  have entered : FatalState s.segmentOver (s.segmentOver.raise .bist 7) :=
    State.raise_fatal ((congrArg Dev.fatal (State.segmentOver_frame.group .dev (by decide))).trans alive) rfl
  obtain ⟨bit, sticky⟩ := State.raise_reports (b := .bist) (i := 7) (State.segmentOver_frame.group .faults (by decide)) hf
    (by decide)
  have falls := State.bistFalls_frame (s := s.segmentOver.raise .bist 7)
  exact runs_next run ⟨entered.bistFalls.of_role (State.segmentOver_frame.isDealer (by decide)),
    (falls.has (by decide) _ _).trans bit, State.bistFalls_low bit (by decide), sticky.trans (falls.sticky (by decide))⟩

/-- The block of a slice that failed twice is fenced, with BIST_OK low (R580). -/
def State.sliceFails (s : State) (k : Nat) : State := ((s.raise .bist 4).bistFalls).fenceSlice k

theorem State.sliceFails_bist : (s.sliceFails k).bist = { s.bist with fenced := s.bist.fenced ++ [k] } := by
  have before : Keeps [.faults, .logs, .pins] s (s.raise .bist 4).bistFalls :=
    (State.raise_frame (by decide)).trans (State.bistFalls_frame.mono (by decide))
  have bist : (s.raise .bist 4).bistFalls.bist = s.bist := before.group .bist (by decide)
  rw [State.sliceFails, State.fenceSlice_bist, bist]

theorem State.sliceFails_frame : Keeps [.bist, .balance, .logs, .faults, .pins, .outputs, .meas, .fan, .dev, .services, .vehicle]
    s (s.sliceFails k) := by
  simp (disch := decide) only [State.sliceFails, State.fenceSlice_keeps, State.bistFalls_keeps, State.raise_keeps_calm,
    Keeps.refl]

theorem State.sliceFails_reports (same : s.faults = u.faults) (hf : u.faults.length = 18) :
    (s.sliceFails k).has .bist 4 = true ∧ StickyKept u (s.sliceFails k) ∧ (s.sliceFails k).pins.bistOk = false := by
  obtain ⟨bit, sticky⟩ := State.raise_reports (u := s) (b := .bist) (i := 4) same hf (by decide)
  have falls := State.bistFalls_frame (s := s.raise .bist 4)
  have kept : StickyKept (s.raise .bist 4) (s.sliceFails k) := (falls.sticky (by decide)).trans State.fenceSlice_mono
  exact ⟨kept _ _ bit, sticky.trans kept, Eq.trans State.fenceSlice_bistOk (State.bistFalls_low bit (by decide))⟩

theorem bistSegmentEnd_fences (hf : s.faults.length = 18) (runs : s.bist.running = true)
    (last : sliceSegments s.bist.slice ≤ s.bist.done + 1) (again : s.bist.again = true)
    (spared : s.sliceFatal s.bist.slice = false) :
    Runs (.bistSegmentEnd false) s fun t =>
      t.has .bist 4 = true ∧ t.pins.bistOk = false ∧ t.bist.fenced = s.bist.fenced ++ [s.bist.slice] ∧
      t.bist.running = false ∧ StickyKept s t ∧ t.nv = s.nv ∧ t.flash = s.flash := by
  have run := execBistSegmentEnd_last false runs last
  rw [again, spared, if_neg Bool.false_ne_true, Bool.not_true, if_neg Bool.false_ne_true, if_neg Bool.false_ne_true] at run
  have fails := State.sliceFails_frame (s := s.segmentOver) (k := s.bist.slice)
  have bist := State.sliceFails_bist (s := s.segmentOver) (k := s.bist.slice)
  obtain ⟨bit, sticky, low⟩ := State.sliceFails_reports (s := s.segmentOver) (u := s) (k := s.bist.slice)
    (State.segmentOver_frame.group .faults (by decide)) hf
  have done := State.sliceDone_frame (s := s.segmentOver.sliceFails s.bist.slice)
  obtain ⟨running, -, -, fenced⟩ := State.sliceDone_bist (s := s.segmentOver.sliceFails s.bist.slice)
  have whole := ((State.segmentOver_frame (s := s)).mono (by decide)).trans (fails.trans (done.mono (by decide)))
  refine runs_next run ⟨(done.has (by decide) _ _).trans bit, (congrArg Pins.bistOk (done.group .pins (by decide))).trans low,
    fenced.trans ?_, running.trans ?_, sticky.trans (done.sticky (by decide)), whole.group .nv (by decide),
    whole.group .flash (by decide)⟩
  · rw [bist]; rfl
  · rw [bist]; rfl

theorem bistSegmentEnd_matches (runs : s.bist.running = true) (last : sliceSegments s.bist.slice ≤ s.bist.done + 1) :
    Runs (.bistSegmentEnd true) s fun t =>
      Keeps [.bist, .balance] s t ∧ t.bist.running = false ∧ t.bist.done = 0 ∧ t.bist.again = false := by
  have run := execBistSegmentEnd_last true runs last
  rw [if_pos rfl] at run
  obtain ⟨running, done, again, -⟩ := State.sliceDone_bist (s := s.segmentOver)
  exact runs_next run ⟨(State.segmentOver_frame.mono (by decide)).trans (State.sliceDone_frame.mono (by decide)), running, done,
    again⟩

theorem execRotationOverdue_run (run : s.running = true) (started : s.bist.started.isSome = true)
    (inTime : s.bist.overdue = false) (alive : s.dev.fatal = false) :
    exec .rotationOverdue s = .next (((s.updBist fun b => { b with overdue := true }).raise .bist 5).bistFalls) := by
  simp [exec, execRotationOverdue, run, started, inTime, alive]

theorem rotationOverdue_reports (hf : s.faults.length = 18) (run : s.running = true) (started : s.bist.started.isSome = true)
    (inTime : s.bist.overdue = false) (alive : s.dev.fatal = false) :
    Runs .rotationOverdue s fun t =>
      Keeps [.bist, .faults, .logs, .pins] s t ∧ t.bist.overdue = true ∧ t.has .bist 5 = true ∧ t.pins.bistOk = false ∧
      StickyKept s t := by
  have raised := State.raise_frame (s := s.updBist fun b => { b with overdue := true }) (b := .bist) (i := 5) (by decide)
  have falls := State.bistFalls_frame (s := (s.updBist fun b => { b with overdue := true }).raise .bist 5)
  have later := raised.trans (falls.mono (by decide))
  obtain ⟨bit, sticky⟩ := State.raise_reports (s := s) (u := s.updBist fun b => { b with overdue := true }) (b := .bist) (i := 5)
    rfl hf (by decide)
  exact runs_next (execRotationOverdue_run run started inTime alive)
    ⟨((State.updBist_keeps (by decide) _).mpr (Keeps.refl _ s)).trans (later.mono (by decide)),
      congrArg Bist.overdue (later.group .bist (by decide)), (falls.has (by decide) _ _).trans bit,
      State.bistFalls_low bit (by decide), sticky.trans (falls.sticky (by decide))⟩

/-! ### The memory test of a boot -/

/-- What no later result of the memory test takes back. -/
structure BankKept (s t : State) : Prop where
  frame : Keeps [.faults, .logs, .pins, .dev, .portN, .portS] s t
  sticky : StickyKept s t
  length : t.faults.length = s.faults.length
  traceOff : s.dev.traceOff = true → t.dev.traceOff = true
  coreBarred : s.dev.coreBarred = true → t.dev.coreBarred = true

theorem BankKept.refl (s : State) : BankKept s s := ⟨Keeps.refl _ s, StickyKept.refl s, rfl, id, id⟩

theorem BankKept.trans (h : BankKept s t) (k : BankKept t u) : BankKept s u :=
  ⟨h.frame.trans k.frame, h.sticky.trans k.sticky, k.length.trans h.length, k.traceOff ∘ h.traceOff, k.coreBarred ∘ h.coreBarred⟩

theorem State.raise_kept (h : calm .bist i = true) : BankKept s (s.raise .bist i) where
  frame := (State.raise_frame h).mono (by decide)
  sticky := s.raise_mono .bist i
  length := State.raise_length ..
  traceOff on := (congrArg Dev.traceOff ((State.raise_frame h).group .dev (by decide))).trans on
  coreBarred on := (congrArg Dev.coreBarred ((State.raise_frame h).group .dev (by decide))).trans on

/-- A bank beyond its spare rows bars what uses it (R567). -/
def barBank (b : Nat) (d : Dev) : Dev := if b = 7 then { d with traceOff := true } else { d with coreBarred := true }

theorem State.updDev_barBank_kept : BankKept s (s.updDev (barBank b)) where
  frame := (State.updDev_keeps (by decide) _).mpr (Keeps.refl _ s)
  sticky := StickyKept.refl s
  length := rfl
  traceOff on := by simp only [State.updDev_dev, barBank]; split <;> simp [on]
  coreBarred on := by simp only [State.updDev_dev, barBank]; split <;> simp [on]

theorem State.bankResult_eq : s.bankResult b rows =
    if rows = 0 then s else if rows ≤ s.spares b then s.raise .bist 0 else (s.updDev (barBank b)).raise .bist 3 := rfl

theorem State.bankResult_kept : BankKept s (s.bankResult b rows) := by
  rw [State.bankResult_eq]
  split
  · exact .refl s
  · split
    · exact State.raise_kept (by decide)
    · exact State.updDev_barBank_kept.trans (State.raise_kept (by decide))

/-- What the result of a bank with failing rows leaves (R567). -/
structure BankReported (s : State) (b rows : Nat) (t : State) : Prop where
  repaired : rows ≠ 0 → rows ≤ s.spares b → t.has .bist 0 = true
  barred : rows ≠ 0 → s.spares b < rows →
    t.has .bist 3 = true ∧ (b = 7 → t.dev.traceOff = true) ∧ (b ≠ 7 → t.dev.coreBarred = true)

theorem BankReported.kept (h : BankReported s b rows t) (k : BankKept t u) : BankReported s b rows u where
  repaired some_ few := k.sticky _ _ (h.repaired some_ few)
  barred some_ many :=
    have ⟨bit, trace, core⟩ := h.barred some_ many
    ⟨k.sticky _ _ bit, k.traceOff ∘ trace, k.coreBarred ∘ core⟩

theorem State.bankResult_reported (hf : s.faults.length = 18) : BankReported s b rows (s.bankResult b rows) where
  repaired some_ few := by
    rw [State.bankResult_eq, if_neg some_, if_pos few]
    exact State.raise_has _ _ _ hf (by decide)
  barred some_ many := by
    rw [State.bankResult_eq, if_neg some_, if_neg (Nat.not_le.mpr many)]
    have kept : BankKept (s.updDev (barBank b)) ((s.updDev (barBank b)).raise .bist 3) := State.raise_kept (by decide)
    exact ⟨State.raise_has _ _ _ hf (by decide), fun seven => kept.traceOff (by simp [barBank, seven]),
      fun other => kept.coreBarred (by simp [barBank, other])⟩

theorem BankReported.of_nv (h : BankReported u b rows t) (same : u.nv = s.nv) : BankReported s b rows t := by
  have spares : u.spares b = s.spares b := by simp only [State.spares, same]
  exact ⟨fun some_ few => h.repaired some_ (spares ▸ few), fun some_ many => h.barred some_ (spares ▸ many)⟩

theorem foldl_bankResult_kept (rows : Nat → Nat) (l : List Nat) (s : State) :
    BankKept s (l.foldl (fun t b => t.bankResult b (rows b)) s) := by
  induction l generalizing s with
  | nil => exact .refl s
  | cons b l ih => exact State.bankResult_kept.trans (ih _)

theorem foldl_bankResult_reported (rows : Nat → Nat) (l : List Nat) (s : State) (hf : s.faults.length = 18) (h : b ∈ l) :
    BankReported s b (rows b) (l.foldl (fun t b => t.bankResult b (rows b)) s) := by
  induction l generalizing s with
  | nil => cases h
  | cons a l ih =>
    have kept : BankKept s (s.bankResult a (rows a)) := State.bankResult_kept
    rw [List.foldl_cons]
    rcases List.mem_cons.mp h with rfl | later
    · exact (State.bankResult_reported hf).kept (foldl_bankResult_kept rows l _)
    · exact (ih _ (kept.length.trans hf) later).of_nv (kept.frame.group .nv (by decide))

theorem foldl_bankResult_clean (rows : Nat → Nat) (l : List Nat) (s : State) (clean : ∀ b ∈ l, rows b = 0) :
    l.foldl (fun t b => t.bankResult b (rows b)) s = s := by
  induction l with
  | nil => rfl
  | cons a l ih =>
    rw [List.foldl_cons, State.bankResult_eq, if_pos (clean a (by simp)), ih fun b hb => clean b (by simp [hb])]

/-- A failing buffer holds its link down (R568). -/
def heldLink (q : PortState) : PortState := { q with heldDown := true, up := false }

variable {p : Port} {fails : Bool}

theorem State.bufferResult_eq :
    s.bufferResult p fails = if fails then (s.updPort p heldLink).raise .bist 3 else s := rfl

theorem State.bufferResult_kept : BankKept s (s.bufferResult p fails) := by
  have upd : BankKept s (s.updPort p heldLink) :=
    have frame : Keeps [.portN, .portS] s (s.updPort p heldLink) := (State.updPort_keeps (by decide) _ _).mpr (Keeps.refl _ s)
    have dev : (s.updPort p heldLink).dev = s.dev := frame.group .dev (by decide)
    ⟨frame.mono (by decide), frame.sticky (by decide), congrArg List.length (frame.group .faults (by decide)), (dev ▸ ·),
      (dev ▸ ·)⟩
  rw [State.bufferResult_eq]
  split
  · exact upd.trans (State.raise_kept (by decide))
  · exact .refl s

theorem State.bufferResult_port (r : Port) :
    (s.bufferResult p fails).port r = if fails = true ∧ r = p then heldLink (s.port r) else s.port r := by
  rw [State.bufferResult_eq]
  cases fails with
  | false => simp
  | true =>
    have port : ((s.updPort p heldLink).raise .bist 3).port r = (s.updPort p heldLink).port r :=
      (State.raise_frame (by decide)).port r (by decide) (by decide)
    rw [if_pos rfl, port]
    cases p <;> cases r <;> rfl

theorem State.bufferResult_has (hf : s.faults.length = 18) : (s.bufferResult p true).has .bist 3 = true := by
  rw [State.bufferResult_eq, if_pos rfl]
  exact State.raise_has _ _ _ (by cases p <;> exact hf) (by decide)

theorem State.bistFalls_kept : BankKept s s.bistFalls where
  frame := State.bistFalls_frame.mono (by decide)
  sticky := State.bistFalls_frame.sticky (by decide)
  length := congrArg List.length (State.bistFalls_frame.group .faults (by decide))
  traceOff on := (congrArg Dev.traceOff (State.bistFalls_frame.group .dev (by decide))).trans on
  coreBarred on := (congrArg Dev.coreBarred (State.bistFalls_frame.group .dev (by decide))).trans on

/-- The banks of the memory test, with the failing rows of each (R566). -/
def State.banksTested (s : State) (rows : List Nat) : State := (List.range 8).foldl (fun t b => t.bankResult b (rows.getD b 0)) s

theorem State.banksTested_kept (rows : List Nat) : BankKept s (s.banksTested rows) := foldl_bankResult_kept _ _ s

theorem State.banksTested_port (rows : List Nat) (r : Port) : (s.banksTested rows).port r = s.port r := by
  have only : Keeps [.faults, .logs, .pins, .dev] s (s.banksTested rows) :=
    keeps_foldl _ (fun t b => (State.bankResult_keeps (by decide) b _).mpr (Keeps.refl _ t)) (Keeps.refl _ s)
  exact only.port r (by decide) (by decide)

theorem execMemoryBist_run {rows : List Nat} {n k : Bool} (boot : s.dev.phase = .boot) (strapped : s.dev.strapped = true) :
    exec (.memoryBist rows n k) s =
      .next ((((s.banksTested rows).bufferResult .n n).bufferResult .s k).bistFalls) := by
  simp [exec, execMemoryBist, boot, strapped, State.banksTested]

theorem memoryBist_reports {rows : List Nat} {n k : Bool} (boot : s.dev.phase = .boot) (strapped : s.dev.strapped = true)
    (hf : s.faults.length = 18) :
    Runs (.memoryBist rows n k) s fun t =>
      Keeps [.faults, .logs, .pins, .dev, .portN, .portS] s t ∧ StickyKept s t ∧
      (∀ b, b < 8 → rows.getD b 0 ≠ 0 → rows.getD b 0 ≤ s.spares b → t.has .bist 0 = true) ∧
      (∀ b, b < 8 → rows.getD b 0 ≠ 0 → s.spares b < rows.getD b 0 →
        t.has .bist 3 = true ∧ (b = 7 → t.dev.traceOff = true) ∧ (b ≠ 7 → t.dev.coreBarred = true)) ∧
      (n = true → t.portN = { s.portN with heldDown := true, up := false } ∧ t.has .bist 3 = true) ∧
      (k = true → t.portS = { s.portS with heldDown := true, up := false } ∧ t.has .bist 3 = true) ∧
      (n = false → t.portN = s.portN) ∧ (k = false → t.portS = s.portS) ∧
      ((∀ b, b < 8 → rows.getD b 0 = 0) → n = false → k = false → t.faults = s.faults ∧ t.dev = s.dev) := by
  have banks := State.banksTested_kept (s := s) rows
  have portN := State.bufferResult_kept (s := s.banksTested rows) (p := .n) (fails := n)
  have portS := State.bufferResult_kept (s := (s.banksTested rows).bufferResult .n n) (p := .s) (fails := k)
  have falls := State.bistFalls_kept (s := ((s.banksTested rows).bufferResult .n n).bufferResult .s k)
  have later := portN.trans (portS.trans falls)
  have whole := banks.trans later
  have reported (b : Nat) (hb : b < 8) :=
    (foldl_bankResult_reported (fun b => rows.getD b 0) (List.range 8) s hf (List.mem_range.mpr hb)).kept later
  have port (r : Port) : (((s.banksTested rows).bufferResult .n n).bufferResult .s k).bistFalls.port r =
      (((s.banksTested rows).bufferResult .n n).bufferResult .s k).port r :=
    State.bistFalls_frame.port r (by decide) (by decide)
  simp only [State.bufferResult_port, State.banksTested_port] at port
  refine runs_next (execMemoryBist_run boot strapped) ⟨whole.frame, whole.sticky, fun b hb => (reported b hb).repaired,
    fun b hb => (reported b hb).barred, fun fails => ⟨?_, ?_⟩, fun fails => ⟨?_, ?_⟩, fun good => ?_, fun good => ?_,
    fun clean goodN goodS => ?_⟩
  · exact (port .n).trans (by simp [fails]; rfl)
  · subst fails
    exact (portS.trans falls).sticky _ _ (State.bufferResult_has (banks.length.trans hf))
  · exact (port .s).trans (by simp [fails]; rfl)
  · subst fails
    exact falls.sticky _ _ (State.bufferResult_has ((banks.trans portN).length.trans hf))
  · exact (port .n).trans (by simp [good]; rfl)
  · exact (port .s).trans (by simp [good]; rfl)
  · have untouched : s.banksTested rows = s := foldl_bankResult_clean _ _ s fun b hb => clean b (List.mem_range.mp hb)
    subst goodN goodS
    rw [State.bufferResult_eq, State.bufferResult_eq, untouched]
    exact ⟨State.bistFalls_frame.group .faults (by decide), State.bistFalls_frame.group .dev (by decide)⟩

end

/-- Settles O39: a segment that begins keeps its slice's turn; the ends of a slice report and act in one order; what a bank or a
buffer reports no later result takes back. -/
theorem selfTestAndMemoryTest : Obligations.SelfTestAndMemoryTest := by
  unfold Obligations.SelfTestAndMemoryTest
  refine ⟨fun s => ⟨bistSegment_begins, fun runs more m => ?_, fun runs last => ⟨bistSegmentEnd_matches runs last,
      fun hf first => bistSegmentEnd_repeats hf runs last first,
      fun hf again alive fatal => bistSegmentEnd_fatal hf runs last again alive fatal,
      fun hf again spared => bistSegmentEnd_fences hf runs last again spared⟩, rotationOverdue_reports⟩,
    fun s rows n k boot strapped hf => memoryBist_reports boot strapped hf⟩
  exact runs_next (execBistSegmentEnd_more m runs more) ⟨State.segmentOver_frame.mono (by decide), rfl⟩

end Sys2Proof.Machine

/-!
PROOFS. The records that wait for flash (chapters 16 and 18): a record that finds room joins the end of the queue, and so do
several, one after the other.
-/
namespace Sys2Proof.Machine

/-! ### Records that join the queue -/

section
variable {s t : State} {ty : Byte} {p : List Byte} {rs rs' : List LogRecord} {r : LogRecord}

/-- Records wait at the end of the queue, in their order. -/
def State.enqueue (s : State) (rs : List LogRecord) : State := s.updLogs fun l => { l with queue := l.queue ++ rs }

@[simp] theorem State.enqueue_logs : (s.enqueue rs).logs = { s.logs with queue := s.logs.queue ++ rs } := rfl

@[simp] theorem State.enqueue_core : (s.enqueue rs).core = s.core := rfl

@[simp] theorem State.enqueue_seconds : (s.enqueue rs).seconds = s.seconds := rfl

theorem State.enqueue_enqueue : (s.enqueue rs).enqueue rs' = s.enqueue (rs ++ rs') := by
  simp [State.enqueue, State.updLogs]

theorem State.enqueue_nil : s.enqueue [] = s := by simp [State.enqueue, State.updLogs]

theorem State.enqueue_frame : Keeps [.logs] s (s.enqueue rs) := (State.updLogs_keeps (by decide) _).mpr (Keeps.refl _ s)

/-- A record of a running core joins a queue with room (R537). -/
theorem State.log_eq_enqueue (core : s.core = true) (room : s.logs.queue.length < 64) :
    s.log ty p = s.enqueue [{ rtype := ty, seconds := s.seconds, payload := p }] := by
  simp [State.log, core, State.pushLog, room, State.enqueue, State.updLogs]

/-- Records of one type join the queue one after the other. -/
theorem foldl_log_eq_enqueue {α : Type} (f : α → List Byte) (l : List α) (s : State) (core : s.core = true)
    (room : s.logs.queue.length + l.length ≤ 64) :
    l.foldl (fun t x => t.log ty (f x)) s =
      s.enqueue (l.map fun x => { rtype := ty, seconds := s.seconds, payload := f x }) := by
  induction l generalizing s with
  | nil => exact State.enqueue_nil.symm
  | cons x l ih =>
    rw [List.length_cons] at room
    rw [List.foldl_cons, State.log_eq_enqueue core (by omega),
      ih (s.enqueue [{ rtype := ty, seconds := s.seconds, payload := f x }]) core (by simp; omega), State.enqueue_enqueue]
    rfl

/-- Each step adds two records. -/
theorem foldl_two_enqueue {α : Type} {f : State → α → State} (l : List α) (s : State) (core : s.core = true)
    (step : ∀ (t : State) x, t.core = true → t.logs.queue.length + 2 ≤ 64 → ∃ rs, rs.length = 2 ∧ f t x = t.enqueue rs)
    (room : s.logs.queue.length + 2 * l.length ≤ 64) : ∃ rs, rs.length = 2 * l.length ∧ l.foldl f s = s.enqueue rs := by
  induction l generalizing s with
  | nil => exact ⟨[], rfl, State.enqueue_nil.symm⟩
  | cons x l ih =>
    rw [List.length_cons] at room
    obtain ⟨rs, two, one⟩ := step s x core (by omega)
    obtain ⟨rs', many, rest⟩ := ih (s.enqueue rs) core (by simp [two]; omega)
    exact ⟨rs ++ rs', by simp [two, many]; omega, by rw [List.foldl_cons, one, rest, State.enqueue_enqueue]⟩

/-! ### Energy, counts and totals -/

/-- The ENERGY record (R94, Table 18-3). -/
def State.energyBytes (s : State) : List Byte :=
  bytesBE 4 s.keeper.energy.toNat ++ bytesBE 2 (sat 0xFFFF s.balance.jobsLogged) ++
    bytesBE 2 (sat 0xFFFF (roundQ ((s.balance.jobEnergy : Rat) / 1000)).toNat)

theorem execEnergyRecord_run (run : s.running = true) (core : s.core = true) (room : s.logs.queue.length < 64) :
    exec .energyRecord s = .next (((s.enqueue [{ rtype := 0x09, seconds := s.seconds, payload := s.energyBytes }]).updNv fun n =>
      { n with energy := s.keeper.energy, demand := s.keeper.demand, powered := s.keeper.powered }).updBalance fun b =>
      { b with jobsLogged := 0, jobEnergy := 0 }) := by
  have logged := State.log_eq_enqueue (ty := 0x09) (p := s.energyBytes) core room
  unfold State.energyBytes at logged
  simp only [exec, execEnergyRecord, run, core, Bool.and_self, if_true, State.logEnergy, Bool.not_true, Bool.false_eq_true,
    if_false, logged]
  rfl

theorem length_bytesBE (n x : Nat) : (bytesBE n x).length = n := by
  induction n with
  | zero => rfl
  | succ n ih => rw [bytesBE, List.length_cons, ih]

theorem execCountsRecord_run (run : s.running = true) (core : s.core = true)
    (room : s.logs.queue.length + (pairEntries s.countEntries).length ≤ 64) :
    exec .countsRecord s = .next (s.enqueue
      ((pairEntries s.countEntries).map fun p => { rtype := 0x06, seconds := s.seconds, payload := p })) := by
  have logged := foldl_log_eq_enqueue (ty := 0x06) id (pairEntries s.countEntries) s core room
  simp only [exec, execCountsRecord, run, if_true, State.logCounts]
  exact congrArg _ logged

theorem State.logTotal_enqueue (k : Nat) (d : Bool) (core : s.core = true) (room : s.logs.queue.length < 64) :
    ∃ r, s.logTotal k d = s.enqueue [r] := ⟨_, State.log_eq_enqueue core room⟩

theorem State.logTotals_enqueue (dealer : s.isDealer = true) (core : s.core = true)
    (room : s.logs.queue.length + 2 * s.stringList.length ≤ 64) :
    ∃ rs, rs.length = 2 * s.stringList.length ∧ s.logTotals = s.enqueue rs := by
  unfold State.logTotals
  rw [if_pos dealer]
  refine foldl_two_enqueue _ s core (fun t k core room => ?_) room
  obtain ⟨a, first⟩ := State.logTotal_enqueue k false core (by omega)
  obtain ⟨b, second⟩ := State.logTotal_enqueue (s := t.enqueue [a]) k true core (by simp; omega)
  exact ⟨[a, b], rfl, by rw [first, second, State.enqueue_enqueue]; rfl⟩

/-! ### The service state -/

/-- The service state record of the Dealer (R420). -/
def State.serviceNow (s : State) : ServiceRecord :=
  { strings := s.services.strings, sohC := s.services.sohC, jobTotal := s.services.jobTotal, time := s.now
    number := s.services.recordNo + 1 }

theorem execServiceStateRecord_run (run : s.running = true) (core : s.core = true) (dealer : s.isDealer = true) :
    exec .serviceStateRecord s = .next ((s.updServices fun v => { v with recordNo := s.services.recordNo + 1 }).updNv fun x =>
      if (s.services.recordNo + 1) % 2 = 1 then { x with recordA := some s.serviceNow } else
        { x with recordB := some s.serviceNow }) := by
  simp only [exec, execServiceStateRecord, run, if_true, State.saveServices, dealer, core, Bool.and_self]
  rfl

/-! ### The shock log -/

/-- The summary begins again (R542). -/
def clearSummary (l : Logs) : Logs :=
  { l with peaks := List.replicate 3 0, events3 := List.replicate 3 0, events10 := List.replicate 3 0
           byTime := List.replicate 4 0 }

theorem State.logSummary_enqueue (rms : List Nat) (core : s.core = true) (room : s.logs.queue.length + 4 ≤ 64) :
    ∃ rs, rs.length = 4 ∧ (∀ r ∈ rs, r.rtype = 0x12) ∧ s.logSummary rms = (s.enqueue rs).updLogs clearSummary := by
  unfold State.logSummary
  extract_lets l axes d last
  have three : axes = s.enqueue _ := foldl_log_eq_enqueue _ (List.range 3) s core (by simp; omega)
  obtain ⟨rs, first, length, types⟩ : ∃ rs, axes = s.enqueue rs ∧ rs.length = 3 ∧ ∀ r ∈ rs, r.rtype = 0x12 := by
    refine ⟨_, three, by simp, fun r hr => ?_⟩
    obtain ⟨i, -, rfl⟩ := List.mem_map.mp hr
    rfl
  have room' : axes.logs.queue.length < 64 := by rw [first]; simp [length]; omega
  have fourth : last = axes.enqueue [_] := State.log_eq_enqueue (by rw [first]; exact core) room'
  rw [first, State.enqueue_enqueue] at fourth
  have running : last.core = true := by rw [fourth]; exact core
  refine ⟨rs ++ [_], by simp [length], fun r hr => ?_, by rw [if_pos running, fourth]; rfl⟩
  rcases List.mem_append.mp hr with early | late
  · exact types r early
  · rw [List.mem_singleton.mp late]

theorem execShockEventOpen_run (run : s.running = true) (free : s.bist.fenced.contains 10 = false) :
    exec .shockEventOpen s = .next { s with logs := { s.logs with shockOpen := true } } := by
  simp only [exec, execShockEventOpen, run, free, Bool.not_false, Bool.and_self, Bool.or_true]
  rfl

/-- A closed event in the summary, with the records of the last hour (R540, R542). -/
def State.eventClosed (s : State) (ps : List Nat) (d : Nat) : State :=
  s.updLogs fun l => { summarise ps d l with shockOpen := false, shocks := s.logs.shocks.filter fun t => !s.passed t 3600000 }

/-- The SHOCK EVENT record (R541, Table 18-3). -/
def eventBytes (x y z : Int) (d : Nat) (saturated : Bool) : List Byte :=
  [BitVec.ofNat 8 (shockClass [x.natAbs, y.natAbs, z.natAbs] saturated + 16 * peakAxis [x.natAbs, y.natAbs, z.natAbs])] ++
    bytesBE 2 (signed16 x) ++ bytesBE 2 (signed16 y) ++ bytesBE 2 (signed16 z) ++ [BitVec.ofNat 8 (sat 255 d)]

theorem execShockEventClose_few {x y z : Int} {d : Nat} {sat_ : Bool} (run : s.running = true) (core : s.core = true)
    (opened : s.logs.shockOpen = true) (few : (s.logs.shocks.filter fun k => !s.passed k 3600000).length < 16) :
    exec (.shockEventClose x y z d sat_) s = .next
      (((s.eventClosed [x.natAbs, y.natAbs, z.natAbs] d).log 0x11 (eventBytes x y z d sat_)).updLogs fun l =>
        { l with shocks := l.shocks ++ [s.now] }) := by
  simp only [exec, execShockEventClose, run, core, opened, Bool.and_self, Bool.not_true, Bool.false_eq_true, if_false, few,
    if_true]
  rfl

theorem execShockEventClose_many {x y z : Int} {d : Nat} {sat_ : Bool} (run : s.running = true) (core : s.core = true)
    (opened : s.logs.shockOpen = true) (many : 16 ≤ (s.logs.shocks.filter fun k => !s.passed k 3600000).length) :
    exec (.shockEventClose x y z d sat_) s = .next (s.eventClosed [x.natAbs, y.natAbs, z.natAbs] d) := by
  have full : ¬ (s.logs.shocks.filter fun k => !s.passed k 3600000).length < 16 := by omega
  simp only [exec, execShockEventClose, run, core, opened, Bool.and_self, Bool.not_true, Bool.false_eq_true, if_false, full]
  rfl

/-- A record leaves the summary and the open event. -/
theorem State.log_summary : (s.log ty p).logs.shockOpen = s.logs.shockOpen ∧ (s.log ty p).logs.peaks = s.logs.peaks ∧
    (s.log ty p).logs.byTime = s.logs.byTime := by
  unfold State.log State.pushLog
  split
  · rw [State.updLogs_logs]
    split <;> exact ⟨rfl, rfl, rfl⟩
  · exact ⟨rfl, rfl, rfl⟩

theorem shockEventClose_summarises {x y z : Int} {d : Nat} {sat_ : Bool} (run : s.running = true) (core : s.core = true)
    (opened : s.logs.shockOpen = true) :
    Runs (.shockEventClose x y z d sat_) s fun t =>
    Keeps [.logs] s t ∧ t.logs.shockOpen = false ∧
    t.logs.peaks = s.logs.peaks.zipWith max [x.natAbs, y.natAbs, z.natAbs] ∧
    t.logs.byTime = s.logs.byTime.modify (durationBin d) (· + 1) ∧
    ((s.logs.shocks.filter fun k => !s.passed k 3600000).length < 16 → s.logs.queue.length < 64 →
      ∃ r, t.logs.queue = s.logs.queue ++ [r] ∧ r.rtype = 0x11) ∧
    (16 ≤ (s.logs.shocks.filter fun k => !s.passed k 3600000).length → t.logs.queue = s.logs.queue) := by
  have closed : Keeps [.logs] s (s.eventClosed [x.natAbs, y.natAbs, z.natAbs] d) :=
    (State.updLogs_keeps (by decide) _).mpr (Keeps.refl _ s)
  rcases Nat.lt_or_ge (s.logs.shocks.filter fun k => !s.passed k 3600000).length 16 with few | many
  · have run := execShockEventClose_few (x := x) (y := y) (z := z) (d := d) (sat_ := sat_) run core opened few
    obtain ⟨shut, peaks, byTime⟩ := State.log_summary (s := s.eventClosed [x.natAbs, y.natAbs, z.natAbs] d) (ty := 0x11)
      (p := eventBytes x y z d sat_)
    refine runs_next run ⟨?_, shut, peaks, byTime, fun _ room =>
      ⟨{ rtype := 0x11, seconds := s.seconds, payload := eventBytes x y z d sat_ }, ?_, rfl⟩, fun many => by omega⟩
    · simp (disch := decide) only [State.updLogs_keeps, State.log_keeps]
      exact closed
    · rw [State.log_eq_enqueue (by exact core) (by exact room)]
      rfl
  · exact runs_next (execShockEventClose_many run core opened many)
      ⟨closed, rfl, rfl, rfl, fun few => by omega, fun _ => rfl⟩

end

/-- Settles O47: every record of a command joins the queue, and what the command changes beside it stands on its own. -/
theorem recordsAndShocks : Obligations.RecordsAndShocks := by
  unfold Obligations.RecordsAndShocks
  refine ⟨fun s run core => ⟨fun room => ?_, fun room => ?_, fun dealer room => ?_, fun dealer => ?_, fun room x y z => ?_⟩,
    fun s run => ⟨execShockEventOpen_run run, fun x y z d sat_ core opened => shockEventClose_summarises run core opened⟩⟩
  · refine runs_next (execEnergyRecord_run run core room) ⟨?_, rfl, rfl, rfl, rfl, _, rfl, rfl, rfl, ?_⟩
    · simp (disch := decide) only [State.updBalance_keeps, State.updNv_keeps]
      exact State.enqueue_frame.mono (by decide)
    · simp [State.energyBytes, length_bytesBE]
  · exact runs_next (execCountsRecord_run run core room) ⟨State.enqueue_frame, rfl⟩
  · obtain ⟨rs, length, totals⟩ := State.logTotals_enqueue dealer core room
    have run : exec .packTotals s = .next (s.enqueue rs) := by simp only [exec, execPackTotals, run, if_true, totals]
    exact runs_next run ⟨State.enqueue_frame, by simp [length], by simp⟩
  · refine runs_next (execServiceStateRecord_run run core dealer) ⟨?_, rfl, s.serviceNow, rfl, rfl, rfl, rfl, rfl⟩
    simp (disch := decide) only [State.updNv_keeps, State.updServices_keeps, Keeps.refl]
  · obtain ⟨rs, four, types, summary⟩ := State.logSummary_enqueue [x, y, z] core room
    have run : exec (.shockSummary x y z) s = .next ((s.enqueue rs).updLogs clearSummary) := by
      simp only [exec, execShockSummary, run, if_true, summary]
    exact runs_next run ⟨(State.updLogs_keeps (by decide) _).mpr State.enqueue_frame, rfl, rfl, rs, rfl, four, types⟩

end Sys2Proof.Machine

/-!
PROOFS. The streamers of the vehicle interfaces and the error states of the CAN node (chapter 15).
-/
namespace Sys2Proof.Machine

section
variable {s t u : State} {i n : Nat} {f : Vehicle → Vehicle}

/-! ### Sources of the core's block -/

/-- From `s` to `t` the vehicle interfaces have changed by `f`, sources may have been raised, and nothing else. -/
structure Reported (s t : State) (v : Vehicle) : Prop where
  frame : Keeps [.vehicle, .faults, .logs, .pins] s t
  vehicle : t.vehicle = v
  sticky : StickyKept s t
  length : t.faults.length = s.faults.length

theorem Reported.upd : Reported s (s.updVehicle f) (f s.vehicle) :=
  ⟨(State.updVehicle_keeps (by decide) _).mpr (Keeps.refl _ s), rfl, StickyKept.refl _, rfl⟩

theorem Reported.then {v w : Vehicle} (h : Reported s t v) (k : Reported t u w) : Reported s u w :=
  ⟨h.frame.trans k.frame, k.vehicle, h.sticky.trans k.sticky, k.length.trans h.length⟩

theorem Reported.raiseIf {v : Vehicle} (h : Reported s t v) (c : Bool) : Reported s (t.raiseIf c .raivo i) v where
  frame := h.frame.trans ((State.raiseIf_frame (calm_of_block (by decide))).mono (by decide))
  vehicle := ((State.raiseIf_frame (calm_of_block (by decide))).group .vehicle (by decide)).trans h.vehicle
  sticky := h.sticky.trans (t.raiseIf_mono c .raivo i)
  length := (State.raiseIf_length ..).trans h.length

theorem Reported.raise {v : Vehicle} (h : Reported s t v) : Reported s (t.raise .raivo i) v :=
  Reported.raiseIf (c := true) h

theorem State.raiseIf_has {b : Block} (c : Bool) (on : c = true) (hf : s.faults.length = 18) (hi : i < 16) :
    (s.raiseIf c b i).has b i = true := by
  rw [State.raiseIf, if_pos on]
  exact State.raise_has _ _ _ hf hi

/-! ### The streamers -/

/-- The staged publications begin where the line is free (R463). -/
def beginStreams (v : Vehicle) : Vehicle :=
  { v with canOut := v.canOut.begin v.canFree, rsOut := v.rsOut.begin (!v.rsOut.stopped) }

theorem execPublicationStart_run (run : s.running = true) :
    exec .publicationStart s = .next (((s.updVehicle beginStreams).raiseIf s.vehicle.canOut.discards .raivo 3).raiseIf
      s.vehicle.rsOut.discards .raivo 3) := by
  simp only [exec, execPublicationStart, run, if_true]
  rfl

/-- A publication that finds its line free is on it (R463). -/
theorem Stream.begin_idle {x : Stream} {fs : List VFrame} (staged : x.staged = some fs) (idle : x.busy = false)
    (some_ : fs ≠ []) : (x.begin true).queue = fs ∧ (x.begin true).busy = true ∧ (x.begin true).staged = none := by
  simp [Stream.begin, staged, idle, some_]

/-- A publication that finds its line busy takes the place of what has not begun (R464). -/
theorem Stream.begin_busy {x : Stream} {fs rest : List VFrame} {f g : VFrame} (staged : x.staged = some fs)
    (busy : x.busy = true) (waits : x.queue = f :: g :: rest) (free : Bool) :
    (x.begin free).queue = f :: fs ∧ x.discards = true := by
  simp [Stream.begin, Stream.discards, Stream.waiting, staged, busy, waits]

theorem publicationStart_begins (hf : s.faults.length = 18) (run : s.running = true) :
    Runs .publicationStart s fun t =>
    Keeps [.vehicle, .faults, .logs, .pins] s t ∧ StickyKept s t ∧
    (∀ fs, s.vehicle.canOut.staged = some fs → s.vehicle.canOut.busy = false → s.vehicle.canFree = true → fs ≠ [] →
      t.vehicle.canOut.queue = fs ∧ t.vehicle.canOut.busy = true ∧ t.vehicle.canOut.staged = none) ∧
    (∀ fs, s.vehicle.rsOut.staged = some fs → s.vehicle.rsOut.busy = false → s.vehicle.rsOut.stopped = false → fs ≠ [] →
      t.vehicle.rsOut.queue = fs ∧ t.vehicle.rsOut.busy = true ∧ t.vehicle.rsOut.staged = none) ∧
    (∀ fs f x rest, s.vehicle.canOut.staged = some fs → s.vehicle.canOut.busy = true →
      s.vehicle.canOut.queue = f :: x :: rest → t.vehicle.canOut.queue = f :: fs ∧ t.has .raivo 3 = true) := by
  have first := (Reported.upd (s := s) (f := beginStreams)).raiseIf (i := 3) s.vehicle.canOut.discards
  obtain ⟨frame, vehicle, sticky, -⟩ := first.raiseIf (i := 3) s.vehicle.rsOut.discards
  refine runs_next (execPublicationStart_run run) ⟨frame, sticky, fun fs staged idle free some_ => ?_,
    fun fs staged idle free some_ => ?_, fun fs f x rest staged busy waits => ?_⟩
  · rw [vehicle]
    simp only [beginStreams, free]
    exact Stream.begin_idle staged idle some_
  · rw [vehicle]
    simp only [beginStreams, free]
    exact Stream.begin_idle staged idle some_
  · obtain ⟨queue, discards⟩ := Stream.begin_busy staged busy waits s.vehicle.canFree
    rw [vehicle]
    exact ⟨queue, State.raiseIf_mono _ _ _ _ _ _ (State.raiseIf_has _ discards hf (by decide))⟩

theorem execCanFrameComplete_run (busy : s.vehicle.canOut.busy = true) :
    exec .canFrameComplete s = .next (s.updVehicle fun v =>
      { v.counters (v.tecCount - 1) v.recCount with canOut := v.canOut.advance v.canFree }) := by
  simp only [exec, execCanFrameComplete, busy, if_true]

/-- The echoed bytes that differ from those sent (R468). -/
def echoWrong (echo : List Byte) (x : Stream) : Nat :=
  ((echo.zip (((x.queue.head?).map (·.bytes)).getD [])).filter fun p => p.1 != p.2).length

/-- The frame on the RS-485 line ends and the next one starts (R466). -/
def advanceRs (v : Vehicle) : Vehicle := { v with rsOut := v.rsOut.advance (!v.rsOut.stopped) }

theorem execRs485FrameComplete_run {echo : List Byte} (busy : s.vehicle.rsOut.busy = true) :
    exec (.rs485FrameComplete echo) s = .next
      ((List.range (echoWrong echo s.vehicle.rsOut)).foldl (fun t _ => t.raise .raivo 4) (s.updVehicle advanceRs)) := by
  simp only [exec, execRs485FrameComplete, busy, Bool.not_true, Bool.false_eq_true, if_false]
  rfl

theorem foldl_raise_reported {v : Vehicle} (l : List Nat) (h : Reported s t v) :
    Reported s (l.foldl (fun t _ => t.raise .raivo 4) t) v := by
  induction l generalizing t with
  | nil => exact h
  | cons x l ih => exact ih h.raise

theorem foldl_raise_has (l : List Nat) (some_ : l ≠ []) (hf : t.faults.length = 18) :
    (l.foldl (fun t _ => t.raise .raivo 4) t).has .raivo 4 = true := by
  cases l with
  | nil => exact absurd rfl some_
  | cons x l =>
    have later : Reported (t.raise .raivo 4) _ (t.raise .raivo 4).vehicle :=
      foldl_raise_reported l ⟨Keeps.refl _ _, rfl, StickyKept.refl _, rfl⟩
    exact later.sticky _ _ (State.raise_has _ _ _ hf (by decide))

theorem echoWrong_pos {echo : List Byte} {x : Stream} {f : VFrame} {rest : List VFrame} {k : Nat} (queue : x.queue = f :: rest)
    (sent : k < echo.length) (inFrame : k < f.bytes.length) (differs : echo.getD k 0 ≠ f.bytes.getD k 0) :
    0 < echoWrong echo x := by
  rw [getD_of_lt _ sent, getD_of_lt _ inFrame] at differs
  have pair : (echo[k], f.bytes[k]) ∈ echo.zip f.bytes := by
    rw [← List.getElem_zip (h := by simp; omega)]
    exact List.getElem_mem _
  refine List.length_pos_of_mem (a := (echo[k], f.bytes[k])) (List.mem_filter.mpr ⟨?_, by simpa using differs⟩)
  simpa [queue] using pair

theorem echoWrong_same {x : Stream} {f : VFrame} {rest : List VFrame} (queue : x.queue = f :: rest) :
    echoWrong f.bytes x = 0 := by
  refine List.length_eq_zero_iff.mpr (List.filter_eq_nil_iff.mpr fun p hp => ?_)
  simp only [queue, List.head?_cons, Option.map_some, Option.getD_some] at hp
  obtain ⟨k, hk, rfl⟩ := List.mem_iff_getElem.mp hp
  simp

theorem rs485FrameComplete_advances {echo : List Byte} (hf : s.faults.length = 18) (busy : s.vehicle.rsOut.busy = true) :
    Runs (.rs485FrameComplete echo) s fun t =>
    Keeps [.vehicle, .faults, .logs, .pins] s t ∧ t.vehicle.rsOut.queue = s.vehicle.rsOut.queue.drop 1 ∧
    t.vehicle.canOut = s.vehicle.canOut ∧ StickyKept s t ∧
    ∀ f rest, s.vehicle.rsOut.queue = f :: rest →
      (∀ i, i < echo.length → i < f.bytes.length → echo.getD i 0 ≠ f.bytes.getD i 0 → t.has .raivo 4 = true) ∧
      (echo = f.bytes → t.faults = s.faults) := by
  obtain ⟨frame, vehicle, sticky, -⟩ := foldl_raise_reported (List.range (echoWrong echo s.vehicle.rsOut))
    (Reported.upd (s := s) (f := advanceRs))
  refine runs_next (execRs485FrameComplete_run busy) ⟨frame, by rw [vehicle]; rfl, by rw [vehicle]; rfl, sticky,
    fun f rest queue => ⟨fun k sent inFrame differs => ?_, fun same => ?_⟩⟩
  · have pos := echoWrong_pos queue sent inFrame differs
    exact foldl_raise_has _ (by simp; omega) hf
  · rw [same, echoWrong_same queue]
    rfl

/-! ### The error states of the CAN node -/

theorem counters_tec (a b : Nat) (v : Vehicle) : (v.counters a b).tecCount = a ∧ (v.counters a b).recCount = b ∧
    (v.counters a b).canOut = v.canOut := ⟨rfl, rfl, rfl⟩

theorem execCanFrameReceived_low {x : Nat} {d : List Byte} (run : s.running = true) (node : s.cfg.canMode.isSome = true)
    (free : s.vehicle.canFree = true) (low : s.vehicle.recCount ≤ 127) :
    exec (.canFrameReceived x d) s = .next (s.updVehicle fun v => v.counters v.tecCount (v.recCount - 1)) := by
  have below : ¬ 127 < s.vehicle.recCount := by omega
  simp [exec, execCanFrameReceived, run, node, free, below]

theorem execCanFrameReceived_high {x : Nat} {d : List Byte} (run : s.running = true) (node : s.cfg.canMode.isSome = true)
    (free : s.vehicle.canFree = true) (high : 127 < s.vehicle.recCount) :
    exec (.canFrameReceived x d) s = .next (s.drawWord.2.updVehicle fun v =>
      v.counters v.tecCount (119 + s.drawWord.1.toNat % 9)) := by
  simp only [exec, execCanFrameReceived, run, node, free, high, Bool.and_self, if_true]

theorem canFrameReceived_lowers {x : Nat} {d : List Byte} (run : s.running = true) (node : s.cfg.canMode.isSome = true)
    (free : s.vehicle.canFree = true) : Runs (.canFrameReceived x d) s fun t =>
    Keeps [.vehicle, .dev] s t ∧ t.vehicle.tecCount = s.vehicle.tecCount ∧ t.vehicle.canOut = s.vehicle.canOut ∧
    (s.vehicle.recCount ≤ 127 → t.vehicle.recCount = s.vehicle.recCount - 1) ∧
    (127 < s.vehicle.recCount → 119 ≤ t.vehicle.recCount ∧ t.vehicle.recCount ≤ 127) := by
  rcases Nat.lt_or_ge 127 s.vehicle.recCount with high | low
  · refine runs_next (execCanFrameReceived_high run node free high) ⟨?_, rfl, rfl, fun low => by omega, fun _ => ?_⟩
    · exact (State.updVehicle_keeps (by decide) _).mpr ((State.updDev_keeps (by decide) _).mpr (Keeps.refl _ s))
    · simp only [State.updVehicle_vehicle, (counters_tec _ _ _).2.1]
      omega
  · exact runs_next (execCanFrameReceived_low run node free low)
      ⟨(State.updVehicle_keeps (by decide) _).mpr (Keeps.refl _ s), rfl, rfl, fun _ => rfl, fun high => by omega⟩

/-- New counters are in force, and the entry into error-passive is reported (R455). -/
theorem State.canCounters_reported (a b : Nat) : Reported s (s.canCounters a b) (s.vehicle.counters a b) :=
  Reported.upd.raiseIf _

theorem State.canCounters_passive {a b : Nat} (hf : s.faults.length = 18) (active : s.vehicle.can = .active) (many : 128 ≤ b) :
    (s.canCounters a b).vehicle.can = .passive ∧ (s.canCounters a b).has .raivo 1 = true := by
  have passive : errorState a b .active = .passive := by simp [errorState, many]
  refine ⟨?_, State.raiseIf_has _ (by simp [active, passive]) hf (by decide)⟩
  rw [(State.canCounters_reported a b).vehicle, Vehicle.counters, active, passive]

theorem execCanError_receive {k : CanErrorKind} (hk : (k = .receive ∧ n = 1) ∨ (k = .receiveDominant ∧ n = 8))
    (run : s.running = true) (node : s.cfg.canMode.isSome = true) (on : s.vehicle.can ≠ .busOff)
    (drives : s.vehicle.canOut.stopped = false ∨ s.vehicle.canOut.busy = true) :
    exec (.canError k) s = .next (s.canCounters s.vehicle.tecCount (s.vehicle.recCount + n)) := by
  have drives : (s.vehicle.canOut.stopped && !s.vehicle.canOut.busy) = false := by
    rcases drives with h | h <;> simp [h]
  rcases hk with ⟨rfl, rfl⟩ | ⟨rfl, rfl⟩ <;>
    simp [exec, execCanError, run, node, on, drives, -Bool.and_eq_false_imp]

/-- The node after a transmit error, before what it sends next (R451). -/
def State.transmitFailed (s : State) : State :=
  if 255 < s.vehicle.tecCount + 8 then (s.canCounters (s.vehicle.tecCount + 8) s.vehicle.recCount).busOff
  else s.canCounters (s.vehicle.tecCount + 8) s.vehicle.recCount

theorem execCanError_transmit (run : s.running = true) (node : s.cfg.canMode.isSome = true) (on : s.vehicle.can ≠ .busOff)
    (busy : s.vehicle.canOut.busy = true) :
    exec (.canError .transmit) s = .next
      ((s.transmitFailed.updVehicle fun v => { v with canOut := v.canOut.again v.canFree }).raiseIf
        (s.vehicle.canOut.replaced = some false) .raivo 3) := by
  simp [exec, execCanError, run, node, on, busy, State.transmitFailed]

/-- The bus-offs within the hour, this one among them (R455). -/
def State.busOffHour (s : State) : List Nat := s.now :: s.vehicle.busOffs.filter fun x => !s.passed x 3600000

theorem State.busOff_reported : Reported s s.busOff { s.vehicle with can := .busOff, busOffs := s.busOffHour } :=
  ((Reported.upd (f := fun v => { v with can := .busOff, busOffs := s.busOffHour })).raise (i := 2)).raiseIf _

theorem State.busOff_has (hf : s.faults.length = 18) : s.busOff.has .raivo 2 = true ∧
    (15 ≤ (s.vehicle.busOffs.filter fun x => !s.passed x 3600000).length → s.busOff.has .raivo 7 = true) := by
  refine ⟨State.raiseIf_mono _ _ _ _ _ _ (State.raise_has _ _ _ hf (by decide)), fun many => ?_⟩
  exact State.raiseIf_has _ (by simpa using many) ((State.raise_length ..).trans hf) (by decide)

theorem State.passed_of_keeper (h : t.keeper = s.keeper) : t.passed = s.passed := by
  funext x ms
  simp only [State.passed, State.now, h]

/-- What a transmit error leaves of the node: its counter, and bus-off above 255 (R455). -/
theorem State.transmitFailed_reported (hf : s.faults.length = 18) :
    ∃ v, Reported s s.transmitFailed v ∧ v.tecCount = s.vehicle.tecCount + 8 ∧
      (255 < s.vehicle.tecCount + 8 → v.can = .busOff ∧ s.transmitFailed.has .raivo 2 = true ∧
        (15 ≤ (s.vehicle.busOffs.filter fun x => !s.passed x 3600000).length → s.transmitFailed.has .raivo 7 = true)) := by
  have counted := State.canCounters_reported (s := s) (s.vehicle.tecCount + 8) s.vehicle.recCount
  unfold State.transmitFailed
  split
  · have off := State.busOff_reported (s := s.canCounters (s.vehicle.tecCount + 8) s.vehicle.recCount)
    obtain ⟨two, seven⟩ := State.busOff_has (s := s.canCounters (s.vehicle.tecCount + 8) s.vehicle.recCount)
      (counted.length.trans hf)
    have time := State.passed_of_keeper (counted.frame.group .keeper (by decide))
    rw [counted.vehicle, time] at seven
    exact ⟨_, counted.then off, congrArg Vehicle.tecCount counted.vehicle, fun _ => ⟨rfl, two, seven⟩⟩
  · exact ⟨_, counted, rfl, fun above => by omega⟩

theorem canError_transmit_counts (hf : s.faults.length = 18) (run : s.running = true) (node : s.cfg.canMode.isSome = true)
    (on : s.vehicle.can ≠ .busOff) (busy : s.vehicle.canOut.busy = true) : Runs (.canError .transmit) s fun t =>
      Keeps [.vehicle, .faults, .logs, .pins] s t ∧ StickyKept s t ∧ t.vehicle.tecCount = s.vehicle.tecCount + 8 ∧
      (255 < s.vehicle.tecCount + 8 → t.vehicle.can = .busOff ∧ t.has .raivo 2 = true ∧
        (15 ≤ (s.vehicle.busOffs.filter fun x => !s.passed x 3600000).length → t.has .raivo 7 = true)) := by
  obtain ⟨v, failed, counter, off⟩ := State.transmitFailed_reported hf
  have later := (Reported.upd (s := s.transmitFailed) (f := fun v => { v with canOut := v.canOut.again v.canFree })).raiseIf
    (i := 3) (s.vehicle.canOut.replaced = some false)
  obtain ⟨frame, vehicle, sticky, -⟩ := failed.then later
  rw [failed.vehicle] at vehicle
  refine runs_next (execCanError_transmit run node on busy) ⟨frame, sticky, by rw [vehicle]; exact counter, fun above => ?_⟩
  obtain ⟨state, two, seven⟩ := off above
  exact ⟨by rw [vehicle]; exact state, later.sticky _ _ two, fun many => later.sticky _ _ (seven many)⟩

theorem execBusOffRecovery_run (off : s.vehicle.can = .busOff) :
    exec .busOffRecovery s = .next (s.updVehicle fun v => { v with
      can := .active, tecCount := 0, recCount := 0
      canOut := { v.canOut with busy := !v.canOut.stopped && !v.canOut.queue.isEmpty } }) := by
  simp only [exec, execBusOffRecovery, off, if_true]

end

/-- Settles O45: each command is one update of the vehicle interfaces with the sources it reports, which leave that update. -/
theorem vehicleStreamsAndCan : Obligations.VehicleStreamsAndCan := by
  unfold Obligations.VehicleStreamsAndCan
  have only {s : State} {f : Vehicle → Vehicle} : Keeps [.vehicle] s (s.updVehicle f) :=
    (State.updVehicle_keeps (by decide) _).mpr (Keeps.refl _ s)
  refine ⟨fun s hf => ⟨publicationStart_begins hf, fun busy => ?_, fun busy echo => rs485FrameComplete_advances hf busy⟩,
    fun s run node hf => ⟨fun i d free => canFrameReceived_lowers run node free, fun on drives => ⟨fun k n hk => ?_,
      canError_transmit_counts hf run node on⟩, fun off => ?_⟩⟩
  · refine runs_next (execCanFrameComplete_run busy) ⟨only, rfl, rfl, rfl, ?_⟩
    simp [Stream.advance]
  · obtain ⟨frame, vehicle, sticky, -⟩ := State.canCounters_reported (s := s) s.vehicle.tecCount (s.vehicle.recCount + n)
    exact runs_next (execCanError_receive hk run node on drives) ⟨frame, sticky, by rw [vehicle]; rfl, by rw [vehicle]; rfl,
      State.canCounters_passive hf⟩
  · exact runs_next (execBusOffRecovery_run off) ⟨only, rfl, rfl, rfl, rfl⟩

end Sys2Proof.Machine

/-!
PROOFS. The service port, the loading and commit of images, and the SERVICE frames between Dealer and Hands (chapter 18).
-/
namespace Sys2Proof.Machine

/-! ### Requests and responses -/

section
variable {s u : State} {f g : Byte} {k : State → State} {status : Nat} {payload : List Byte} {r : Request}

theorem State.serve_busy (serves : s.serves = true) (busy : s.service.request.isSome = true) :
    s.serve f g k = s.respond f g 5 [] := by
  simp [State.serve, serves, busy]

theorem State.serve_free (serves : s.serves = true) (free : s.service.request = none) : s.serve f g k = k s := by
  simp [State.serve, serves, free]

theorem State.respond_service : (s.respond f g status payload).service =
    { s.service with
      response := some { function := f, tag := g, status := BitVec.ofNat 8 status, payload := payload } } := rfl

theorem State.respond_frame : Keeps [.service, .logs] s (s.respond f g status payload) :=
  (State.respond_keeps (by decide) _ _ _ _).mpr (Keeps.refl _ s)

theorem State.answer_frame : Keeps [.service, .logs] s (s.answer status payload) :=
  (State.answer_keeps (by decide) _ _).mpr (Keeps.refl _ s)

/-- The end of a request: its response stands and none runs (R550). -/
theorem State.answer_service (runs : s.service.request = some r) : (s.answer status payload).service =
    { s.service with
      request := none
      response := some { function := r.function, tag := r.tag, status := BitVec.ofNat 8 status, payload := payload } } := by
  simp only [State.answer, runs]
  rfl

theorem State.sendService_frame (p : Port) (ws : List Word) : Keeps [.portN, .portS, .service] s (s.sendService p ws) :=
  (State.sendService_keeps (by decide) _ _).mpr (Keeps.refl _ s)

/-- A SERVICE frame that waits for the next deal is all that can change of the service port. -/
theorem State.sendService_service (p : Port) (ws : List Word) :
    ∃ held, (s.sendService p ws).service = { s.service with held := held } := by
  unfold State.sendService
  split
  · cases p <;> exact ⟨_, rfl⟩
  · exact ⟨_, rfl⟩

end

/-! ### The functions of the port -/

section
variable {s : State} {f g p n : Byte} {q : BitVec 16} {bs : List Byte}

/-- The commands of the four functions, each by its function and tag, draw status 5 while another request runs. -/
theorem exec_busy (serves : s.serves = true) (busy : s.service.request.isSome = true) {c : Instr}
    (request : (c = Instr.ident g ∧ f = 0x01) ∨ (∃ p q n, c = .logRead g p q n ∧ f = 0x02) ∨
      (∃ a b n x, c = .imageLoad g a b n x ∧ f = 0x03) ∨ (∃ a, c = .imageCommit g a ∧ f = 0x04)) :
    exec c s = .next (s.respond f g 5 []) := by
  rcases request with ⟨rfl, rfl⟩ | ⟨p, q, n, rfl, rfl⟩ | ⟨a, b, n, x, rfl, rfl⟩ | ⟨a, rfl, rfl⟩
  · exact congrArg _ (State.serve_busy serves busy)
  · exact congrArg _ (State.serve_busy serves busy)
  · exact congrArg _ (State.serve_busy serves busy)
  · exact congrArg _ (State.serve_busy serves busy)

/-- A word drawn for what the manual leaves open changes nothing that IDENT tells. -/
theorem State.seqBounds_same : s.seqBounds.2.service = s.service ∧ ∀ b, s.seqBounds.2.identity b = s.identity b := by
  unfold State.seqBounds
  split <;> exact ⟨rfl, fun _ => rfl⟩

theorem execIdent_run (serves : s.serves = true) (free : s.service.request = none) :
    exec (.ident g) s = .next (s.seqBounds.2.respond 0x01 g 0 (s.seqBounds.2.identity s.seqBounds.1)) :=
  congrArg _ (State.serve_free serves free)

theorem ident_answers (serves : s.serves = true) (free : s.service.request = none) :
    Runs (.ident g) s fun t => Keeps [.service, .logs, .dev] s t ∧
      ∃ b, t.service = { s.service with response := some { function := 0x01, tag := g, status := 0, payload := s.identity b } } := by
  obtain ⟨service, same⟩ := s.seqBounds_same
  refine runs_next (execIdent_run serves free) ⟨?_, s.seqBounds.1, ?_⟩
  · simp (disch := decide) only [State.respond_keeps, State.seqBounds_keeps, Keeps.refl]
  · rw [State.respond_service, service, same]
    rfl

theorem State.firstReturned_service (rs : List (List Byte)) : (s.firstReturned rs).2.service = s.service := by
  unfold State.firstReturned
  split <;> rfl

theorem execLogRead_own (serves : s.serves = true) (free : s.service.request = none) :
    exec (.logRead g 0xFF q n) s = .next (s.readOwn g q n.toNat) :=
  congrArg _ ((State.serve_free serves free).trans (by simp))

theorem logRead_own (serves : s.serves = true) (free : s.service.request = none) :
    Runs (.logRead g 0xFF q n) s fun t => Keeps [.service, .logs, .dev] s t ∧
      ∃ w : Word, t.service = { s.service with response := some { function := 0x02, tag := g, status := 0
                                                                  payload := bytesBE 2 w.toNat ++
        [BitVec.ofNat 8 (s.recordsFrom q (sat 64 n.toNat)).length] ++ (s.recordsFrom q (sat 64 n.toNat)).flatten } } := by
  refine runs_next (execLogRead_own serves free)
    ⟨(State.readOwn_keeps (by decide) _ _ _).mpr (Keeps.refl _ s), (s.firstReturned (s.recordsFrom q (sat 64 n.toNat))).1, ?_⟩
  rw [State.readOwn, State.respond_service, State.firstReturned_service]
  rfl

theorem execLogRead_remote (serves : s.serves = true) (free : s.service.request = none) (named : p ≠ 0xFF)
    (other : s.position ≠ some (p.setWidth 6)) : exec (.logRead g p q n) s = .next (s.readRemote g p.toNat q n.toNat) :=
  have named : ¬ p = 0xFF#8 := named
  congrArg _ ((State.serve_free serves free).trans (by simp [named, other]))

theorem State.readRemote_hand {i : Nat} {m : Nat} (hand : s.isDealer = false) :
    s.readRemote g i q m = s.respond 0x02 g 2 [] := by
  simp [State.readRemote, hand]

theorem State.readRemote_outOfRange {i : Nat} {m : Nat} (dealer : s.isDealer = true) (beyond : s.ring.count ≤ i) :
    s.readRemote g i q m = s.respond 0x02 g 3 [] := by
  simp [State.readRemote, dealer, beyond]

/-- The remote read of a position runs until its records come (R552). -/
theorem State.readRemote_runs {i m : Nat} (dealer : s.isDealer = true) (inRing : i < s.ring.count) (asked : m ≠ 0) :
    Keeps [.service, .portN, .portS] s (s.readRemote g i q m) ∧
    (s.readRemote g i q m).service.request = some { function := 0x02, tag := g, position := BitVec.ofNat 8 i } := by
  have range : ¬ (s.ring.count ≤ i ∨ m = 0) := by omega
  simp only [State.readRemote, dealer, range, Bool.not_true, Bool.false_eq_true, if_false]
  have noted : Keeps [.service, .portN, .portS] s (s.updService fun v =>
      { v with request := some { function := 0x02, tag := g, position := BitVec.ofNat 8 i } }) :=
    (State.updService_keeps (by decide) _).mpr (Keeps.refl _ s)
  split
  · refine ⟨noted.trans ((State.sendService_frame _ _).mono (by decide)), ?_⟩
    obtain ⟨held, service⟩ := State.sendService_service (s := s.updService fun v =>
      { v with request := some { function := 0x02, tag := g, position := BitVec.ofNat 8 i } })
      (State.portToward _ i) [callWord 3 i 0, word q.toNat, word (sat 7 m)]
    rw [service]
    rfl
  · exact ⟨noted, rfl⟩

theorem execRemoteTimeout_run {r : Request} (serves : s.serves = true) (runs : s.service.request = some r)
    (read : r.function = 0x02) : exec .remoteTimeout s = .next (s.answer 6 []) := by
  simp [exec, execRemoteTimeout, serves, runs, read]

theorem execInvalidServiceRequest_crc (long : 6 ≤ bs.length)
    (bad : (crc16 (bs.take (bs.length - 2))).toNat ≠ ofBytesBE (bs.drop (bs.length - 2))) :
    exec (.invalidServiceRequest bs) s = .next s := by
  simp [exec, execInvalidServiceRequest, long, bad]

theorem execInvalidServiceRequest_length (long : 6 ≤ bs.length)
    (good : (crc16 (bs.take (bs.length - 2))).toNat = ofBytesBE (bs.drop (bs.length - 2))) (ident : bs.getD 0 0 = 0x01)
    (wrong : ofBytesBE ((bs.drop 2).take 2) ≠ 0) (serves : s.serves = true) (free : s.service.request = none) :
    exec (.invalidServiceRequest bs) s = .next (s.respond 0x01 (bs.getD 1 0) 3 []) := by
  simp only [exec, execInvalidServiceRequest, ident, payloadOk, long, good, wrong, if_true, decide_true, decide_false,
    Bool.and_false, Bool.true_or, Bool.and_self, Bool.not_false]
  exact congrArg _ (State.serve_free serves free)

theorem execServiceKeyRemoved_run {k : Rat} (run : s.running = true) (open_ : s.service.open_ = true) (gone : keyReads k = false) :
    exec (.serviceKeyRemoved k) s = .next { s with
      service := { s.service with open_ := false, request := none, pendCommit := none } } := by
  simp only [exec, execServiceKeyRemoved, run, open_, gone]
  rfl

end

/-- Settles O48: a request that is served runs its function alone, and each function ends in one response or in one request. -/
theorem servicePortAnswers : Obligations.ServicePortAnswers := by
  refine fun s => ⟨fun serves busy c f g request => ?_, fun serves free g => ⟨ident_answers serves free,
    fun q n => logRead_own serves free, fun p q n named other => ⟨fun hand => ?_, fun dealer beyond => ?_,
      fun dealer inRing asked => ?_⟩⟩, fun r serves runs read => ?_, fun bs long => ⟨execInvalidServiceRequest_crc long,
      fun good ident wrong serves free => ?_⟩, rfl, fun k run open_ gone => execServiceKeyRemoved_run run open_ gone⟩
  · exact runs_next (exec_busy serves busy request) ⟨State.respond_frame, rfl⟩
  · have run := execLogRead_remote (g := g) (q := q) (n := n) serves free named other
    rw [State.readRemote_hand hand] at run
    exact runs_next run ⟨State.respond_frame, rfl, free⟩
  · have run := execLogRead_remote (g := g) (q := q) (n := n) serves free named other
    rw [State.readRemote_outOfRange dealer beyond] at run
    exact runs_next run ⟨State.respond_frame, rfl, free⟩
  · have some_ : n.toNat ≠ 0 := fun zero => asked (BitVec.eq_of_toNat_eq (by simpa using zero))
    exact runs_next (execLogRead_remote serves free named other) (State.readRemote_runs dealer inRing some_)
  · have service := State.answer_service (status := 6) (payload := []) runs
    exact runs_next (execRemoteTimeout_run serves runs read)
      ⟨State.answer_frame, by rw [service], by rw [service, read]; rfl⟩
  · exact runs_next (execInvalidServiceRequest_length long good ident wrong serves free) ⟨State.respond_frame, free, rfl⟩

/-! ### Blocks of an image -/

section
variable {s u : State} {n total : Nat} {x : List Byte} {g sc : Byte} {b : Bool} {y : SlotState}

theorem slotOf_setSlot (m : NonVolatile) : slotOf (setSlot b y m) b = y := by cases b <;> rfl

theorem setSlot_activeB (m : NonVolatile) : (setSlot b y m).activeB = m.activeB := by cases b <;> rfl

theorem setSlot_armedB (m : NonVolatile) : (setSlot b y m).armedB = m.armedB := by cases b <;> rfl

theorem State.logImage_frame (event : Nat) : Keeps [.logs] s (s.logImage event b) :=
  (State.logImage_keeps (by decide) _ _).mpr (Keeps.refl _ s)

/-- A block that is taken stands in the inactive slot, which loads, and the next one is expected (R555). -/
structure BlockTaken (s t : State) (n total : Nat) (x : List Byte) : Prop where
  frame : Keeps [.service, .nv, .flash, .logs] s t
  slot : slotOf t.nv s.inactive = .loading
  active : t.nv.activeB = s.nv.activeB
  armed : n = 0 → t.nv.armedB = none
  next : t.service.nextBlock = n + 1
  total : t.service.total = total
  request : t.service.request = s.service.request
  flash : t.flash = Memory.program (if n % 64 = 0 then Memory.erase s.flash (slotBase s.inactive + 64 * n) 4096 else s.flash)
    (slotBase s.inactive + 64 * n) (padTo 64 x)

/-- Block 0 restarts the load and clears an armed commit (R555). -/
def State.restartLoad (s : State) : State :=
  (s.updService fun v => { v with pendCommit := none, distribute := none, reported := [] }).updNv fun x => { x with armedB := none }

/-- The block goes to flash, its sector erased where it is the first in it. -/
def State.putBlock (s : State) (n total : Nat) (x : List Byte) : State :=
  { s with
    flash := Memory.program (if n % 64 = 0 then Memory.erase s.flash (slotBase s.inactive + 64 * n) 4096 else s.flash)
      (slotBase s.inactive + 64 * n) (padTo 64 x)
    nv := { setSlot s.inactive .loading s.nv with shipped := s.nv.shipped && s.inactive }
    service := { s.service with nextBlock := n + 1, total := total } }

theorem State.writeBlock_first : s.writeBlock 0 total x = (s.restartLoad.putBlock 0 total x).logImage 1 s.inactive := rfl

theorem State.writeBlock_later (later : n ≠ 0) : s.writeBlock n total x = s.putBlock n total x := by
  simp only [State.writeBlock, later, if_false]
  rfl

theorem State.writeBlock_taken : BlockTaken s (s.writeBlock n total x) n total x := by
  have frame : Keeps [.service, .nv, .flash, .logs] s (s.writeBlock n total x) :=
    (State.writeBlock_keeps (by decide) _ _ _).mpr (Keeps.refl _ s)
  by_cases first : n = 0
  · subst first
    rw [State.writeBlock_first] at frame ⊢
    have logged := State.logImage_frame (s := s.restartLoad.putBlock 0 total x) (b := s.inactive) 1
    have nv : ((s.restartLoad.putBlock 0 total x).logImage 1 s.inactive).nv = (s.restartLoad.putBlock 0 total x).nv :=
      logged.group .nv (by decide)
    have service : ((s.restartLoad.putBlock 0 total x).logImage 1 s.inactive).service = (s.restartLoad.putBlock 0 total x).service :=
      logged.group .service (by decide)
    exact
      { frame
        slot := (congrArg (slotOf · s.inactive) nv).trans (slotOf_setSlot _)
        active := (congrArg NonVolatile.activeB nv).trans (setSlot_activeB _)
        armed := fun _ => (congrArg NonVolatile.armedB nv).trans (setSlot_armedB _)
        next := congrArg Service.nextBlock service
        total := congrArg Service.total service
        request := (congrArg Service.request service).trans rfl
        flash := logged.group .flash (by decide) }
  · rw [State.writeBlock_later first] at frame ⊢
    exact
      { frame
        slot := slotOf_setSlot _
        active := setSlot_activeB _
        armed := fun zero => absurd zero first
        next := rfl
        total := rfl
        request := rfl
        flash := rfl }

theorem padTo_self (h : x.length = n) : padTo n x = x := by simp [padTo, h]

theorem padTo_length : (padTo n x).length = n := by simp [padTo]

/-- A block reads back as it was written. -/
theorem BlockTaken.bytes {t : State} (k : BlockTaken s t n total x) (wf : Memory.wf s.flash = true) :
    Memory.bytes t.flash (slotBase s.inactive + 64 * n) 64 = padTo 64 x := by
  rw [k.flash]
  have read := Memory.bytes_program (x := slotBase s.inactive + 64 * n) (padTo 64 x)
    (show Memory.wf (if n % 64 = 0 then Memory.erase s.flash (slotBase s.inactive + 64 * n) 4096 else s.flash) = true by
      split
      · exact Memory.erase_wf wf _ _
      · exact wf)
  rwa [padTo_length] at read

theorem BlockTaken.inactive {t : State} (k : BlockTaken s t n total x) : t.inactive = s.inactive := by
  simp only [State.inactive, k.active]

/-! ### The functions of an image -/

/-- What follows the last block of a load request: its answer waits for the check once the image stands (R555). -/
def State.endLoad (s : State) (g : Byte) : State :=
  if s.loaded then s.updService fun v => { v with request := some { function := 0x03, tag := g, position := 0xFF } }
  else s.respond 0x03 g 0 s.loadAnswer

theorem loadOk_single (ok : loadOk sc n total [x] = true) : x.length = 64 ∧ n + 1 ≤ total := by
  simp only [loadOk, Bool.and_eq_true, decide_eq_true_eq, List.all_cons, List.all_nil, List.length_singleton] at ok
  obtain ⟨⟨⟨-, whole⟩, -⟩, within⟩ := ok
  exact ⟨by simpa using whole, within⟩

theorem execImageLoad_block (serves : s.serves = true) (free : s.service.request = none) (ok : loadOk sc n total [x] = true)
    (field : s.takesImages = true) (scope : sc = 1 → s.isDealer = true) (fits : s.blockFits n total = true) :
    exec (.imageLoad g sc n total [x]) s = .next
      (((s.writeBlock n total x).updService fun v => { v with ringScope := sc = 1 }).endLoad g) := by
  have foreign : (!s.takesImages || (sc = 1 && !s.isDealer)) = false := by
    cases dealer : s.isDealer <;> simp_all
  refine congrArg _ ((State.serve_free serves free).trans ?_)
  simp only [ok, foreign, fits, State.writeBlocks, State.endLoad, Bool.not_true, Bool.false_eq_true, if_false, if_true]

theorem State.endLoad_more (more : s.loaded = false) : s.endLoad g = s.respond 0x03 g 0 s.loadAnswer := by
  simp [State.endLoad, more]

theorem State.endLoad_last (last : s.loaded = true) : s.endLoad g =
    s.updService fun v => { v with request := some { function := 0x03, tag := g, position := 0xFF } } := by
  simp [State.endLoad, last]

/-- What the end of a load request leaves of a block that was taken. -/
theorem State.endLoad_frame : Keeps [.service, .logs] s (s.endLoad g) := by
  unfold State.endLoad
  split
  · exact (State.updService_keeps (by decide) _).mpr (Keeps.refl _ s)
  · exact State.respond_frame

theorem State.endLoad_counts :
    (s.endLoad g).service.nextBlock = s.service.nextBlock ∧ (s.endLoad g).service.total = s.service.total := by
  unfold State.endLoad
  split <;> exact ⟨rfl, rfl⟩

theorem imageLoad_block (serves : s.serves = true) (free : s.service.request = none) (wf : Memory.wf s.flash = true)
    (ok : loadOk sc n total [x] = true) (field : s.takesImages = true) (scope : sc = 1 → s.isDealer = true)
    (fits : s.blockFits n total = true) :
    Runs (.imageLoad g sc n total [x]) s fun t =>
      Keeps [.logs, .service, .nv, .flash] s t ∧ slotOf t.nv t.inactive = .loading ∧ t.nv.activeB = s.nv.activeB ∧
      t.service.nextBlock = n + 1 ∧ t.service.total = total ∧
      Memory.bytes t.flash (slotBase s.inactive + 64 * n) 64 = x ∧ (n = 0 → t.nv.armedB = none) ∧
      (n + 1 < total → t.service.request = none ∧
        ∃ p, t.service.response = some { function := 0x03, tag := g, status := 0, payload := p }) ∧
      (n + 1 = total → t.service.request = some { function := 0x03, tag := g, position := 0xFF }) := by
  obtain ⟨whole, within⟩ := loadOk_single ok
  have taken := State.writeBlock_taken (s := s) (n := n) (total := total) (x := x)
  have bytes := taken.bytes wf
  have loaded : ((s.writeBlock n total x).updService fun v => { v with ringScope := sc = 1 }).loaded = decide (n + 1 = total) := by
    have slot : slotOf (s.writeBlock n total x).nv (s.writeBlock n total x).inactive = .loading := by
      rw [taken.inactive, taken.slot]
    have positive : total ≠ 0 := by omega
    change (decide (slotOf (s.writeBlock n total x).nv (s.writeBlock n total x).inactive = .loading) &&
      decide ((s.writeBlock n total x).service.total ≠ 0) &&
      decide ((s.writeBlock n total x).service.nextBlock = (s.writeBlock n total x).service.total)) = _
    simp [slot, taken.next, taken.total, positive]
  have ended := State.endLoad_frame (s := (s.writeBlock n total x).updService fun v => { v with ringScope := sc = 1 }) (g := g)
  obtain ⟨next, count⟩ := State.endLoad_counts (s := (s.writeBlock n total x).updService fun v => { v with ringScope := sc = 1 })
    (g := g)
  have nv := (ended.group .nv (by decide) :)
  refine runs_next (execImageLoad_block serves free ok field scope fits) ⟨?_, ?_, ?_, next.trans taken.next, count.trans taken.total,
    ?_, fun zero => (congrArg NonVolatile.armedB nv).trans (taken.armed zero), fun more => ?_, fun last => ?_⟩
  · exact ((taken.frame.trans ((State.updService_keeps (by decide) _).mpr (Keeps.refl _ _))).mono (by decide)).trans
      (ended.mono (by decide))
  · rw [State.inactive, nv]
    exact (congrArg (slotOf _) taken.inactive).trans taken.slot
  · exact (congrArg NonVolatile.activeB nv).trans taken.active
  · rw [padTo_self whole] at bytes
    exact (congrArg (Memory.bytes · _ 64) (ended.group .flash (by decide))).trans bytes
  · rw [State.endLoad_more (by rw [loaded]; exact decide_eq_false (by omega))]
    exact ⟨taken.request.trans free, _, rfl⟩
  · rw [State.endLoad_last (by rw [loaded]; exact decide_eq_true last)]
    rfl

end

/-! ### The check and the commit -/

section
variable {s u : State} {g : Byte} {b : Bool} {c : ImageCheck}

/-- The slot is decided and the check is recorded. -/
def State.decideSlot (s : State) : State :=
  (s.updNv (setSlot s.inactive (if decide (s.checkImage s.inactive = .ok) then .verified else .failed))).logImage
    (s.checkImage s.inactive).event s.inactive

/-- The request that waits for the check, if any, is answered. -/
def State.answerLoad (s : State) (ok : Bool) : State :=
  if s.service.request.any fun r => r.function == 0x03 then s.answer (if ok then 0 else 7) s.loadAnswer else s

/-- The Dealer begins to distribute an image of ring scope; a Hand reports. -/
def State.spreadCheck (s : State) (c : ImageCheck) (b : Bool) : State :=
  if s.isDealer then
    if decide (c = .ok) && s.service.ringScope && !s.isToken b then s.updService fun v => { v with distribute := some 0 } else s
  else (s.statusOfCheck c).2.sendImageStatus (s.statusOfCheck c).2.service.nextBlock (s.statusOfCheck c).1

theorem execImageVerified_run (run : s.running = true) (core : s.core = true) (loaded : s.loaded = true) :
    exec .imageVerified s = .next ((s.decideSlot.answerLoad (s.checkImage s.inactive = .ok)).spreadCheck
      (s.checkImage s.inactive) s.inactive) := by
  simp only [exec, execImageVerified, run, core, loaded, Bool.and_self, Bool.not_true, Bool.false_eq_true, if_false]
  rfl

theorem State.statusOfCheck_service : (s.statusOfCheck c).2.service = s.service := by cases c <;> rfl

theorem State.spreadCheck_frame : Keeps [.dev, .service, .portN, .portS] s (s.spreadCheck c b) := by
  unfold State.spreadCheck
  split
  · split
    · exact (State.updService_keeps (by decide) _).mpr (Keeps.refl _ s)
    · exact Keeps.refl _ s
  · simp (disch := decide) only [State.sendImageStatus_keeps, State.statusOfCheck_keeps, Keeps.refl]

theorem State.spreadCheck_service : (s.spreadCheck c b).service.request = s.service.request ∧
    (s.spreadCheck c b).service.response = s.service.response := by
  unfold State.spreadCheck
  split
  · split <;> exact ⟨rfl, rfl⟩
  · obtain ⟨held, service⟩ := State.sendService_service (s := (s.statusOfCheck c).2) (s.statusOfCheck c).2.ring.primary
      [callWord 2 0 0, word (s.statusOfCheck c).2.service.nextBlock, word ((s.statusOfCheck c).1 * 2 ^ 16)]
    rw [State.sendImageStatus, service, State.statusOfCheck_service]
    exact ⟨rfl, rfl⟩

theorem State.answerLoad_frame (ok : Bool) : Keeps [.service, .logs] s (s.answerLoad ok) := by
  unfold State.answerLoad
  split
  · exact State.answer_frame
  · exact Keeps.refl _ s

theorem State.answerLoad_answers (ok : Bool) {r : Request} (waits : s.service.request = some r) (load : r.function = 0x03) :
    (s.answerLoad ok).service.request = none ∧ (s.answerLoad ok).service.response =
      some { function := 0x03, tag := r.tag, status := if ok then 0 else 7, payload := s.loadAnswer } := by
  have asked : (s.service.request.any fun r => r.function == 0x03) = true := by simp [waits, load]
  rw [State.answerLoad, if_pos asked, State.answer_service waits, load]
  cases ok <;> exact ⟨rfl, rfl⟩

theorem State.decideSlot_frame : Keeps [.nv, .logs] s s.decideSlot := by
  unfold State.decideSlot
  simp (disch := decide) only [State.logImage_keeps, State.updNv_keeps, Keeps.refl]

theorem State.decideSlot_nv : s.decideSlot.nv =
    setSlot s.inactive (if s.checkImage s.inactive = .ok then .verified else .failed) s.nv :=
  ((State.logImage_frame _).group .nv (by decide)).trans (by simp only [State.updNv, decide_eq_true_eq])

theorem imageVerified_decides (run : s.running = true) (core : s.core = true) (loaded : s.loaded = true) :
    Runs .imageVerified s fun t =>
      Keeps [.nv, .logs, .service, .dev, .portN, .portS] s t ∧
      slotOf t.nv s.inactive = (if s.checkImage s.inactive = .ok then .verified else .failed) ∧ t.nv.activeB = s.nv.activeB ∧
      ∀ r, s.service.request = some r → r.function = 0x03 → t.service.request = none ∧
        ∃ p, t.service.response = some { function := 0x03, tag := r.tag
                                         status := if s.checkImage s.inactive = .ok then 0 else 7, payload := p } := by
  have answered := State.answerLoad_frame (s := s.decideSlot) (s.checkImage s.inactive = .ok)
  have spread := State.spreadCheck_frame (s := s.decideSlot.answerLoad (s.checkImage s.inactive = .ok))
    (c := s.checkImage s.inactive) (b := s.inactive)
  have nv := ((spread.group .nv (by decide)).trans (answered.group .nv (by decide))).trans State.decideSlot_nv
  refine runs_next (execImageVerified_run run core loaded) ⟨?_, ?_, ?_, fun r waits load => ?_⟩
  · exact ((State.decideSlot_frame.mono (by decide)).trans (answered.mono (by decide))).trans (spread.mono (by decide))
  · exact (congrArg (slotOf · s.inactive) nv).trans (slotOf_setSlot _)
  · exact (congrArg NonVolatile.activeB nv).trans (setSlot_activeB _)
  · obtain ⟨request, response⟩ := State.spreadCheck_service
      (s := s.decideSlot.answerLoad (s.checkImage s.inactive = .ok)) (c := s.checkImage s.inactive) (b := s.inactive)
    have waiting : s.decideSlot.service.request = some r :=
      (congrArg Service.request (State.decideSlot_frame.group .service (by decide))).trans waits
    obtain ⟨ended, answer⟩ := State.answerLoad_answers (s.checkImage s.inactive = .ok) waiting load
    exact ⟨request.trans ended, s.decideSlot.loadAnswer, response.trans (answer.trans (by simp only [decide_eq_true_eq]))⟩

/-- The inactive slot is armed for the next boot of this device (R557). -/
theorem State.arm_own : (s.arm false).nv = { s.nv with armedB := some s.inactive } ∧ Keeps [.logs, .service, .nv] s (s.arm false) := by
  have logged := State.logImage_frame (s := (s.updNv fun x => { x with armedB := some s.inactive }).updService fun v =>
    { v with pendCommit := none, committed := [] }) (b := s.inactive) 5
  have armed : Keeps [.logs, .service, .nv] s ((s.updNv fun x => { x with armedB := some s.inactive }).updService fun v =>
      { v with pendCommit := none, committed := [] }) := by
    simp (disch := decide) only [State.updService_keeps, State.updNv_keeps, Keeps.refl]
  exact ⟨logged.group .nv (by decide), armed.trans (logged.mono (by decide))⟩

theorem execImageCommit_arms (serves : s.serves = true) (free : s.service.request = none) (field : s.takesImages = true)
    (verified : slotOf s.nv s.inactive = .verified) (may : s.mayArm = true) :
    exec (.imageCommit g 0) s = .next ((s.arm false).respond 0x04 g 0 (commitCounts 1 0 0)) := by
  refine congrArg _ ((State.serve_free serves free).trans ?_)
  simp [field, verified, may]

/-- A commit that the pack's state does not let through waits (R558). -/
def State.holdCommit (s : State) : State :=
  (s.updService fun v => { v with pendCommit := some false }).logImage 6 s.inactive

theorem execImageCommit_waits (serves : s.serves = true) (free : s.service.request = none) (field : s.takesImages = true)
    (verified : slotOf s.nv s.inactive = .verified) (may : s.mayArm = false) :
    exec (.imageCommit g 0) s = .next (s.holdCommit.respond 0x04 g 4 (commitCounts 0 1 0)) := by
  refine congrArg _ ((State.serve_free serves free).trans ?_)
  simp [field, verified, may, State.holdCommit]

end

/-- Settles O49: one block is taken as one, the check decides the slot it stands in, and a commit arms that slot or waits. -/
theorem imagesAreLoadedAndCommitted : Obligations.ImagesAreLoadedAndCommitted := by
  refine fun s => ⟨fun g sc n total x serves free wf ok field scope fits => imageLoad_block serves free wf ok field scope fits,
    imageVerified_decides, fun g serves free field verified => ⟨fun may => ?_, fun may => ?_⟩⟩
  · obtain ⟨nv, armed⟩ := s.arm_own
    exact runs_next (execImageCommit_arms serves free field verified may)
      ⟨armed.trans (State.respond_frame.mono (by decide)), nv, rfl⟩
  · have held : Keeps [.logs, .service] s s.holdCommit := by
      unfold State.holdCommit
      simp (disch := decide) only [State.logImage_keeps, State.updService_keeps, Keeps.refl]
    have pending := congrArg Service.pendCommit ((State.logImage_frame (s := s.updService fun v =>
      { v with pendCommit := some false }) (b := s.inactive) 6).group .service (by decide))
    exact runs_next (execImageCommit_waits serves free field verified may)
      ⟨held.trans (State.respond_frame.mono (by decide)), pending, rfl⟩

/-! ### SERVICE frames that reach the device -/

section
variable {s t u w : State} {p r : Port} {f : RxFrame} {P : State → Prop} {c : Instr} {x : TxFrame} {ws : List Word}
  {k : PortState → PortState}

/-- What a port expects, owes and holds behind a gap is the same in both states. -/
def SameReceiving (p : Port) (s t : State) : Prop :=
  (t.port p).rxNext = (s.port p).rxNext ∧ (t.port p).ackDue = (s.port p).ackDue ∧
  (t.port p).heldFrames = (s.port p).heldFrames ∧ (t.port p).heldSkips = (s.port p).heldSkips

theorem SameReceiving.of_port (h : t.port p = s.port p) : SameReceiving p s t := by
  unfold SameReceiving
  rw [h]
  exact ⟨rfl, rfl, rfl, rfl⟩

theorem SameReceiving.trans (h : SameReceiving p s t) (k : SameReceiving p t u) : SameReceiving p s u := by
  obtain ⟨next, ack, frames, skips⟩ := h
  obtain ⟨next', ack', frames', skips'⟩ := k
  exact ⟨next'.trans next, ack'.trans ack, frames'.trans frames, skips'.trans skips⟩

theorem SameReceiving.of_keeps {G : List Group} (h : Keeps G s t) (north : covers [.portN] G = false)
    (south : covers [.portS] G = false) : SameReceiving p s t :=
  .of_port (h.port p north south)

theorem State.updPort_receiving (g : PortState → PortState)
    (same : ∀ q, (g q).rxNext = q.rxNext ∧ (g q).ackDue = q.ackDue ∧ (g q).heldFrames = q.heldFrames ∧
      (g q).heldSkips = q.heldSkips) : SameReceiving p s (s.updPort r g) := by
  unfold SameReceiving
  rw [State.port_updPort]
  split
  · exact same _
  · exact ⟨rfl, rfl, rfl, rfl⟩

theorem State.queue_receiving : SameReceiving p s (s.queue r x) := by
  refine State.updPort_receiving _ fun q => ?_
  split
  · split <;> exact ⟨rfl, rfl, rfl, rfl⟩
  · exact ⟨rfl, rfl, rfl, rfl⟩

theorem State.freeSlot_receiving (slot : Option (Port × Bool)) : SameReceiving p s (s.freeSlot slot) := by
  cases slot with
  | none => exact .of_port rfl
  | some slot =>
    refine State.updPort_receiving _ fun q => ?_
    unfold PortState.free
    split <;> exact ⟨rfl, rfl, rfl, rfl⟩

/-- A SERVICE frame goes on by the other port; the port it came by frees its slot at most. -/
theorem State.relay_receiving : SameReceiving p s (s.relay p .service f) := by
  have early : meldLate (s.port p.other) (relayFrame p .service f) = false := by simp [meldLate, relayFrame]
  unfold State.relay
  simp only [early, Bool.false_eq_true, if_false]
  split
  · exact State.queue_receiving.trans (State.freeSlot_receiving _)
  · split
    · exact State.updPort_receiving _ fun q => ⟨rfl, rfl, rfl, rfl⟩
    · exact State.queue_receiving

theorem State.sendService_receiving : SameReceiving p s (s.sendService r ws) := by
  unfold State.sendService
  split
  · exact State.queue_receiving.trans (State.updPort_receiving _ fun q => ⟨rfl, rfl, rfl, rfl⟩)
  · exact .of_port rfl

/-- A port after it has taken a SERVICE frame in order (R269, R276). -/
def PortState.takenService (deals : Bool) (f : RxFrame) (q : PortState) : PortState :=
  { q with
    feed := Feed.off, fails := 0, rxNext := q.rxNext + 1, nakSent := false, ackDue := some (.ack q.rxNext)
    seen := if deals then q.seen ++ [.service f.src] else q.seen }

/-- The state in which a SERVICE frame that was taken is acted on: consumed, or relayed first (R264, R267). -/
def State.tookService (s : State) (p : Port) (f : RxFrame) : State :=
  if s.consumes p .service f then s.updPort p fun q => (q.takenService s.deals f).free f.reserve
  else (s.updPort p (PortState.takenService s.deals f)).relay p .service f

theorem State.noteFrame_service (fresh : fenceHit (s.port p).seen (.service f.src) = false) :
    s.noteFrame p .service f = s.updPort p fun q => { q with seen := if s.deals then q.seen ++ [.service f.src] else q.seen } := by
  unfold State.noteFrame seenOf State.noteSeen
  cases deals : s.deals
  · cases p <;> rfl
  · simp [fresh]

theorem State.relay_frame : Keeps [.portN, .portS] s (s.relay p .service f) := by
  have early : meldLate (s.port p.other) (relayFrame p .service f) = false := by simp [meldLate, relayFrame]
  unfold State.relay
  simp only [early, Bool.false_eq_true, if_false]
  split
  · simp (disch := decide) only [State.freeSlot_keeps, State.queue_keeps, Keeps.refl]
  · split <;> simp (disch := decide) only [State.updPort_keeps, State.queue_keeps, Keeps.refl]

theorem State.tookService_frame : Keeps [.portN, .portS] s (s.tookService p f) := by
  unfold State.tookService
  split
  · exact (State.updPort_keeps (by decide) _ _).mpr (Keeps.refl _ s)
  · exact ((State.updPort_keeps (by decide) _ _).mpr (Keeps.refl _ s)).trans State.relay_frame

/-- The port that took the frame expects the next one and owes its ACK; what it holds is as it was. -/
theorem State.tookService_port : ((s.tookService p f).port p).rxNext = (s.port p).rxNext + 1 ∧
    ((s.tookService p f).port p).ackDue = some (.ack (s.port p).rxNext) ∧
    ((s.tookService p f).port p).heldFrames = (s.port p).heldFrames ∧
    ((s.tookService p f).port p).heldSkips = (s.port p).heldSkips := by
  unfold State.tookService
  split
  · rw [State.updPort_port]
    unfold PortState.free
    split <;> exact ⟨rfl, rfl, rfl, rfl⟩
  · obtain ⟨next, ack, frames, skips⟩ := State.relay_receiving (s := s.updPort p (PortState.takenService s.deals f)) (p := p) (f := f)
    rw [State.updPort_port] at next ack frames skips
    exact ⟨next, ack, frames, skips⟩

theorem Keeps.actsOn (h : Keeps [.portN, .portS] s t) : t.actsOn .service f = s.actsOn .service f := by
  have ring : t.ring = s.ring := h.group .ring (by decide)
  simp only [State.actsOn, State.isTarget, State.position, ring, h.isDealer (by decide)]

theorem State.take_service (checks : s.checksOk .service f = true) (free : (s.port p).fenced = false)
    (fresh : fenceHit (s.port p).seen (.service f.src) = false) (acts : s.actsOn .service f = true) :
    s.take p .service f 0 = (if s.consumes p .service f then
        s.updPort p fun q => PortState.free f.reserve { q with seen := if s.deals then q.seen ++ [.service f.src] else q.seen }
      else (s.updPort p fun q => { q with seen := if s.deals then q.seen ++ [.service f.src] else q.seen }).relay p .service f).consume
        p .service f 0 := by
  have consumes : ∀ g, (s.updPort p g).consumes p .service f = s.consumes p .service f := by intro g; cases p <;> rfl
  unfold State.take
  simp only [free, checks, State.noteFrame_service fresh, State.updPort_port, State.updPort_updPort, consumes, Bool.not_true,
    Bool.false_eq_true, if_false, reduceCtorEq]
  split
  · rw [((State.updPort_keeps (by decide) _ _).mpr (Keeps.refl _ s)).actsOn, if_pos acts]
  · rw [State.relay_frame.actsOn, ((State.updPort_keeps (by decide) _ _).mpr (Keeps.refl _ s)).actsOn, if_pos acts]

theorem Reaches.receive_eq (h : Reaches s p .service f) :
    s.receive p .service f 0 = ((s.tookService p f).consume p .service f 0).drainAll p := by
  obtain ⟨hears, up, free, next, -, -, checks, fresh, acts⟩ := h
  have kept : Keeps [.portN, .portS] s (s.updPort p fun q => advance { q with feed := Feed.off, fails := 0 }) :=
    (State.updPort_keeps (by decide) _ _).mpr (Keeps.refl _ s)
  have taken := State.take_service (s := s.updPort p fun q => advance { q with feed := Feed.off, fails := 0 }) (p := p) (f := f)
    (by cases p <;> exact checks) (by rw [State.updPort_port]; exact free) (by rw [State.updPort_port]; exact fresh _ rfl)
    (kept.actsOn.trans acts)
  have consumes : (s.updPort p fun q => advance { q with feed := Feed.off, fails := 0 }).consumes p .service f =
      s.consumes p .service f := by cases p <;> rfl
  have deals : (s.updPort p fun q => advance { q with feed := Feed.off, fails := 0 }).deals = s.deals := by cases p <;> rfl
  simp only [State.receive, State.endFeed, State.inOrder, hears, State.updPort_port, State.updPort_updPort, up, next, Bool.not_true,
    Bool.false_eq_true, if_false, if_true, taken, consumes, deals]
  rfl

/-- A SERVICE frame that reaches the device is taken; its handling decides the rest, where it keeps what its port expects. -/
theorem Reaches.runs (h : Reaches s p .service f) (run : exec c s = .next (s.receive p .service f 0))
    (act : SameReceiving p (s.tookService p f) ((s.tookService p f).consume p .service f 0) ∧
      P ((s.tookService p f).consume p .service f 0)) : Runs c s fun u => P u ∧ Taken s u p f := by
  obtain ⟨⟨next, ack, frames, skips⟩, result⟩ := act
  obtain ⟨nextW, ackW, framesW, skipsW⟩ := s.tookService_port (p := p) (f := f)
  have e := h.receive_eq
  obtain ⟨-, -, -, seq, noFrames, noSkips, -⟩ := h
  rw [e, State.drainAll_id _ _ (frames.trans (framesW.trans noFrames)) (skips.trans (skipsW.trans noSkips))] at run
  exact runs_next run ⟨result, next.trans nextW, by rw [ack, ackW, seq]⟩

theorem Delivers.reaches (h : Delivers s p .service f) : Reaches s p .service f := by
  obtain ⟨hears, up, free, next, frames, skips, checks, fresh, -, acts⟩ := h
  exact ⟨hears, up, free, next, frames, skips, checks, fresh, acts⟩

/-- A frame that is consumed leaves what the ports send as it was. -/
theorem State.tookService_sending (consumed : s.consumes p .service f = true) (r : Port) :
    ((s.tookService p f).port r).serviceQ = (s.port r).serviceQ ∧
    ((s.tookService p f).port r).serviceSent = (s.port r).serviceSent ∧ ((s.tookService p f).port r).up = (s.port r).up ∧
    ((s.tookService p f).port r).fenced = (s.port r).fenced := by
  unfold State.tookService
  rw [if_pos consumed, State.port_updPort]
  unfold PortState.free
  split
  · split <;> exact ⟨rfl, rfl, rfl, rfl⟩
  · exact ⟨rfl, rfl, rfl, rfl⟩

/-- A SERVICE frame within the deal's count joins the queue of its port (R261, R262). -/
theorem State.sendService_serviceQ (within : (s.port r).serviceSent < s.serviceLimit) (up : (s.port r).up = true)
    (free : (s.port r).fenced = false) :
    ((s.sendService r ws).port r).serviceQ = (s.port r).serviceQ ++ [s.ownFrame r .service ws] := by
  simp [State.sendService, within, State.send, State.queue, State.ownFrame, up, free]

theorem State.sendService_ports (within : (s.port r).serviceSent < s.serviceLimit) :
    Keeps [.portN, .portS] s (s.sendService r ws) := by
  rw [State.sendService, if_pos within]
  simp (disch := decide) only [State.updPort_keeps, State.send_keeps, Keeps.refl]

theorem Keeps.ownFrame (h : Keeps [.portN, .portS, .dev] s t) (ft : FrameType) : t.ownFrame r ft ws = s.ownFrame r ft ws := by
  have ring : t.ring = s.ring := h.group .ring (by decide)
  simp only [State.ownFrame, State.position, State.dealNo, ring, h.isDealer (by decide)]

end

/-! ### IMAGE_BLOCK and IMAGE_STATUS -/

section
variable {s w : State} {p : Port} {f : RxFrame} {ws : List Word} {src : Nat}

/-- A Hand with a working core, in a state that takes images. -/
structure TakesBlocks (s : State) : Prop where
  hand : s.isDealer = false
  core : s.core = true
  field : s.takesImages = true

theorem TakesBlocks.of_keeps (h : TakesBlocks s) (k : Keeps [.portN, .portS] s w) : TakesBlocks w := by
  have dev : w.dev = s.dev := k.group .dev (by decide)
  have nv : w.nv = s.nv := k.group .nv (by decide)
  obtain ⟨hand, core, field⟩ := h
  exact ⟨(k.isDealer (by decide)).trans hand, by simpa only [State.core, dev] using core,
    by simpa only [State.takesImages, nv] using field⟩

theorem State.handleImageBlock_writes (h : TakesBlocks s) (fits : s.blockFits (pw ws 1).toNat (pw ws 2).toNat = true) :
    s.handleImageBlock ws = s.writeBlock (pw ws 1).toNat (pw ws 2).toNat (imageBytes ((ws.drop 3).take 32)) := by
  obtain ⟨hand, core, field⟩ := h
  have before : (pw ws 1).toNat ≠ (pw ws 2).toNat := by
    simp only [State.blockFits, Bool.and_eq_true, decide_eq_true_eq] at fits
    omega
  simp [State.handleImageBlock, hand, core, field, before, fits]

/-- The inactive slot is armed on the Dealer's digest (R557). -/
def State.armOnDigest (s : State) : State := (s.updNv fun x => { x with armedB := some s.inactive }).logImage 5 s.inactive

theorem State.handleImageBlock_arms (h : TakesBlocks s) (last : pw ws 1 = pw ws 2) (verified : slotOf s.nv s.inactive = .verified)
    (digest : imageBytes ((ws.drop 3).take 16) = s.imageDigest s.inactive) :
    s.handleImageBlock ws = s.armOnDigest.sendImageStatus ((pw ws 2).toNat + 1) 1 := by
  obtain ⟨hand, core, field⟩ := h
  simp [State.handleImageBlock, hand, core, field, last, verified, digest, State.armOnDigest]

theorem State.armOnDigest_frame : Keeps [.nv, .logs] s s.armOnDigest := by
  unfold State.armOnDigest
  simp (disch := decide) only [State.logImage_keeps, State.updNv_keeps, Keeps.refl]

theorem State.armOnDigest_nv : s.armOnDigest.nv = { s.nv with armedB := some s.inactive } :=
  (State.logImage_frame _).group .nv (by decide)

theorem State.sendImageStatus_frame (next status : Nat) : Keeps [.portN, .portS, .service] s (s.sendImageStatus next status) :=
  State.sendService_frame _ _

theorem execImageBlock_run (sub : subtype f.payload = 1) : exec (.imageBlock p f) s = .next (s.receive p .service f 0) := by
  simp [exec, execImageBlock, State.receiveService, sub]

theorem imageBlock_writes (h : Reaches s p .service f) (sub : subtype f.payload = 1) (takes : TakesBlocks s)
    (fits : s.blockFits (pw f.payload 1).toNat (pw f.payload 2).toNat = true) (wf : Memory.wf s.flash = true) :
    Runs (.imageBlock p f) s fun t =>
      Taken s t p f ∧ slotOf t.nv s.inactive = .loading ∧ t.service.nextBlock = (pw f.payload 1).toNat + 1 ∧
      Memory.bytes t.flash (slotBase s.inactive + 64 * (pw f.payload 1).toNat) 64 =
        padTo 64 (imageBytes ((f.payload.drop 3).take 32)) := by
  have took := s.tookService_frame (p := p) (f := f)
  have service : (s.tookService p f).service = s.service := took.group .service (by decide)
  have flash : (s.tookService p f).flash = s.flash := took.group .flash (by decide)
  have inactive : (s.tookService p f).inactive = s.inactive :=
    congrArg (fun n : NonVolatile => !n.activeB) (took.group .nv (by decide))
  have handled : (s.tookService p f).consume p .service f 0 = (s.tookService p f).writeBlock (pw f.payload 1).toNat
      (pw f.payload 2).toNat (imageBytes ((f.payload.drop 3).take 32)) := by
    simp only [State.consume, sub]
    exact State.handleImageBlock_writes (takes.of_keeps took) (by simpa only [State.blockFits, service] using fits)
  have block := State.writeBlock_taken (s := s.tookService p f) (n := (pw f.payload 1).toNat) (total := (pw f.payload 2).toNat)
    (x := imageBytes ((f.payload.drop 3).take 32))
  obtain ⟨t, run, ⟨slot, next, bytes⟩, taken⟩ := h.runs (execImageBlock_run sub) (P := fun t =>
      slotOf t.nv s.inactive = .loading ∧ t.service.nextBlock = (pw f.payload 1).toNat + 1 ∧
      Memory.bytes t.flash (slotBase s.inactive + 64 * (pw f.payload 1).toNat) 64 =
        padTo 64 (imageBytes ((f.payload.drop 3).take 32))) (by
    rw [handled, ← inactive]
    exact ⟨.of_keeps block.frame (by decide) (by decide), block.slot, block.next, block.bytes (by rw [flash, wf])⟩)
  exact runs_next run ⟨taken, slot, next, bytes⟩

theorem imageBlock_arms (h : Reaches s p .service f) (sub : subtype f.payload = 1) (takes : TakesBlocks s)
    (last : pw f.payload 1 = pw f.payload 2) (verified : slotOf s.nv s.inactive = .verified)
    (digest : imageBytes ((f.payload.drop 3).take 16) = s.imageDigest s.inactive) :
    Runs (.imageBlock p f) s fun t => Taken s t p f ∧ t.nv = { s.nv with armedB := some s.inactive } ∧ t.flash = s.flash := by
  have took := s.tookService_frame (p := p) (f := f)
  have flash : (s.tookService p f).flash = s.flash := took.group .flash (by decide)
  have nv : (s.tookService p f).nv = s.nv := took.group .nv (by decide)
  have inactive : (s.tookService p f).inactive = s.inactive := by simp only [State.inactive, nv]
  have same : (s.tookService p f).imageDigest s.inactive = s.imageDigest s.inactive := by
    simp only [State.imageDigest, State.header, flash]
  have handled : (s.tookService p f).consume p .service f 0 =
      (s.tookService p f).armOnDigest.sendImageStatus ((pw f.payload 2).toNat + 1) 1 := by
    simp only [State.consume, sub]
    exact State.handleImageBlock_arms (takes.of_keeps took) last (by rw [nv, inactive, verified]) (by rw [inactive, same, digest])
  have armed := State.armOnDigest_frame (s := s.tookService p f)
  have sent := State.sendImageStatus_frame (s := (s.tookService p f).armOnDigest) ((pw f.payload 2).toNat + 1) 1
  obtain ⟨t, run, ⟨nvT, flashT⟩, taken⟩ := h.runs (execImageBlock_run sub)
      (P := fun t => t.nv = { s.nv with armedB := some s.inactive } ∧ t.flash = s.flash) (by
    rw [handled]
    refine ⟨(SameReceiving.of_keeps armed (by decide) (by decide)).trans State.sendService_receiving, ?_, ?_⟩
    · rw [← inactive, ← nv]
      exact (sent.group .nv (by decide)).trans State.armOnDigest_nv
    · exact ((sent.group .flash (by decide)).trans (armed.group .flash (by decide))).trans flash)
  exact runs_next run ⟨taken, nvT, flashT⟩

theorem State.answer_reported (status : Nat) (payload : List Byte) :
    (s.answer status payload).service.reported = s.service.reported := by
  unfold State.answer
  split <;> rfl

/-- What a Hand reports is noted, whatever follows from it (R556). -/
theorem State.handleImageStatus_reported (dealer : s.isDealer = true) (core : s.core = true) :
    (src, (pw ws 1).toNat, field (pw ws 2) 17 16) ∈ (s.handleImageStatus src ws).service.reported := by
  have noted : (src, (pw ws 1).toNat, field (pw ws 2) 17 16) ∈
      s.service.reported.filter (·.1 ≠ src) ++ [(src, (pw ws 1).toNat, field (pw ws 2) 17 16)] := by simp
  unfold State.handleImageStatus
  simp only [dealer, core, Bool.not_true, Bool.or_self, Bool.false_eq_true, if_false]
  split
  · split
    · rw [State.answer_reported]
      exact noted
    · exact noted
  · split <;> exact noted

theorem execImageStatus_run (sub : subtype f.payload = 2) : exec (.imageStatus p f) s = .next (s.receive p .service f 0) := by
  simp [exec, execImageStatus, State.receiveService, sub]

theorem imageStatus_noted (d : Delivers s p .service f) (sub : subtype f.payload = 2) (dealer : s.isDealer = true)
    (core : s.core = true) :
    Runs (.imageStatus p f) s fun t =>
      Keeps [.portN, .portS, .service, .logs] s t ∧ Taken s t p f ∧
      (f.src.toNat, (pw f.payload 1).toNat, field (pw f.payload 2) 17 16) ∈ t.service.reported := by
  have took := s.tookService_frame (p := p) (f := f)
  have dev : (s.tookService p f).dev = s.dev := took.group .dev (by decide)
  have handled : (s.tookService p f).consume p .service f 0 = (s.tookService p f).handleImageStatus f.src.toNat f.payload := by
    simp only [State.consume, sub]
  have frame : Keeps [.service, .logs] (s.tookService p f) ((s.tookService p f).handleImageStatus f.src.toNat f.payload) :=
    (State.handleImageStatus_keeps (by decide) _ _).mpr (Keeps.refl _ _)
  obtain ⟨t, run, ⟨kept, noted⟩, taken⟩ := d.reaches.runs (execImageStatus_run sub)
      (P := fun t => Keeps [.portN, .portS, .service, .logs] s t ∧
        (f.src.toNat, (pw f.payload 1).toNat, field (pw f.payload 2) 17 16) ∈ t.service.reported) (by
    rw [handled]
    exact ⟨.of_keeps frame (by decide) (by decide), (took.mono (by decide)).trans (frame.mono (by decide)),
      State.handleImageStatus_reported ((took.isDealer (by decide)).trans dealer) (by simpa only [State.core, dev] using core)⟩)
  exact runs_next run ⟨kept, taken, noted⟩

theorem execImageStatusSend_run (run : s.running = true) (hand : s.isDealer = false) (core : s.core = true)
    (loading : slotOf s.nv s.inactive = .loading) :
    exec .imageStatusSend s = .next (s.sendImageStatus s.service.nextBlock 0) := by
  simp [exec, execImageStatusSend, run, hand, core, loading]

theorem State.serviceLimit_hand (hand : s.isDealer = false) : s.serviceLimit = 2 := by simp [State.serviceLimit, hand]

/-! ### LOG_REQUEST and LOG_RECORDS -/

theorem execLogRequest_run (sub : subtype f.payload = 3) : exec (.logRequest p f) s = .next (s.receive p .service f 0) := by
  simp [exec, execLogRequest, State.receiveService, sub]

/-- What a Hand answers to a LOG_REQUEST (R552). -/
def State.logAnswer (s : State) (ws : List Word) (w : Word) : List Word :=
  [callWord 4 0 0, w, word (s.recordsFrom ((pw ws 1).setWidth 16) (sat 7 (pw ws 2).toNat)).length] ++
    (s.recordsFrom ((pw ws 1).setWidth 16) (sat 7 (pw ws 2).toNat)).flatMap imageWords

theorem State.firstReturned_frame (rs : List (List Byte)) : Keeps [.dev] s (s.firstReturned rs).2 :=
  (State.firstReturned_keeps (by decide) rs).mpr (Keeps.refl _ s)

theorem State.handleLogRequest_eq (hand : s.isDealer = false) (core : s.core = true) (welcome : s.ring.refused = false) :
    ∃ rs, s.handleLogRequest ws =
      (s.firstReturned rs).2.sendService (s.firstReturned rs).2.ring.primary (s.logAnswer ws (s.firstReturned rs).1) := by
  refine ⟨s.recordsFrom ((pw ws 1).setWidth 16) (sat 7 (pw ws 2).toNat), ?_⟩
  simp only [State.handleLogRequest, hand, core, welcome, Bool.not_true, Bool.or_self, Bool.false_eq_true, if_false]
  rfl

theorem Keeps.logAnswer (h : Keeps [.portN, .portS] s w) (x : Word) : w.logAnswer ws x = s.logAnswer ws x := by
  have flash : w.flash = s.flash := h.group .flash (by decide)
  have nv : w.nv = s.nv := h.group .nv (by decide)
  have keeper : w.keeper = s.keeper := h.group .keeper (by decide)
  simp only [State.logAnswer, State.recordsFrom, State.records, State.presentRecords, State.slotReads, flash, nv, keeper]

theorem logRequest_answers (d : Delivers s p .service f) (sub : subtype f.payload = 3) (hand : s.isDealer = false)
    (core : s.core = true) (welcome : s.ring.refused = false) (within : (s.port s.ring.primary).serviceSent < 2)
    (up : (s.port s.ring.primary).up = true) (free : (s.port s.ring.primary).fenced = false) :
    Runs (.logRequest p f) s fun t =>
      Keeps [.portN, .portS, .dev] s t ∧ Taken s t p f ∧
      ∃ w : Word, (t.port s.ring.primary).serviceQ = (s.port s.ring.primary).serviceQ ++
        [s.ownFrame s.ring.primary .service (s.logAnswer f.payload w)] := by
  have took := s.tookService_frame (p := p) (f := f)
  have dev : (s.tookService p f).dev = s.dev := took.group .dev (by decide)
  have ring : (s.tookService p f).ring = s.ring := took.group .ring (by decide)
  have consumed : s.consumes p .service f = true := by
    obtain ⟨-, -, -, -, -, -, -, -, consumed, -⟩ := d
    exact consumed
  obtain ⟨queue, sent, upW, freeW⟩ := State.tookService_sending (s := s) (p := p) (f := f) consumed s.ring.primary
  obtain ⟨rs, answer⟩ := State.handleLogRequest_eq (s := s.tookService p f) (ws := f.payload)
    ((took.isDealer (by decide)).trans hand) (by simpa only [State.core, dev] using core) (by rw [ring, welcome])
  have drawn := State.firstReturned_frame (s := s.tookService p f) rs
  have ringD : ((s.tookService p f).firstReturned rs).2.ring = s.ring := (drawn.group .ring (by decide)).trans ring
  have portD : ((s.tookService p f).firstReturned rs).2.port s.ring.primary = (s.tookService p f).port s.ring.primary :=
    drawn.port _ (by decide) (by decide)
  have handled : (s.tookService p f).consume p .service f 0 = ((s.tookService p f).firstReturned rs).2.sendService s.ring.primary
      (s.logAnswer f.payload ((s.tookService p f).firstReturned rs).1) := by
    simp only [State.consume, sub]
    rw [answer, ringD, took.logAnswer]
  have whole : Keeps [.portN, .portS, .dev] s ((s.tookService p f).firstReturned rs).2 :=
    (took.mono (by decide)).trans (drawn.mono (by decide))
  have limit : (((s.tookService p f).firstReturned rs).2.port s.ring.primary).serviceSent <
      ((s.tookService p f).firstReturned rs).2.serviceLimit := by
    rw [portD, sent, State.serviceLimit_hand ((whole.isDealer (by decide)).trans hand)]
    exact within
  obtain ⟨t, run, ⟨kept, w, sentQ⟩, taken⟩ := d.reaches.runs (execLogRequest_run sub)
      (P := fun t => Keeps [.portN, .portS, .dev] s t ∧ ∃ w : Word, (t.port s.ring.primary).serviceQ =
        (s.port s.ring.primary).serviceQ ++ [s.ownFrame s.ring.primary .service (s.logAnswer f.payload w)]) (by
    rw [handled]
    refine ⟨(SameReceiving.of_keeps drawn (by decide) (by decide)).trans State.sendService_receiving,
      whole.trans ((State.sendService_ports limit).mono (by decide)), ((s.tookService p f).firstReturned rs).1, ?_⟩
    rw [State.sendService_serviceQ limit (by rw [portD, upW, up]) (by rw [portD, freeW, free]), portD, queue, whole.ownFrame])
  exact runs_next run ⟨kept, taken, w, sentQ⟩

theorem execLogRecords_run (sub : subtype f.payload = 4) : exec (.logRecords p f) s = .next (s.receive p .service f 0) := by
  simp [exec, execLogRecords, State.receiveService, sub]

/-- The records of the position that was asked answer the LOG READ (R552). -/
theorem State.handleLogRecords_eq {r : Request} (dealer : s.isDealer = true) (serves : s.serves = true)
    (waits : s.service.request = some r) (read : r.function = 0x02) (from_ : r.position.toNat = src) :
    ∃ q, s.handleLogRecords src ws = s.answer 0 q := by
  refine ⟨_, if_pos ?_⟩
  simp [dealer, serves, waits, read, from_]

theorem logRecords_answer {r : Request} (d : Delivers s p .service f) (sub : subtype f.payload = 4) (dealer : s.isDealer = true)
    (serves : s.serves = true) (waits : s.service.request = some r) (read : r.function = 0x02)
    (from_ : r.position.toNat = f.src.toNat) :
    Runs (.logRecords p f) s fun t =>
      Keeps [.portN, .portS, .service, .logs] s t ∧ Taken s t p f ∧ t.service.request = none ∧
      ∃ q, t.service.response = some { function := 0x02, tag := r.tag, status := 0, payload := q } := by
  have took := s.tookService_frame (p := p) (f := f)
  have dev : (s.tookService p f).dev = s.dev := took.group .dev (by decide)
  have service : (s.tookService p f).service = s.service := took.group .service (by decide)
  have servesW : (s.tookService p f).serves = true := by
    simpa only [State.serves, State.running, State.core, dev, service] using serves
  obtain ⟨q, answer⟩ := State.handleLogRecords_eq (s := s.tookService p f) (ws := f.payload)
    ((took.isDealer (by decide)).trans dealer) servesW (by rw [service, waits]) read from_
  have handled : (s.tookService p f).consume p .service f 0 = (s.tookService p f).answer 0 q := by
    simp only [State.consume, sub]
    exact answer
  have ended := State.answer_service (s := s.tookService p f) (status := 0) (payload := q) (by rw [service, waits])
  obtain ⟨t, run, ⟨kept, request, response⟩, taken⟩ := d.reaches.runs (execLogRecords_run sub)
      (P := fun t => Keeps [.portN, .portS, .service, .logs] s t ∧ t.service.request = none ∧
        ∃ q, t.service.response = some { function := 0x02, tag := r.tag, status := 0, payload := q }) (by
    rw [handled]
    refine ⟨.of_keeps (G := [.service, .logs]) State.answer_frame (by decide) (by decide),
      (took.mono (by decide)).trans (State.answer_frame.mono (by decide)), by rw [ended], q, ?_⟩
    rw [ended, read]
    rfl)
  exact runs_next run ⟨kept, taken, request, response⟩

end

/-- Settles O50: a frame that reaches its device is taken by its port before it is acted on, and no action touches what the port
expects. -/
theorem serviceFramesAreHandled : Obligations.ServiceFramesAreHandled := by
  refine fun s => ⟨fun p f h sub hand core field => ⟨fun fits wf => imageBlock_writes h sub ⟨hand, core, field⟩ fits wf,
      fun last verified digest => imageBlock_arms h sub ⟨hand, core, field⟩ last verified digest⟩,
    fun p f d sub dealer core => imageStatus_noted d sub dealer core,
    fun run hand core loading within up free => ?_,
    fun p f d sub hand core welcome within up free => logRequest_answers d sub hand core welcome within up free,
    fun p f r d sub dealer serves waits read from_ => logRecords_answer d sub dealer serves waits read from_⟩
  have limit : (s.port s.ring.primary).serviceSent < s.serviceLimit := by rwa [State.serviceLimit_hand hand]
  refine runs_next (execImageStatusSend_run run hand core loading) ⟨State.sendService_ports limit, ?_⟩
  exact State.sendService_serviceQ limit up free

end Sys2Proof.Machine

/-!
PROOFS. The reports of LIFELINE and the age of what the Dealer has of them (chapter 05, section 4).
-/
namespace Sys2Proof.Machine

section
variable {s : State} {r : LifelineReadings} {i : Nat} {c : Instr}

/-- The LIFELINE frame of a sealed device (Table 9-13). -/
def State.reportFrame (s : State) (r : LifelineReadings) (i : Nat) : TxFrame :=
  { ftype := .lifeline, src := (word i).setWidth 6, side := s.life.port, deal := 0, hop := 1
    payload := s.lifelineWords r (s.life.reports + 1), slot := none }

/-- The report leaves on the chosen port and waits for its acknowledgement (R145, R146). -/
def State.emitReport (s : State) (r : LifelineReadings) (i : Nat) : State :=
  (s.updPort s.life.port fun q => { q with line := [.frame (s.reportFrame r i) q.txSeq], txSeq := q.txSeq + 1 }).updLife fun l =>
    { l with reports := s.life.reports + 1, awaiting := true, heldBack := false }

theorem State.emitReport_frame : Keeps [.portN, .portS, .life] s (s.emitReport r i) := by
  simp (disch := decide) only [State.emitReport, State.updLife_keeps, State.updPort_keeps, Keeps.refl]

theorem State.emitReport_life : (s.emitReport r i).life =
    { s.life with reports := s.life.reports + 1, awaiting := true, heldBack := false } := by
  unfold State.emitReport
  cases s.life.port <;> rfl

theorem State.emitReport_port : (s.emitReport r i).port s.life.port =
    { s.port s.life.port with
      line := [.frame (s.reportFrame r i) (s.port s.life.port).txSeq], txSeq := (s.port s.life.port).txSeq + 1 } := by
  unfold State.emitReport
  cases s.life.port <;> rfl

theorem State.emitReport_other : (s.emitReport r i).port s.life.port.other = s.port s.life.port.other := by
  unfold State.emitReport
  cases s.life.port <;> rfl

/-- A report that was acknowledged, or the first: it goes out on the port in use. -/
theorem State.sendReport_answered (sealed_ : s.sealedPosition = some i) (answered : s.life.awaiting = false)
    (ring : (keptGen s.kept s.life.port).ring = true) : s.sendReport r = s.emitReport r i := by
  simp only [State.sendReport, State.countUnacked, answered, ring, sealed_, Bool.not_false, Bool.not_true, Bool.false_eq_true,
    if_true, if_false]
  rfl

/-- The third report in a row that no ACK followed is counted, and the other port is taken (R147). -/
def State.swapPort (s : State) : State :=
  s.updLife fun l => { l with awaiting := false, unacked := 0, unackedAll := l.unackedAll + 1, port := l.port.other }

theorem State.countUnacked_third (waits : s.life.awaiting = true) (two : s.life.unacked = 2)
    (ring : (keptGen s.kept s.life.port.other).ring = true) : s.countUnacked = s.swapPort := by
  simp only [State.countUnacked, waits, two, ring, Bool.not_true, Bool.false_eq_true, if_false]
  rfl

theorem State.sendReport_third (sealed_ : s.sealedPosition = some i) (waits : s.life.awaiting = true) (two : s.life.unacked = 2)
    (ring : (keptGen s.kept s.life.port.other).ring = true) : s.sendReport r = s.swapPort.emitReport r i := by
  have sealed' : s.swapPort.sealedPosition = some i := sealed_
  have ring' : (keptGen s.swapPort.kept s.swapPort.life.port).ring = true := ring
  simp only [State.sendReport, State.countUnacked_third waits two ring, ring', sealed', Bool.not_true, Bool.false_eq_true, if_false]
  rfl

theorem execLifelineReport_holds (phase : s.dev.phase = .lifeline) (role : s.kept.role ≠ .dealer) (low : r.lfsMv < 3600) :
    exec (.lifelineReport r) s = .next { s with life := { s.life with heldBack := true } } := by
  simp [exec, execLifelineReport, phase, role, low, State.updLife]

/-- Both the period's end at 3.6 V and the return of LFS to 3.6 V send the report. -/
theorem exec_sendReport (phase : s.dev.phase = .lifeline)
    (due : (c = .lifelineReport r ∧ s.kept.role ≠ .dealer ∧ 3600 ≤ r.lfsMv) ∨
      (c = .lfsReaches3v6 r ∧ s.life.heldBack = true)) : exec c s = .next (s.sendReport r) := by
  rcases due with ⟨rfl, role, high⟩ | ⟨rfl, held⟩
  · have enough : ¬ r.lfsMv < 3600 := by omega
    simp [exec, execLifelineReport, phase, role, enough]
  · simp [exec, execLfsReaches3v6, phase, held]

theorem execLifelineStale_run {k : BitVec 6} (dealer : s.isDealer = true) : exec (.lifelineStale k) s =
    .next (s.updPos k.toNat fun p => { p with lifeline := p.lifeline.map fun d => { d with stale := true } }) := by
  simp [exec, execLifelineStale, dealer]

end

/-- Settles O32: a report that may leave is one frame on the port in use, which is the other one after the third without an ACK. -/
theorem lifelineReportsLeave : Obligations.LifelineReportsLeave := by
  refine fun s r => ⟨execLifelineReport_holds, fun c i due phase sealed_ => ⟨fun answered ring => ?_, fun waits two ring => ?_⟩,
    fun k dealer inRange => ?_⟩
  · have run := exec_sendReport phase due
    rw [State.sendReport_answered sealed_ answered ring] at run
    refine runs_next run ⟨State.emitReport_frame, State.emitReport_other, State.emitReport_life, ?_, s.reportFrame r i, ?_, rfl, rfl,
      rfl, rfl⟩
    · rw [State.emitReport_port]
    · rw [State.emitReport_port]
  · have run := exec_sendReport phase due
    rw [State.sendReport_third sealed_ waits two ring] at run
    have back : s.swapPort.life.port.other = s.life.port := by
      change s.life.port.other.other = s.life.port
      cases s.life.port <;> rfl
    refine runs_next run ⟨?_, ?_, ?_, ?_, s.swapPort.reportFrame r i, ?_, rfl⟩
    · rw [State.emitReport_life]
      rfl
    · rw [State.emitReport_life]
      rfl
    · rw [State.emitReport_life]
    · exact back ▸ State.emitReport_other
    · exact (congrArg PortState.line State.emitReport_port :)
  · exact runs_next (execLifelineStale_run dealer) ⟨(State.updPos_keeps (by decide) _ _).mpr (Keeps.refl _ s),
      congrArg PosInfo.lifeline (State.pos_updPos _ _ _ inRange), fun j other => State.pos_updPos_ne _ _ _ _ (Ne.symm other)⟩

end Sys2Proof.Machine

/-!
PROOFS. What takes a device between its power states, the resets of the switched domains and the release of RESET_N (chapter 04).
-/
namespace Sys2Proof.Machine

/-! ### What a source leaves of device and keeper -/

section
variable {s t u : State} {b : Block} {i : Nat}

/-- From `s` to `t` the device may have become fatal, and the lock-out may have been set with it. -/
def FatalAtMost (s t : State) : Prop :=
  (∃ x w, t.dev = { s.dev with fatal := x, watchdog := w }) ∧ ∃ l, t.keeper = { s.keeper with lockout := l }

theorem FatalAtMost.of_same (dev : t.dev = s.dev) (keeper : t.keeper = s.keeper) : FatalAtMost s t :=
  ⟨⟨s.dev.fatal, s.dev.watchdog, by rw [dev]⟩, s.keeper.lockout, by rw [keeper]⟩

theorem FatalAtMost.before (h : FatalAtMost t u) (dev : t.dev = s.dev) (keeper : t.keeper = s.keeper) : FatalAtMost s u := by
  obtain ⟨⟨x, w, devU⟩, l, keeperU⟩ := h
  exact ⟨⟨x, w, by rw [devU, dev]⟩, l, by rw [keeperU, keeper]⟩

theorem State.fatalEntry_dev : (s.fatalEntry b i).dev = { s.dev with fatal := true, watchdog := false } := by
  unfold State.fatalEntry
  extract_lets warned recorded latched off
  have entered : Keeps [.logs] s warned :=
    keeps_ite ((State.logLockout_keeps (by decide) _ _ _).mpr (Keeps.refl _ s)) (Keeps.refl _ s)
  have before : Keeps [.logs] s recorded := (State.log_keeps (by decide) _ _).mpr entered
  have after : off.dev = latched.dev :=
    ((State.fatalOutputs_keeps (G := [.outputs, .meas, .balance, .fan, .pins]) (by decide)).mpr (Keeps.refl _ _)).group .dev (by decide)
  have dev : recorded.dev = s.dev := before.group .dev (by decide)
  exact after.trans (congrArg (fun d : Dev => { d with fatal := true, watchdog := false }) dev)

theorem State.fatalDealer_keeper : s.fatalDealer.keeper = { s.keeper with lockout := true } := by
  have opens : Keeps [.logs, .services] s (s.setPack .opened).stringsOpen :=
    (State.stringsOpen_keeps (by decide)).mpr ((State.setPack_keeps (by decide) _).mpr (Keeps.refl _ _))
  have keeper : (s.setPack .opened).stringsOpen.keeper = s.keeper := opens.group .keeper (by decide)
  simp only [State.fatalDealer, State.updPins_keeper, State.updVehicle_keeper, State.updKeeper, keeper]

theorem State.enterFatal_atMost : FatalAtMost s (s.enterFatal b i) := by
  cases alive : s.dev.fatal with
  | true =>
    unfold State.enterFatal
    rw [alive]
    exact .of_same rfl rfl
  | false =>
    have entry : (s.fatalEntry b i).keeper = s.keeper := State.fatalEntry_frame.group .keeper (by decide)
    cases role : s.isDealer with
    | true =>
      rw [State.enterFatal_dealer alive role]
      have dev : (s.fatalEntry b i).fatalDealer.dev = (s.fatalEntry b i).dev := State.fatalDealer_frame.group .dev (by decide)
      exact ⟨⟨true, false, by rw [dev, State.fatalEntry_dev]⟩, true, by rw [State.fatalDealer_keeper, entry]⟩
    | false =>
      rw [State.enterFatal_other alive role]
      have frame : Keeps [.logs, .portN, .portS, .ring] (s.fatalEntry b i)
          (((s.fatalEntry b i).sendTrumpWords ((s.fatalEntry b i).fatalWords b)).updRing fun r =>
            { r with fatalLeft := 2, fatalTrump := (s.fatalEntry b i).fatalWords b }) := by
        simp (disch := decide) only [State.updRing_keeps, State.sendTrumpWords_keeps, Keeps.refl]
      exact ⟨⟨true, false, (frame.group .dev (by decide)).trans State.fatalEntry_dev⟩, s.keeper.lockout,
        (frame.group .keeper (by decide)).trans entry⟩

theorem State.raise_atMost : FatalAtMost s (s.raise b i) := by
  have only : Keeps [.faults, .logs, .pins] s ((s.raiseBits b i []).faultPin (classOf b i)) := by
    simp (disch := decide) only [State.faultPin_keeps, State.raiseBits_keeps, Keeps.refl]
  have dev := only.group .dev (by decide)
  have keeper := only.group .keeper (by decide)
  unfold State.raise State.raiseAlso
  dsimp only
  split
  · exact State.enterFatal_atMost.before dev keeper
  · exact .of_same dev keeper

end

/-! ### Resets -/

section
variable {s : State} {r : BootReads} {cause : Word}

theorem State.resetDomains_restarted (hold : Bool) : Restarted s (s.resetDomains cause hold) cause (if hold then .held else .boot) := by
  cases hold <;> exact ⟨rfl, rfl, rfl, rfl, rfl, rfl, rfl, rfl, rfl, rfl, rfl, rfl, rfl, rfl, rfl, rfl, rfl, rfl, rfl⟩

/-- The boot that a supply begins is a reset with its cause; the buck runs (R89, R117). -/
theorem State.beginBoot_restarted : Restarted s (s.beginBoot cause) cause .boot ∧ (s.beginBoot cause).supply.buck = true :=
  ⟨⟨rfl, rfl, rfl, rfl, rfl, rfl, rfl, rfl, rfl, rfl, rfl, rfl, rfl, rfl, rfl, rfl, rfl, rfl, rfl⟩, rfl⟩

theorem execWatchdogExpiry_run (awake : s.awake = true) (serves : s.dev.watchdog = true) :
    exec .watchdogExpiry s = .next (s.resetDomains causeWdog false) := by
  simp [exec, execWatchdogExpiry, awake, serves]

theorem execResetNAssert_run (h : s.awake = true ∨ s.dev.phase = .held) :
    exec .resetNAssert s = .next (s.resetDomains causeRstn true) := by
  simp [exec, execResetNAssert, h]

theorem execBrownOut_run (awake : s.awake = true) (rail : Rail) :
    exec (.brownOut rail) s = .next (s.resetDomains (causeRail rail) false) := by
  simp [exec, execBrownOut, awake]

theorem execRingReset_run (due : s.dev.resetPending = true) : exec .ringReset s = .next (s.resetDomains causeRing false) := by
  simp [exec, execRingReset, due]

theorem execBuckStart_lifeline (phase : s.dev.phase = .lifeline) : exec .buckStart s = .next (s.beginBoot causeLifexit) := by
  simp [exec, execBuckStart, phase]

theorem execBuckStart_off (phase : s.dev.phase = .off) : exec .buckStart s = .next (s.beginBoot causePor) := by
  simp [exec, execBuckStart, phase]

theorem execResetNRelease_held (phase : s.dev.phase = .held) (v : Bool) :
    exec (.resetNRelease r v) s = .next ((s.beginBoot 0).bootChecks r) := by
  simp [exec, execResetNRelease, phase]

theorem execResetNRelease_storage (phase : s.dev.phase = .storage) :
    exec (.resetNRelease r true) s = .next (s.beginBoot causeStwake) := by
  simp [exec, execResetNRelease, phase, State.wake]

/-- The checks at the end of a reset begin: the service key is read (R547). -/
def State.readKey (s : State) (r : BootReads) : State :=
  (s.updDev fun d => { d with bootChecked := true }).updStraps fun t => { t with keyRead := keyReads r.keyRatio }

/-- A Dealer whose supervisor ROM fails its check locks out (R483, R492; log 31). -/
def romLockout (k : Keeper) : Keeper := if (inForce k.straps).role = .dealer then { k with lockout := true } else k

theorem State.bootChecks_good (fresh : s.dev.bootChecked = false) (ok : r.romOk = true) : s.bootChecks r = s.readKey r := by
  simp only [State.bootChecks, fresh, ok, Bool.false_eq_true, if_false, if_true]
  rfl

theorem State.bootChecks_bad (fresh : s.dev.bootChecked = false) (bad : r.romOk = false) :
    s.bootChecks r = ((s.readKey r).raise .superv 13).updKeeper romLockout := by
  simp only [State.bootChecks, fresh, bad, Bool.false_eq_true, if_false]
  rfl

theorem romLockout_locks (k : Keeper) (dealer : (inForce k.straps).role = .dealer) : (romLockout k).lockout = true := by
  simp [romLockout, dealer]

/-- What a ROM that fails its check leaves of a device that is not fatal (R483). -/
theorem State.romFails (alive : s.dev.fatal = false) (hf : s.faults.length = 18) :
    ((s.raise .superv 13).updKeeper romLockout).dev.phase = s.dev.phase ∧
    ((s.raise .superv 13).updKeeper romLockout).dev.bootChecked = s.dev.bootChecked ∧
    ((s.raise .superv 13).updKeeper romLockout).straps = s.straps ∧
    ((s.raise .superv 13).updKeeper romLockout).nv = s.nv ∧ ((s.raise .superv 13).updKeeper romLockout).flash = s.flash ∧
    ((s.raise .superv 13).updKeeper romLockout).has .superv 13 = true ∧
    ((s.raise .superv 13).updKeeper romLockout).dev.fatal = true ∧
    (s.kept.role = .dealer → ((s.raise .superv 13).updKeeper romLockout).keeper.lockout = true) := by
  obtain ⟨⟨x, w, dev⟩, l, keeper⟩ := State.raise_atMost (s := s) (b := .superv) (i := 13)
  have frame := State.raise_widest (s := s) (b := .superv) (i := 13)
  obtain ⟨fatal, -⟩ := State.raise_fatal (b := .superv) (i := 13) alive (by decide)
  refine ⟨(congrArg Dev.phase dev :), (congrArg Dev.bootChecked dev :), frame.group .straps (by decide), frame.group .nv (by decide),
    frame.group .flash (by decide), State.raise_has _ _ _ hf (by decide), fatal, fun dealer => romLockout_locks _ ?_⟩
  rw [keeper]
  exact dealer

theorem resetNRelease_boots (phase : s.dev.phase = .held) (v : Bool) :
    Runs (.resetNRelease r v) s fun t =>
      t.dev.phase = .boot ∧ t.dev.bootChecked = true ∧ t.straps.keyRead = keyReads r.keyRatio ∧ t.nv = s.nv ∧
      t.flash = s.flash ∧
      (r.romOk = true → t.faults = List.replicate 18 BlockState.reset ∧ t.dev.fatal = false ∧
        t.keeper.lockout = s.keeper.lockout) ∧
      (r.romOk = false → t.has .superv 13 = true ∧ t.dev.fatal = true ∧
        (s.kept.role = .dealer → t.keeper.lockout = true)) := by
  have run := execResetNRelease_held (r := r) phase v
  cases ok : r.romOk with
  | true =>
    rw [State.bootChecks_good rfl ok] at run
    exact runs_next run ⟨rfl, rfl, rfl, rfl, rfl, fun _ => ⟨rfl, rfl, rfl⟩, nofun⟩
  | false =>
    rw [State.bootChecks_bad rfl ok] at run
    obtain ⟨ph, checked, straps, nv, flash, has, fatal, locks⟩ := State.romFails (s := (s.beginBoot 0).readKey r) rfl rfl
    exact runs_next run ⟨ph, checked, congrArg Straps.keyRead straps, nv, flash, nofun, fun _ => ⟨has, fatal, locks⟩⟩

end

/-- Settles O23: every switched domain leaves reset by one operation, and the checks at its end raise one source at most. -/
theorem partResetsAndBoots : Obligations.PartResetsAndBoots := by
  refine ⟨fun s => ⟨fun awake serves => ?_, fun h => ?_, fun awake rail => ?_, fun due => ?_, fun phase => ?_, fun phase => ?_⟩,
    fun s r => ⟨resetNRelease_boots, fun phase => ?_⟩⟩
  · exact runs_next (execWatchdogExpiry_run awake serves) (State.resetDomains_restarted false)
  · exact runs_next (execResetNAssert_run h) (State.resetDomains_restarted true)
  · exact runs_next (execBrownOut_run awake rail) (State.resetDomains_restarted false)
  · exact runs_next (execRingReset_run due) (State.resetDomains_restarted false)
  · exact runs_next (execBuckStart_lifeline phase) State.beginBoot_restarted
  · exact runs_next (execBuckStart_off phase) State.beginBoot_restarted
  · exact runs_next (execResetNRelease_storage phase) State.beginBoot_restarted.1

/-! ### The power states -/

section
variable {s t u : State} {p : Port} {n : Nat}

/-- The keepers of both states differ in the place of the next record at most. -/
def SameButPlace (s t : State) : Prop := ∃ a b c, t.keeper = { s.keeper with sector := a, index := b, seq := c }

theorem SameButPlace.of_same (h : t.keeper = s.keeper) : SameButPlace s t :=
  ⟨s.keeper.sector, s.keeper.index, s.keeper.seq, by rw [h]⟩

theorem SameButPlace.of_keeps {G : List Group} (h : Keeps G s t) (c : covers [.keeper] G = false) : SameButPlace s t :=
  .of_same (h.group .keeper c)

theorem SameButPlace.trans (h : SameButPlace s t) (k : SameButPlace t u) : SameButPlace s u := by
  obtain ⟨a, b, c, e⟩ := h
  obtain ⟨a', b', c', e'⟩ := k
  exact ⟨a', b', c', by rw [e', e]⟩

theorem nextSlot_place (k : Keeper) : ∃ a b, nextSlot k = { k with sector := a, index := b } := by
  unfold nextSlot
  split
  · exact ⟨k.sector, _, rfl⟩
  · exact ⟨_, _, rfl⟩

theorem State.putRecord_place (r : LogRecord) : SameButPlace s (s.putRecord r) := by
  obtain ⟨a, b, e⟩ := nextSlot_place { s.keeper with seq := s.keeper.seq + 1 }
  exact ⟨a, b, s.keeper.seq + 1, e⟩

theorem State.flushLog_place : SameButPlace s (s.flushLog n) := by
  induction n generalizing s with
  | zero => exact .of_same rfl
  | succ n ih =>
    unfold State.flushLog
    split
    · exact .of_same rfl
    · next r _ _ =>
      have popped : Keeps [.logs] s s.popRecord := (State.popRecord_keeps (by decide)).mpr (Keeps.refl _ s)
      have put : SameButPlace s (s.popRecord.putRecord r) := (SameButPlace.of_keeps popped (by decide)).trans (State.putRecord_place r)
      dsimp only
      split
      · exact (put.trans (.of_same rfl)).trans ih
      · exact put.trans ih

theorem foldl_place {α : Type} {f : State → α → State} (step : ∀ t x, SameButPlace t (f t x)) (l : List α) :
    SameButPlace s (l.foldl f s) := by
  induction l generalizing s with
  | nil => exact .of_same rfl
  | cons x l ih => exact (step s x).trans ih

theorem State.logNow_place (ty : Byte) (ps : List (List Byte)) : SameButPlace s (s.logNow ty ps) :=
  foldl_place (fun u p => (SameButPlace.of_keeps (G := [.logs]) ((State.log_keeps (by decide) _ _).mpr (Keeps.refl _ u))
    (by decide)).trans State.flushLog_place) ps

theorem State.flushTrace_place : SameButPlace s s.flushTrace :=
  SameButPlace.trans (t := s.updLogs fun l => { l with unflushed := 0 }) (.of_same rfl)
    (foldl_place (fun u e => SameButPlace.trans (t := u.updLogs fun l => { l with queue := [traceRecord e] }) (.of_same rfl)
      State.flushLog_place) _)

/-- The records written at the entry into STORAGE move the place of the next record and nothing else of the keeper (R113). -/
theorem State.entryRecords_place (rms : List Nat) : SameButPlace s (s.entryRecords rms) := by
  unfold State.entryRecords
  extract_lets flushed traced counted summed
  have ended : SameButPlace s flushed :=
    (SameButPlace.of_keeps (G := [.faults, .logs]) ((State.endAllReactions_keeps (by decide)).mpr (Keeps.refl _ s))
      (by decide)).trans State.flushLog_place
  have marked : SameButPlace s traced :=
    ended.trans (.of_keeps (G := [.logs]) ((State.trace_keeps (by decide) _ _).mpr (Keeps.refl _ _)) (by decide))
  have saved : Keeps [.logs, .balance, .nv, .services] counted
      (counted.logEnergy.saveDemand.logTotals.logSummary rms).saveServices := by
    simp (disch := decide) only [State.saveServices_keeps, State.logSummary_keeps, State.logTotals_keeps, State.saveDemand_keeps,
      State.logEnergy_keeps, Keeps.refl]
  exact (((marked.trans (State.logNow_place _ _)).trans (.of_keeps saved (by decide))).trans State.flushLog_place).trans
    State.flushTrace_place

theorem execBuckStop_run (buck : s.supply.buck = true) (own : s.supply.fromVaux = false) :
    exec .buckStop s = .next (if s.life.good then s.enterLifeline else s.powerDown .off) := by
  simp [exec, execBuckStop, buck, own]

/-- A carrier is noted on the port it arrives at (R114). -/
def State.noteCarrier (s : State) (p : Port) : State :=
  (s.updLife fun l => { l with carrier := some p }).updPort p fun q => { q with carrierSeen := true }

theorem execWakeCarrierDetect_storage (phase : s.dev.phase = .storage) (hears : detects s.kept p = true)
    (other : s.kept.role ≠ .dealer) (v : Bool) : exec (.wakeCarrierDetect p v) s = .next ((s.noteCarrier p).carrierWake p v) := by
  simp [exec, execWakeCarrierDetect, phase, hears, other, State.noteCarrier]

theorem State.carrierWake_boots : s.carrierWake p true = (s.beginBoot causeStwake).relayCarrier p s.kept := by
  simp [State.carrierWake]

theorem State.carrierWake_lifeline (good : s.life.good = true) : s.carrierWake p false = s.enterLifeline.relayCarrier p s.kept := by
  simp [State.carrierWake, good]

/-- The carrier goes on by the other port where that port's generation has one (R114). -/
theorem State.relayCarrier_line {c : InForce} (carries : keptGen c p.other = .a ∨ keptGen c p.other = .b) :
    ((s.relayCarrier p c).port p.other).line = [.wakeCarrier] := by
  cases p <;> rcases carries with a | b
  all_goals simp_all [State.relayCarrier, keptGen, Port.other]

theorem State.relayCarrier_frame (c : InForce) : Keeps [.portN, .portS] s (s.relayCarrier p c) :=
  (State.relayCarrier_keeps (by decide) _ _).mpr (Keeps.refl _ s)

theorem wakeCarrier_boots (phase : s.dev.phase = .storage) (hears : detects s.kept p = true) (other : s.kept.role ≠ .dealer) :
    Runs (.wakeCarrierDetect p true) s fun t =>
      t.dev.phase = .boot ∧ t.keeper.cause = s.keeper.cause ||| causeStwake ∧ t.life.carrier = some p ∧ t.nv = s.nv ∧
      (keptGen s.kept p.other = .a ∨ keptGen s.kept p.other = .b → (t.port p.other).line = [.wakeCarrier]) := by
  have run := execWakeCarrierDetect_storage phase hears other true
  rw [State.carrierWake_boots] at run
  have frame := State.relayCarrier_frame (s := (s.noteCarrier p).beginBoot causeStwake) (p := p) (s.noteCarrier p).kept
  have noted : (s.noteCarrier p).keeper = s.keeper ∧ (s.noteCarrier p).nv = s.nv ∧ (s.noteCarrier p).life.carrier = some p := by
    cases p <;> exact ⟨rfl, rfl, rfl⟩
  obtain ⟨keeper, nv, carrier⟩ := noted
  have kept : (s.noteCarrier p).kept = s.kept := by simp only [State.kept, keeper]
  refine runs_next run ⟨(congrArg Dev.phase (frame.group .dev (by decide))).trans rfl, ?_,
    (congrArg Lifeline.carrier (frame.group .life (by decide))).trans carrier, (frame.group .nv (by decide)).trans nv,
    fun carries => State.relayCarrier_line (kept ▸ carries)⟩
  exact (congrArg Keeper.cause (frame.group .keeper (by decide))).trans (congrArg (fun k : Keeper => k.cause ||| causeStwake) keeper)

theorem wakeCarrier_lifeline (phase : s.dev.phase = .storage) (hears : detects s.kept p = true) (other : s.kept.role ≠ .dealer)
    (good : s.life.good = true) :
    Runs (.wakeCarrierDetect p false) s fun t =>
      t.dev.phase = .lifeline ∧ t.life.port = p ∧ t.life.reports = 0 ∧ t.nv = s.nv := by
  have run := execWakeCarrierDetect_storage phase hears other false
  have noted : (s.noteCarrier p).life.good = true ∧ (s.noteCarrier p).nv = s.nv ∧ (s.noteCarrier p).life.carrier = some p := by
    cases p <;> exact ⟨good, rfl, rfl⟩
  obtain ⟨good', nv, carrier⟩ := noted
  rw [State.carrierWake_lifeline good'] at run
  have frame := State.relayCarrier_frame (s := (s.noteCarrier p).enterLifeline) (p := p) (s.noteCarrier p).kept
  have life : ((s.noteCarrier p).enterLifeline.relayCarrier p (s.noteCarrier p).kept).life = (s.noteCarrier p).enterLifeline.life :=
    frame.group .life (by decide)
  refine runs_next run ⟨(congrArg Dev.phase (frame.group .dev (by decide))).trans rfl, ?_, by rw [life]; rfl,
    (frame.group .nv (by decide)).trans nv⟩
  rw [life]
  change (s.noteCarrier p).life.carrier.getD _ = p
  rw [carrier]
  rfl

/-- What entry into STORAGE writes before the supplies are switched off (R112, R113). -/
def State.storageNoted (s : State) (rms : List Nat) : State :=
  ((if s.core then s.entryRecords rms else s).updKeeper fun k =>
    { k with entry := some k.time.toNat, watches := 0, skipped := 0, watchAlarm := false }).updLife fun l => { l with carrier := none }

theorem execStorageEntry_run (run : s.running = true) (entering : s.dev.entering = true) (quiet : s.dev.wakePending = none)
    (x y z : Nat) : exec (.storageEntry x y z) s = .next ((s.storageNoted [x, y, z]).powerDown .storage) := by
  simp only [exec, execStorageEntry, run, entering, quiet, Bool.and_self, Bool.not_true, Bool.false_eq_true, if_false]
  rfl

theorem storageEntry_ends (run : s.running = true) (entering : s.dev.entering = true) (quiet : s.dev.wakePending = none)
    (x y z : Nat) : Runs (.storageEntry x y z) s fun t =>
      t.dev.phase = .storage ∧ t.keeper.entry = some s.now ∧ t.keeper.watches = 0 ∧ t.keeper.skipped = 0 ∧
      t.supply.buck = false ∧ t.pins.driven = false ∧ t.life.carrier = none ∧ t.keeper.lockout = s.keeper.lockout := by
  have recorded : SameButPlace s (if s.core then s.entryRecords [x, y, z] else s) := by
    split
    · exact State.entryRecords_place _
    · exact .of_same rfl
  obtain ⟨a, b, c, keeper⟩ := recorded
  have noted : (s.storageNoted [x, y, z]).keeper = { s.keeper with
      sector := a, index := b, seq := c, entry := some s.now, watches := 0, skipped := 0, watchAlarm := false } := by
    change { (if s.core then s.entryRecords [x, y, z] else s).keeper with
      entry := some (if s.core then s.entryRecords [x, y, z] else s).keeper.time.toNat
      watches := 0, skipped := 0, watchAlarm := false } = _
    rw [keeper]
    rfl
  refine runs_next (execStorageEntry_run run entering quiet x y z) ⟨rfl, ?_, ?_, ?_, rfl, rfl, rfl, ?_⟩
  · exact congrArg Keeper.entry noted
  · exact congrArg Keeper.watches noted
  · exact congrArg Keeper.skipped noted
  · exact (congrArg Keeper.lockout noted :)

end

/-- Settles O24: each way into a power state is one operation on the supplies, before which the records of the entry leave the
keeper's lock-out and time as they were. -/
theorem supplyDecidesThePhase : Obligations.SupplyDecidesThePhase := by
  refine fun s => ⟨fun buck own => ?_, fun p phase hears other => ⟨wakeCarrier_boots phase hears other,
    wakeCarrier_lifeline phase hears other⟩, storageEntry_ends⟩
  have run := execBuckStop_run buck own
  cases good : s.life.good <;> rw [good] at run <;> exact runs_next run ⟨rfl, rfl, rfl, rfl, rfl, rfl, rfl⟩

end Sys2Proof.Machine

/-!
PROOFS. The boot: strap latching and the start of the firmware (chapter 04, section 8).
-/
namespace Sys2Proof.Machine

/-! ### Strap latching -/

section
variable {s t u : State} {r : BootReads} {ls : Levels}

/-- The levels are latched and with them all that rests on the straps from here on (R58). -/
def State.latchLevels (s : State) (ls : Levels) : State :=
  { s with
    straps := { s.straps with latched := ls }
    keeper := { s.keeper with
      straps := ls
      vauxAbsent := if (inForce ls).role = .dealer && !s.supply.vaux then some (s.keeper.vauxAbsent.getD 0)
        else s.keeper.vauxAbsent }
    dev := { s.dev with strapped := true }
    ring := { s.ring with period := (inForce ls).period }
    clocks := { s.clocks with clkin := (inForce ls).clkin, locked := (inForce ls).role = .dealer }
    probes := { s.probes with power := (inForce ls).probeWire }
    supply := { s.supply with fromVaux := s.supply.vaux && (inForce ls).role = .dealer } }

/-- A Dealer's role that the keeper did not know begins its wake carrier (R115). -/
def State.newDealerPorts (s : State) (known : Bool) (c : InForce) : State :=
  if known || c.role ≠ .dealer then s
  else (s.updPort .n fun _ => bootPort c s.supply.vaux false c.genN).updPort .s fun _ => bootPort c s.supply.vaux false c.genS

theorem execStrapLatch_run (boot : s.dev.phase = .boot) (fresh : s.dev.strapped = false) (a b : List Rat) :
    exec (.strapLatch r a b) s = .next
      ((((s.bootChecks r).latchLevels ((List.range 13).map fun i => latchLevel (a.getD i 0) (b.getD i 0))).newDealerPorts
        ((s.bootChecks r).kept.role = .dealer)
        (inForce ((List.range 13).map fun i => latchLevel (a.getD i 0) (b.getD i 0)))).raiseInvalid) := by
  simp only [exec, execStrapLatch, boot, fresh, decide_true, Bool.not_false, Bool.and_self, Bool.not_true, Bool.false_eq_true,
    if_false]
  rfl

theorem State.newDealerPorts_frame (known : Bool) (c : InForce) : Keeps [.portN, .portS] s (s.newDealerPorts known c) :=
  keeps_ite (Keeps.refl _ s) (by simp (disch := decide) only [State.updPort_keeps, Keeps.refl])

/-- The checks at the end of a reset, made or not, leave the phase and the sticky bits that were set. -/
theorem State.bootChecks_leaves (hf : s.faults.length = 18) : (s.bootChecks r).dev.phase = s.dev.phase ∧
    (s.bootChecks r).faults.length = 18 := by
  cases checked : s.dev.bootChecked with
  | true =>
    unfold State.bootChecks
    rw [if_pos checked]
    exact ⟨rfl, hf⟩
  | false =>
    cases ok : r.romOk with
    | true =>
      rw [State.bootChecks_good checked ok]
      exact ⟨rfl, hf⟩
    | false =>
      rw [State.bootChecks_bad checked ok]
      obtain ⟨⟨x, w, dev⟩, -⟩ := State.raise_atMost (s := s.readKey r) (b := .superv) (i := 13)
      exact ⟨(congrArg Dev.phase dev :), (State.raise_length (s.readKey r) _ _).trans hf⟩

theorem foldl_raise_if (c : Nat → Bool) (l : List Nat) (hf : s.faults.length = 18) :
    StickyKept s (l.foldl (fun t i => if c i then t.raise .strap 2 else t) s) ∧
    ∀ i ∈ l, c i = true → (l.foldl (fun t i => if c i then t.raise .strap 2 else t) s).has .strap 2 = true := by
  induction l generalizing s with
  | nil => exact ⟨StickyKept.refl s, nofun⟩
  | cons j l ih =>
    rw [List.foldl_cons]
    by_cases hj : c j = true
    · rw [if_pos hj]
      obtain ⟨sticky, later⟩ := ih (s := s.raise .strap 2) ((State.raise_length _ _ _).trans hf)
      refine ⟨(State.raise_mono s _ _).trans sticky, fun i _ _ => ?_⟩
      exact sticky _ _ (State.raise_has _ _ _ hf (by decide))
    · rw [if_neg hj]
      obtain ⟨sticky, later⟩ := ih hf
      exact ⟨sticky, fun i mem hi => (List.mem_cons.mp mem).elim (fun same => absurd (same ▸ hi) hj) fun mem => later i mem hi⟩

theorem State.raiseInvalid_raises (hf : s.faults.length = 18) (i : Nat) (hi : i < 13)
    (bad : strapInvalid s.straps.latched i = true) : s.raiseInvalid.has .strap 2 = true :=
  (foldl_raise_if (fun i => strapInvalid s.straps.latched i) (List.range 13) hf).2 i (List.mem_range.mpr hi) bad

theorem State.raiseInvalid_frame : Keeps [.faults, .logs, .pins] s s.raiseInvalid :=
  (State.raiseInvalid_keeps (by decide)).mpr (Keeps.refl _ s)

theorem strapLatch_latches (boot : s.dev.phase = .boot) (fresh : s.dev.strapped = false) (hf : s.faults.length = 18)
    (a b : List Rat) : Runs (.strapLatch r a b) s fun t =>
      t.dev.phase = .boot ∧ t.dev.strapped = true ∧
      t.straps.latched = (List.range 13).map (fun i => latchLevel (a.getD i 0) (b.getD i 0)) ∧
      t.keeper.straps = t.straps.latched ∧ t.ring.period = t.cfg.period ∧ t.probes.power = t.cfg.probeWire ∧
      (∀ i, i < 13 → strapInvalid t.straps.latched i = true → t.has .strap 2 = true) ∧ StickyKept s t := by
  have run := execStrapLatch_run (r := r) boot fresh a b
  obtain ⟨phase, length⟩ := State.bootChecks_leaves (r := r) hf
  generalize (List.range 13).map (fun i => latchLevel (a.getD i 0) (b.getD i 0)) = ls at run ⊢
  generalize decide ((s.bootChecks r).kept.role = .dealer) = known at run
  have ports := State.newDealerPorts_frame (s := (s.bootChecks r).latchLevels ls) known (inForce ls)
  have whole : Keeps [.portN, .portS, .faults, .logs, .pins] ((s.bootChecks r).latchLevels ls)
      (((s.bootChecks r).latchLevels ls).newDealerPorts known (inForce ls)).raiseInvalid :=
    (ports.mono (by decide)).trans (State.raiseInvalid_frame.mono (by decide))
  have straps : (((s.bootChecks r).latchLevels ls).newDealerPorts known (inForce ls)).raiseInvalid.straps =
      ((s.bootChecks r).latchLevels ls).straps := whole.group .straps (by decide)
  have latched : (((s.bootChecks r).latchLevels ls).newDealerPorts known (inForce ls)).raiseInvalid.straps.latched = ls := by
    rw [straps]
    rfl
  have keeper : (((s.bootChecks r).latchLevels ls).newDealerPorts known (inForce ls)).raiseInvalid.keeper =
      ((s.bootChecks r).latchLevels ls).keeper := whole.group .keeper (by decide)
  have dev : (((s.bootChecks r).latchLevels ls).newDealerPorts known (inForce ls)).raiseInvalid.dev =
      ((s.bootChecks r).latchLevels ls).dev := whole.group .dev (by decide)
  have ring : (((s.bootChecks r).latchLevels ls).newDealerPorts known (inForce ls)).raiseInvalid.ring =
      ((s.bootChecks r).latchLevels ls).ring := whole.group .ring (by decide)
  have probes : (((s.bootChecks r).latchLevels ls).newDealerPorts known (inForce ls)).raiseInvalid.probes =
      ((s.bootChecks r).latchLevels ls).probes := whole.group .probes (by decide)
  have before : (((s.bootChecks r).latchLevels ls).newDealerPorts known (inForce ls)).straps.latched = ls :=
    congrArg Straps.latched (ports.group .straps (by decide))
  have faults : (((s.bootChecks r).latchLevels ls).newDealerPorts known (inForce ls)).faults.length = 18 :=
    (congrArg List.length (ports.group .faults (by decide))).trans length
  refine runs_next run ⟨by rw [dev]; exact phase.trans boot, by rw [dev]; rfl, latched, by rw [keeper, latched]; rfl, ?_, ?_,
    fun i hi bad => State.raiseInvalid_raises faults i hi ?_, (stickyBitsStay _ _ _ rfl run).1⟩
  · rw [ring, State.cfg, latched]
    rfl
  · rw [probes, State.cfg, latched]
    rfl
  · rw [before]
    rwa [latched] at bad

end

/-! ### The start of the firmware -/

section
variable {s t u : State} {low token was : Bool} {unpopulated : List Int}

/-- From `s` to `t` of a boot the lock-out copies, the verifier's flag and the service key are as they were, and no bit is cleared. -/
structure SameBoot (s t : State) : Prop where
  verified : t.keeper.slotVerified = s.keeper.slotVerified
  lock : t.keeper.lockout = s.keeper.lockout
  flashLock : t.nv.lockout = s.nv.lockout
  key : t.straps.keyRead = s.straps.keyRead
  sticky : StickyKept s t

theorem SameBoot.refl (s : State) : SameBoot s s := ⟨rfl, rfl, rfl, rfl, StickyKept.refl s⟩

theorem SameBoot.trans (h : SameBoot s t) (k : SameBoot t u) : SameBoot s u where
  verified := k.verified.trans h.verified
  lock := k.lock.trans h.lock
  flashLock := k.flashLock.trans h.flashLock
  key := k.key.trans h.key
  sticky := h.sticky.trans k.sticky

theorem SameBoot.of_keeps {G : List Group} (h : Keeps G s t)
    (c : [Group.keeper, .nv, .straps, .faults].all (fun g => covers [g] G = false) = true) : SameBoot s t := by
  simp only [List.all_cons, List.all_nil, Bool.and_true, Bool.and_eq_true, decide_eq_true_eq] at c
  obtain ⟨keeper, nv, straps, faults⟩ := c
  exact ⟨congrArg Keeper.slotVerified (h.group .keeper keeper), congrArg Keeper.lockout (h.group .keeper keeper),
    congrArg NonVolatile.lockout (h.group .nv nv), congrArg Straps.keyRead (h.group .straps straps),
    .of_faults (h.group .faults faults)⟩

theorem State.skipTorn_place (n : Nat) : SameButPlace s (s.skipTorn n) := by
  induction n generalizing s with
  | zero => exact .of_same rfl
  | succ n ih =>
    unfold State.skipTorn
    dsimp only
    split
    · exact .of_same rfl
    · obtain ⟨a, b, e⟩ := nextSlot_place s.keeper
      exact SameButPlace.trans ⟨a, b, s.keeper.seq, e⟩ ih

theorem nextSlot_flags (k : Keeper) : (nextSlot k).slotVerified = k.slotVerified ∧ (nextSlot k).lockout = k.lockout := by
  obtain ⟨a, b, e⟩ := nextSlot_place k
  rw [e]
  exact ⟨rfl, rfl⟩

/-- The place of the next record found again at a boot (R94). -/
def State.findPlace (s : State) : State :=
  s.updKeeper fun k =>
    if k.pointersLost then
      match latestRecord s.presentRecords with
      | none => { k with sector := 0, index := 0, seq := 0, pointersLost := false }
      | some r =>
        nextSlot { k with sector := (r.1 - logBase) / 4096, index := (r.1 - logBase) % 4096 / 16, seq := seqOf r.2 + 1,
                          pointersLost := false }
    else k

theorem State.bootLog_eq : s.bootLog = (s.findPlace.skipTorn 256).eraseSpare := rfl

theorem State.findPlace_same : SameBoot s s.findPlace := by
  have flags : s.findPlace.keeper.slotVerified = s.keeper.slotVerified ∧ s.findPlace.keeper.lockout = s.keeper.lockout := by
    simp only [State.findPlace, State.updKeeper]
    split
    · split
      · exact ⟨rfl, rfl⟩
      · exact nextSlot_flags _
    · exact ⟨rfl, rfl⟩
  exact ⟨flags.1, flags.2, rfl, rfl, StickyKept.refl s⟩

theorem State.skipTorn_same (n : Nat) : SameBoot s (s.skipTorn n) := by
  obtain ⟨a, b, c, keeper⟩ := s.skipTorn_place n
  have frame : Keeps [.logs, .keeper] s (s.skipTorn n) := (State.skipTorn_keeps (by decide) n).mpr (Keeps.refl _ s)
  exact ⟨by rw [keeper], by rw [keeper], congrArg NonVolatile.lockout (frame.group .nv (by decide)),
    congrArg Straps.keyRead (frame.group .straps (by decide)), .of_faults (frame.group .faults (by decide))⟩

theorem State.bootLog_same : SameBoot s s.bootLog := by
  rw [State.bootLog_eq]
  exact (State.findPlace_same.trans (State.skipTorn_same 256)).trans ⟨rfl, rfl, rfl, rfl, StickyKept.refl _⟩

theorem State.restoreKeeper_same : SameBoot s s.restoreKeeper := by
  unfold State.restoreKeeper
  split
  · exact ⟨rfl, rfl, rfl, rfl, StickyKept.refl s⟩
  · exact .refl s

theorem State.bootRecords_same : SameBoot s (s.bootRecords low) := by
  unfold State.bootRecords
  split
  · exact .refl s
  · extract_lets k dur b boot straps sealed_ record
    have logged : Keeps [.logs] s record := by
      refine keeps_ite ?_ ?_ <;>
        simp (disch := decide) only [sealed_, straps, boot, State.trace_keeps, State.log_keeps, Keeps.refl]
    exact (SameBoot.of_keeps logged (by decide)).trans ⟨rfl, rfl, rfl, rfl, StickyKept.refl _⟩

theorem State.probeRecords_same : SameBoot s s.probeRecords := by
  unfold State.probeRecords
  split
  · exact .refl s
  · extract_lets held logged
    have frame : Keeps [.logs] s logged :=
      keeps_foldl _ (fun t k => keeps_ite ((State.log_keeps (by decide) _ _).mpr (Keeps.refl _ t)) (Keeps.refl _ t)) (Keeps.refl _ s)
    exact (SameBoot.of_keeps frame (by decide)).trans ⟨rfl, rfl, rfl, rfl, StickyKept.refl _⟩

theorem State.raiseIf_keeper {b : Block} {i : Nat} (h : calm b i = true) (c : Bool) :
    (s.raiseIf c b i).keeper = s.keeper :=
  (State.raiseIf_frame h).group .keeper (by decide)

theorem State.bistFalls_keeper : s.bistFalls.keeper = s.keeper := State.bistFalls_frame.group .keeper (by decide)

theorem State.startChecks_keeper : (s.startChecks unpopulated low).keeper = { s.keeper with testAbandoned := false } := by
  unfold State.startChecks
  extract_lets k differs lost backup alarm skipped inputs finger abandoned failed result
  have checked : abandoned.keeper = { s.keeper with testAbandoned := false } := by
    simp (disch := decide) only [abandoned, finger, inputs, skipped, alarm, backup, lost, State.updKeeper, State.raiseIf_keeper,
      State.updStraps_keeper]
  rw [State.bistFalls_keeper, State.updPins_keeper, State.raiseIf_keeper (by decide), checked]

theorem State.startChecks_same : SameBoot s (s.startChecks unpopulated low) := by
  have frame : Keeps [.faults, .logs, .pins, .straps, .keeper] s (s.startChecks unpopulated low) :=
    (State.startChecks_keeps (by decide) _ _).mpr (Keeps.refl _ s)
  obtain ⟨b, straps⟩ := s.startChecks_straps unpopulated low
  exact ⟨by rw [State.startChecks_keeper], by rw [State.startChecks_keeper],
    congrArg NonVolatile.lockout (frame.group .nv (by decide)), by rw [straps],
    (State.startChecks_sound (m := true) (l := false) _ _ (Sound.refl _ _ s)).sticky rfl⟩

/-- A return token that boots ends the life of the device in the field (R563). -/
def State.armReturn (s : State) : State := if s.returnToken then s.updNv returned else s

/-- The cause of the boot and the sealed count go into the ring block. -/
def State.noteBoot (s : State) : State :=
  s.updRing fun r => { r with causeWord := s.keeper.cause, count := ((s.nv.active.map fun x => x.entries.length).getD r.count) }

/-- The records of a boot (R538, R546). -/
def State.recordBoot (s : State) (low token was : Bool) : State :=
  (if token then (s.bootRecords low).probeRecords.log 0x08 [8, 0, 0, 0, 0, 0, 0, 0] else (s.bootRecords low).probeRecords).imageRecords
    was

/-- The checks of a boot see the cause that the records have cleared; then the keeper leaves STORAGE behind. -/
def State.checkBoot (s : State) (cause : Word) (unpopulated : List Int) (low : Bool) : State :=
  ((s.updKeeper fun k => { k with cause := cause }).startChecks unpopulated low).updKeeper fun k =>
    { k with cause := s.keeper.cause, entry := none, watches := 0, skipped := 0, watchAlarm := false }

/-- RUN begins. -/
def State.enterRun (s : State) : State :=
  (((s.updDev fun d => { d with phase := .run, runTicks := 0, lastService := s.now }).updService fun v =>
    { v with open_ := s.straps.keyRead }).updSupply fun v => { v with tref := s.cfg.ntcCount != 0 }).updPins fun p =>
      { p with
        testPulses := s.usesInterlock && !s.dev.fatal, faultN := s.isDealer
        socPwm := if s.isDealer && !s.dev.fatal then 600 else p.socPwm }

/-- The core has started from its slot and its records and checks are made. -/
def State.startCore (s : State) (unpopulated : List Int) (low : Bool) : State :=
  (s.armReturn.chooseSlot.bootLog.restoreKeeper.noteBoot.restoreServices.recordBoot low s.returnToken s.nv.activeB).checkBoot
    s.armReturn.chooseSlot.bootLog.restoreKeeper.keeper.cause unpopulated low

theorem execFirmwareStart_run (boot : s.dev.phase = .boot) (latched : s.dev.strapped = true) (mv : Nat) :
    exec (.firmwareStart unpopulated mv) s = .next (s.startCore unpopulated (mv < 2500)).lockoutCopies.enterRun := by
  simp only [exec, execFirmwareStart, boot, latched, decide_true, Bool.and_self, Bool.not_true, Bool.false_eq_true, if_false]
  rfl

theorem State.recordBoot_same : SameBoot s (s.recordBoot low token was) := by
  have logged : Keeps [.logs] (s.bootRecords low).probeRecords (s.recordBoot low token was) := by
    unfold State.recordBoot
    rw [State.imageRecords_keeps (by decide)]
    exact keeps_ite ((State.log_keeps (by decide) _ _).mpr (Keeps.refl _ _)) (Keeps.refl _ _)
  exact (State.bootRecords_same.trans State.probeRecords_same).trans (.of_keeps logged (by decide))

theorem State.checkBoot_same (cause : Word) : SameBoot s (s.checkBoot cause unpopulated low) := by
  have caused : SameBoot s (s.updKeeper fun k => { k with cause := cause }) := ⟨rfl, rfl, rfl, rfl, StickyKept.refl s⟩
  have left : ∀ u : State, SameBoot u (u.updKeeper fun k =>
      { k with cause := s.keeper.cause, entry := none, watches := 0, skipped := 0, watchAlarm := false }) :=
    fun u => ⟨rfl, rfl, rfl, rfl, StickyKept.refl u⟩
  exact (caused.trans State.startChecks_same).trans (left _)

/-- Once the slot is chosen, the boot leaves the lock-out copies and the verifier's flag alone up to its end. -/
theorem State.startCore_same : SameBoot s.armReturn.chooseSlot (s.startCore unpopulated low) := by
  have services : SameBoot s.armReturn.chooseSlot.bootLog.restoreKeeper.noteBoot
      s.armReturn.chooseSlot.bootLog.restoreKeeper.noteBoot.restoreServices :=
    .of_keeps (G := [.services]) ((State.restoreServices_keeps (by decide)).mpr (Keeps.refl _ _)) (by decide)
  have noted : SameBoot s.armReturn.chooseSlot.bootLog.restoreKeeper s.armReturn.chooseSlot.bootLog.restoreKeeper.noteBoot :=
    ⟨rfl, rfl, rfl, rfl, StickyKept.refl _⟩
  exact ((((State.bootLog_same.trans State.restoreKeeper_same).trans noted).trans services).trans State.recordBoot_same).trans
    (State.checkBoot_same _)

theorem foldl_failed_lockout (l : List Bool) (n : NonVolatile) :
    (l.foldl (fun m x => if slotOf m x = .empty then m else setSlot x .failed m) n).lockout = n.lockout := by
  induction l generalizing n with
  | nil => rfl
  | cons b l ih =>
    rw [List.foldl_cons, ih]
    split
    · rfl
    · cases b <;> rfl

theorem setSlot_lockout (b : Bool) (x : SlotState) (n : NonVolatile) : (setSlot b x n).lockout = n.lockout := by cases b <;> rfl

/-- The verifier's choice leaves the lock-out copies alone. -/
theorem State.chooseSlot_locks : s.chooseSlot.keeper.lockout = s.keeper.lockout ∧ s.chooseSlot.nv.lockout = s.nv.lockout := by
  have raised : ∀ (u : State) (i : Nat), (u.raise .raivo i).keeper = u.keeper ∧ (u.raise .raivo i).nv = u.nv := fun u i =>
    ⟨(State.raise_frame (calm_of_block (by decide))).group .keeper (by decide),
      (State.raise_frame (calm_of_block (by decide))).group .nv (by decide)⟩
  unfold State.chooseSlot
  dsimp only
  split
  · rw [(raised _ _).1, (raised _ _).2]
    exact ⟨rfl, rfl⟩
  · split
    · exact ⟨rfl, (setSlot_lockout _ _ _).trans (foldl_failed_lockout _ _)⟩
    · rw [(raised _ _).1, (raised _ _).2]
      exact ⟨rfl, (setSlot_lockout _ _ _).trans (foldl_failed_lockout _ _)⟩

/-- With no slot that verifies the flag falls and RAIVO bit 9 is set (R559). -/
theorem State.chooseSlot_none (none_ : s.bootSlot = none) (hf : s.faults.length = 18) :
    s.chooseSlot.keeper.slotVerified = false ∧ s.chooseSlot.has .raivo 9 = true := by
  unfold State.chooseSlot
  rw [none_]
  have keeper := (State.raise_frame (s := s.updKeeper fun k => { k with slotVerified := false }) (b := .raivo) (i := 9)
    (calm_of_block (by decide))).group .keeper (by decide)
  exact ⟨congrArg Keeper.slotVerified keeper, State.raise_has _ _ _ hf (by decide)⟩

theorem State.armReturn_same : SameBoot s s.armReturn := by
  unfold State.armReturn
  split
  · exact ⟨rfl, rfl, rfl, rfl, StickyKept.refl s⟩
  · exact .refl s

/-- The set copy of the lock-out prevails in both (R500). -/
theorem State.lockoutCopies_copies : (∃ d, s.lockoutCopies.keeper =
      { s.keeper with lockout := s.keeper.lockout || s.nv.lockout, demand := d }) ∧
    s.lockoutCopies.nv.lockout = (s.keeper.lockout || s.nv.lockout) := by
  unfold State.lockoutCopies
  extract_lets k f set_ copied told tested
  have frame : Keeps [.faults, .logs, .pins] copied told := by
    refine keeps_ite (Keeps.refl _ copied) ?_
    rw [State.logLockout_keeps (by decide)]
    exact State.raise_frame (by decide)
  have keeper : told.keeper = copied.keeper := frame.group .keeper (by decide)
  have nv : told.nv = copied.nv := frame.group .nv (by decide)
  change (∃ d, tested.keeper = _) ∧ tested.nv.lockout = _
  by_cases due : (set_ && told.usesInterlock) = true
  · have e : tested = told.demandPending := if_pos due
    rw [e]
    exact ⟨⟨true, congrArg (fun k : Keeper => { k with demand := true }) keeper⟩, congrArg NonVolatile.lockout nv⟩
  · have e : tested = told := if_neg due
    rw [e, keeper, nv]
    exact ⟨⟨s.keeper.demand, rfl⟩, rfl⟩

theorem firmwareStart_runs (boot : s.dev.phase = .boot) (latched : s.dev.strapped = true) (hf : s.faults.length = 18) (mv : Nat) :
    Runs (.firmwareStart unpopulated mv) s fun t =>
      t.dev.phase = .run ∧ t.dev.runTicks = 0 ∧ t.service.open_ = s.straps.keyRead ∧ t.keeper.lockout = t.nv.lockout ∧
      (s.keeper.lockout = true ∨ s.nv.lockout = true → t.keeper.lockout = true) ∧ t.keeper.entry = none ∧
      t.keeper.watchAlarm = false ∧ StickyKept s t ∧
      (s.returnToken = false → s.bootSlot = none → t.keeper.slotVerified = false ∧ t.has .raivo 9 = true) := by
  have run := execFirmwareStart_run (unpopulated := unpopulated) boot latched mv
  generalize decide (mv < 2500) = low at run
  have started := State.startCore_same (s := s) (unpopulated := unpopulated) (low := low)
  obtain ⟨⟨d, keeper⟩, nv⟩ := State.lockoutCopies_copies (s := s.startCore unpopulated low)
  obtain ⟨lockK, lockF⟩ := State.chooseSlot_locks (s := s.armReturn)
  have locked : (s.startCore unpopulated low).keeper.lockout = s.keeper.lockout ∧
      (s.startCore unpopulated low).nv.lockout = s.nv.lockout :=
    ⟨(started.lock.trans lockK).trans State.armReturn_same.lock, (started.flashLock.trans lockF).trans State.armReturn_same.flashLock⟩
  have copies : (s.startCore unpopulated low).lockoutCopies.keeper.lockout = (s.keeper.lockout || s.nv.lockout) := by
    rw [keeper, locked.1, locked.2]
  have key : (s.startCore unpopulated low).lockoutCopies.straps.keyRead = s.straps.keyRead := by
    rw [State.lockoutCopies_straps, started.key, State.chooseSlot_straps]
    exact State.armReturn_same.key
  refine runs_next run ⟨rfl, rfl, key, ?_, fun set_ => ?_, ?_, ?_, (stickyBitsStay _ _ _ rfl run).1, fun noToken none_ => ?_⟩
  · exact copies.trans (nv.trans (by rw [locked.1, locked.2])).symm
  · exact copies.trans (by simpa using set_)
  · exact (congrArg Keeper.entry keeper :)
  · exact (congrArg Keeper.watchAlarm keeper :)
  · have plain : s.armReturn = s := if_neg (by rw [noToken]; decide)
    rw [plain] at started
    obtain ⟨verified, bit⟩ := State.chooseSlot_none none_ hf
    have sticky : StickyKept (s.startCore unpopulated low) (s.startCore unpopulated low).lockoutCopies :=
      (State.lockoutCopies_sound (m := true) (l := false) (Sound.refl _ _ _)).sticky rfl
    exact ⟨(congrArg Keeper.slotVerified keeper).trans (started.verified.trans verified), sticky _ _ (started.sticky _ _ bit)⟩

end

/-- Settles O26: the levels latched are those of the reads, and up to the lock-out copies the start of the core changes neither
copy. -/
theorem bootEndsInRun : Obligations.BootEndsInRun :=
  fun _ boot hf => ⟨fun fresh _ a b => strapLatch_latches boot fresh hf a b,
    fun latched _ mv => firmwareStart_runs boot latched hf mv⟩

end Sys2Proof.Machine

/-!
PROOFS. Measurement: the samples of the aperture, the readings at its end and the open sense-wire test (chapter 06).
-/
namespace Sys2Proof.Machine

/-- A fold that treats each index once: what the step at `k` establishes, and the others keep, holds at the end. -/
theorem foldl_at {σ α : Type} {f : σ → α → σ} {I Q : σ → Prop} {k : α} (inv : ∀ u j, j ≠ k → I u → I (f u j))
    (hit : ∀ u, I u → Q (f u k)) (other : ∀ u j, j ≠ k → Q u → Q (f u j)) {l : List α} (once : l.Nodup) (mem : k ∈ l) {s : σ}
    (h : I s) : Q (l.foldl f s) := by
  have rest : ∀ (l : List α) (u : σ), k ∉ l → Q u → Q (l.foldl f u) := by
    intro l
    induction l with
    | nil => exact fun u _ q => q
    | cons j l ih =>
      exact fun u out q => ih _ (fun mem => out (List.mem_cons_of_mem j mem))
        (other u j (fun same => out (same ▸ List.mem_cons_self)) q)
  induction l generalizing s with
  | nil => exact absurd mem List.not_mem_nil
  | cons j l ih =>
    obtain ⟨out, once⟩ := List.nodup_cons.mp once
    by_cases same : j = k
    · subst same
      exact rest l _ out (hit s h)
    · exact ih once ((List.mem_cons.mp mem).resolve_left fun e => same e.symm) (inv s j same h)

theorem getD_set_self {α : Type} {l : List α} {k : Nat} (hk : k < l.length) (x d : α) : (l.set k x).getD k d = x := by
  simp [List.getD_eq_getElem?_getD, hk]

theorem getD_set_ne {α : Type} {l : List α} {j k : Nat} (h : j ≠ k) (x d : α) : (l.set j x).getD k d = l.getD k d := by
  simp [List.getD_eq_getElem?_getD, h]

/-! ### The samples of the aperture -/

section
variable {s : State}

theorem execPassivePause_run (samples : s.samples = true) :
    exec .passivePause s = .next { s with meas := { s.meas with pause := true } } := by
  simp only [exec, execPassivePause, samples, if_true]
  rfl

theorem execApertureOpen_run (samples : s.samples = true) : exec .apertureOpen s = .next
    { s with
      meas := { s.meas with aperture := true, pause := true, deal := if s.ring.dealing then s.ring.deal + 1 else 0 }
      ring := { s.ring with phaseFix := 0 } } := by
  simp only [exec, execApertureOpen, samples, if_true]
  rfl

/-- What the meld of the deal takes from the tick at S (R171). -/
def markSample (now : Nat) (m : Meas) : Meas := { m with sampledAt := now, accAtS := m.acc }

theorem execSamplingInstant_run {ntc : List Rat} (run : s.running = true) (aperture : s.meas.aperture = true) :
    exec (.samplingInstant ntc) s = .next (s.updMeas fun m =>
      (List.range s.cfg.ntcCount).foldl (takeNtc s.cfg.ntcType ntc) (markSample s.now m)) := by
  simp only [exec, execSamplingInstant, run, aperture, Bool.and_self, if_true]
  rfl

/-- An NTC conversion writes its own code and its count of failures (R164, R176). -/
theorem takeNtc_only (ty : Nat) (rs : List Rat) (m : Meas) (k : Nat) :
    ∃ c n, takeNtc ty rs m k = { m with ntc := m.ntc.set k c, ntcBad := n } := by
  unfold takeNtc
  dsimp only
  split
  · exact ⟨_, m.ntcBad, rfl⟩
  · split <;> exact ⟨_, _, rfl⟩

theorem foldl_takeNtc_only (ty : Nat) (rs : List Rat) (l : List Nat) (m : Meas) :
    ∃ c n, l.foldl (takeNtc ty rs) m = { m with ntc := c, ntcBad := n } := by
  induction l generalizing m with
  | nil => exact ⟨m.ntc, m.ntcBad, rfl⟩
  | cons k l ih =>
    obtain ⟨c, n, e⟩ := takeNtc_only ty rs m k
    obtain ⟨c', n', e'⟩ := ih (takeNtc ty rs m k)
    exact ⟨c', n', by rw [List.foldl_cons, e', e]⟩

theorem takeNtc_code {ty : Nat} {rs : List Rat} {m : Meas} {k : Nat} (hk : k < m.ntc.length) :
    (takeNtc ty rs m k).ntc.getD k 0 = (if m.ntcOut.getD k false then 0x20000
      else if ratioOk (rs.getD k 0) then ntcCodeOf ty (rs.getD k 0) else 0x20000) := by
  unfold takeNtc
  dsimp only
  split
  · exact getD_set_self hk _ _
  · split <;> exact getD_set_self hk _ _

/-- Each strapped input ends with the code of its own ratio, or 0x20000. -/
theorem foldl_takeNtc_code {ty n : Nat} {rs : List Rat} {m : Meas} (within : n ≤ m.ntc.length) {k : Nat} (hk : k < n) :
    ((List.range n).foldl (takeNtc ty rs) m).ntc.getD k 0 = (if m.ntcOut.getD k false then 0x20000
      else if ratioOk (rs.getD k 0) then ntcCodeOf ty (rs.getD k 0) else 0x20000) := by
  refine foldl_at (I := fun u : Meas => u.ntc.length = m.ntc.length ∧ u.ntcOut = m.ntcOut) (Q := fun u : Meas => u.ntc.getD k 0 = _)
    (fun u j _ h => ?_) (fun u h => ?_) (fun u j other h => ?_) List.nodup_range (List.mem_range.mpr hk) ⟨rfl, rfl⟩
  · obtain ⟨c, n, e⟩ := takeNtc_only ty rs u j
    rw [e]
    exact ⟨(List.length_set ..).trans h.1, h.2⟩
  · rw [takeNtc_code (by omega), h.2]
  · obtain ⟨c, n, e⟩ := takeNtc_only ty rs u j
    rw [e]
    exact (getD_set_ne other _ _).trans h

theorem samplingInstant_takes {ntc : List Rat} (run : s.running = true) (aperture : s.meas.aperture = true)
    (within : s.cfg.ntcCount ≤ s.meas.ntc.length) :
    Runs (.samplingInstant ntc) s fun t =>
      Keeps [.meas] s t ∧ t.meas.accAtS = s.meas.acc ∧ t.meas.sampledAt = s.now ∧ t.meas.primary = s.meas.primary ∧
      ∀ k, k < s.cfg.ntcCount →
        t.meas.ntc.getD k 0 =
          (if s.meas.ntcOut.getD k false then 0x20000
          else if ratioOk (ntc.getD k 0) then ntcCodeOf s.cfg.ntcType (ntc.getD k 0) else 0x20000) := by
  obtain ⟨c, n, e⟩ := foldl_takeNtc_only s.cfg.ntcType ntc (List.range s.cfg.ntcCount) (markSample s.now s.meas)
  exact runs_next (execSamplingInstant_run run aperture) ⟨(State.updMeas_keeps (by decide) _).mpr (Keeps.refl _ s),
    (congrArg Meas.accAtS e :), (congrArg Meas.sampledAt e :), (congrArg Meas.primary e :),
    fun k hk => foldl_takeNtc_code (m := markSample s.now s.meas) within hk⟩

theorem clampI_eq (lo hi x : Int) (h : lo ≤ hi) : clampI lo hi x = max lo (min hi x) := by
  unfold clampI
  split
  · omega
  · split <;> omega

/-- The 48-bit accumulator adds modulo 2^48 (R171). -/
theorem toNat_add_ofInt (a : BitVec 48) (x : Int) : ((a + BitVec.ofInt 48 x).toNat : Int) = ((a.toNat : Int) + x) % 2 ^ 48 := by
  rw [BitVec.toNat_add, BitVec.toNat_ofInt]
  omega

theorem currentSaturates_eq (x : Int) : currentSaturates x = decide (x < -131072 ∨ 131071 < x) := by
  rw [currentSaturates, Bool.or_comm, Bool.decide_or]

theorem execAccumulatorTick_run {mean : Int} (run : s.running = true) (on : s.currentOn = true) :
    exec (.accumulatorTick mean) s = .next { s with meas := { s.meas with
      acc := s.meas.acc + BitVec.ofInt 48 (clampI (-131072) 131071 mean - s.meas.zero)
      tickOver := s.meas.tickOver || currentSaturates mean } } := by
  simp only [exec, execAccumulatorTick, run, on, Bool.and_self, if_true]
  rfl

theorem accumulatorTick_adds {mean : Int} (run : s.running = true) (on : s.currentOn = true) :
    Runs (.accumulatorTick mean) s fun t =>
      t = { s with meas := { s.meas with acc := t.meas.acc, tickOver := t.meas.tickOver } } ∧
      t.meas.acc.toNat = ((s.meas.acc.toNat : Int) + (max (-131072) (min 131071 mean) - s.meas.zero)) % 2 ^ 48 ∧
      t.meas.tickOver = (s.meas.tickOver || decide (mean < -131072 ∨ 131071 < mean)) := by
  refine runs_next (execAccumulatorTick_run run on) ⟨rfl, ?_, ?_⟩
  · rw [← clampI_eq (-131072) 131071 mean (by decide)]
    exact toNat_add_ofInt _ _
  · rw [← currentSaturates_eq]

end

/-- Settles O15: each sample writes the measurement block alone, an NTC input its own code, the tick the accumulator modulo 2^48. -/
theorem apertureSamples : Obligations.ApertureSamples :=
  ⟨fun _ samples => ⟨execPassivePause_run samples, execApertureOpen_run samples⟩,
    fun _ _ run aperture within => samplingInstant_takes run aperture within, fun _ _ run on => accumulatorTick_adds run on⟩

/-! ### The open sense-wire test -/

section
variable {s u : State} {pre inTest recovery : List Int} {k j : Nat}

/-- The test deal is over (R154). -/
def endTestDeal (m : Meas) : Meas := { m with testDeal := false, pause := false }

theorem execOpenWireTestEnd_discards (run : s.running = true) (test : s.meas.testDeal = true)
    (fails : (List.range s.cfg.cells).any (recoveryFails pre inTest recovery) = true) :
    exec (.openWireTestEnd pre inTest recovery) s = .next
      (((s.updMeas endTestDeal).updMeas fun m => { m with testRepeat := true }).raise .meas 0) := by
  simp only [exec, execOpenWireTestEnd, run, test, fails, Bool.and_self, Bool.not_true, Bool.false_eq_true, if_false, if_true]
  rfl

theorem execOpenWireTestEnd_judges (run : s.running = true) (test : s.meas.testDeal = true)
    (recovers : (List.range s.cfg.cells).any (recoveryFails pre inTest recovery) = false) :
    exec (.openWireTestEnd pre inTest recovery) s = .next
      ((List.range s.cfg.cells).foldl (State.wireResult pre inTest) (s.updMeas endTestDeal)) := by
  simp only [exec, execOpenWireTestEnd, run, test, recovers, Bool.and_self, Bool.not_true, Bool.false_eq_true, if_false]
  rfl

/-- What the judgement of one cell leaves of the test: it is over, and a repeat once due stays due. -/
structure WireKept (s t : State) : Prop where
  frame : Keeps [.meas, .faults, .logs, .pins, .balance] s t
  over_ : t.meas.testDeal = s.meas.testDeal
  pause : t.meas.pause = s.meas.pause
  again : s.meas.testRepeat = true → t.meas.testRepeat = true
  opened : t.meas.opened.length = s.meas.opened.length
  length : t.faults.length = s.faults.length
  sticky : StickyKept s t

/-- The state in which a cell is found OPEN (R182). -/
def State.wireOpen (s : State) (k : Nat) : State :=
  ((s.updMeas fun m =>
    { m with opened := m.opened.set k true, openPend := m.openPend.set k false, cells := m.cells.set k .open }).raise .meas 2).endJobs
      fun j => j.cell = k

/-- A first positive result (R182). -/
def State.wirePending (s : State) (k : Nat) : State :=
  s.updMeas fun m => { m with openPend := m.openPend.set k true, testRepeat := true }

/-- A pending result that is not confirmed (R182). -/
def State.wireClear (s : State) (k : Nat) : State :=
  (s.updMeas fun m => { m with openPend := m.openPend.set k false }).raise .meas 0

theorem State.wireResult_eq : s.wireResult pre inTest k =
    if s.meas.opened.getD k false then s
    else if testsPositive pre inTest k && s.meas.openPend.getD k false then s.wireOpen k
    else if testsPositive pre inTest k then s.wirePending k
    else if s.meas.openPend.getD k false then s.wireClear k
    else s := rfl

theorem State.endJob_length (j : Job) : (s.endJob j).faults.length = s.faults.length := by
  unfold State.endJob
  dsimp only
  split
  · unfold State.reportJob
    extract_lets ticks secs e logged traced full raised
    have before : Keeps [.logs, .balance] s traced := by
      simp (disch := decide) only [traced, logged, State.traceJob_keeps, State.log_keeps, State.updBalance_keeps, Keeps.refl]
    exact (State.raiseIf_length ..).trans (congrArg List.length (before.group .faults (by decide)))
  · rfl

theorem State.endJobs_length (c : Job → Bool) : (s.endJobs c).faults.length = s.faults.length := by
  have jobs : ∀ (l : List Job) (u : State), (l.foldl (fun t j => t.endJob j) u).faults.length = u.faults.length := by
    intro l
    induction l with
    | nil => exact fun _ => rfl
    | cons j l ih => exact fun u => (ih _).trans (State.endJob_length j)
  exact jobs _ s

theorem WireKept.refl (s : State) : WireKept s s := ⟨Keeps.refl _ s, rfl, rfl, id, rfl, rfl, StickyKept.refl s⟩

theorem WireKept.trans {t : State} (h : WireKept s t) (k : WireKept t u) : WireKept s u where
  frame := h.frame.trans k.frame
  over_ := k.over_.trans h.over_
  pause := k.pause.trans h.pause
  again := k.again ∘ h.again
  opened := k.opened.trans h.opened
  length := k.length.trans h.length
  sticky := h.sticky.trans k.sticky

theorem State.wireOpen_meas : (s.wireOpen k).meas =
    { s.meas with opened := s.meas.opened.set k true, openPend := s.meas.openPend.set k false, cells := s.meas.cells.set k .open } := by
  have ended : Keeps [.balance, .logs, .faults, .pins] _ (s.wireOpen k) :=
    (State.endJobs_keeps (by decide) _).mpr (State.raise_frame (by decide) |>.mono (by decide))
  exact ended.group .meas (by decide)

theorem State.wireOpen_kept : WireKept s (s.wireOpen k) where
  frame := by
    simp (disch := decide) only [State.wireOpen, State.endJobs_keeps, State.raise_keeps_calm, State.updMeas_keeps, Keeps.refl]
  over_ := by rw [State.wireOpen_meas]
  pause := by rw [State.wireOpen_meas]
  again := by
    rw [State.wireOpen_meas]
    exact id
  opened := by rw [State.wireOpen_meas, List.length_set]
  length := (State.endJobs_length _).trans (State.raise_length ..)
  sticky := (StickyKept.trans (t := s.updMeas _) (.of_faults rfl) (State.raise_mono _ _ _)).trans (State.endJobs_mono _)

theorem State.wireOpen_has (hf : s.faults.length = 18) : (s.wireOpen k).has .meas 2 = true :=
  State.endJobs_mono _ _ _ (State.raise_has _ _ _ hf (by decide))

theorem State.wirePending_kept : WireKept s (s.wirePending k) :=
  ⟨(State.updMeas_keeps (by decide) _).mpr (Keeps.refl _ s), rfl, rfl, fun _ => rfl, rfl, rfl, StickyKept.refl s⟩

theorem State.wireClear_meas : (s.wireClear k).meas = { s.meas with openPend := s.meas.openPend.set k false } :=
  (State.raise_frame (by decide)).group .meas (by decide)

theorem State.wireClear_kept : WireKept s (s.wireClear k) where
  frame := by simp (disch := decide) only [State.wireClear, State.raise_keeps_calm, State.updMeas_keeps, Keeps.refl]
  over_ := by rw [State.wireClear_meas]
  pause := by rw [State.wireClear_meas]
  again := by
    rw [State.wireClear_meas]
    exact id
  opened := by rw [State.wireClear_meas]
  length := State.raise_length ..
  sticky := StickyKept.trans (t := s.updMeas _) (.of_faults rfl) (State.raise_mono _ _ _)

theorem State.wireResult_kept : WireKept s (s.wireResult pre inTest k) := by
  rw [State.wireResult_eq]
  split
  · exact .refl s
  · split
    · exact State.wireOpen_kept
    · split
      · exact State.wirePending_kept
      · split
        · exact State.wireClear_kept
        · exact .refl s

theorem foldl_wireResult_kept (l : List Nat) : WireKept s (l.foldl (State.wireResult pre inTest) s) := by
  induction l generalizing s with
  | nil => exact .refl s
  | cons k l ih => exact State.wireResult_kept.trans ih

/-- The judgement of one cell leaves the results of every other. -/
theorem State.wireResult_other (other : j ≠ k) :
    (s.wireResult pre inTest j).meas.opened.getD k false = s.meas.opened.getD k false ∧
    (s.wireResult pre inTest j).meas.openPend.getD k false = s.meas.openPend.getD k false := by
  rw [State.wireResult_eq]
  split
  · exact ⟨rfl, rfl⟩
  · split
    · rw [State.wireOpen_meas]
      exact ⟨getD_set_ne other _ _, getD_set_ne other _ _⟩
    · split
      · exact ⟨rfl, getD_set_ne other _ _⟩
      · split
        · rw [State.wireClear_meas]
          exact ⟨rfl, getD_set_ne other _ _⟩
        · exact ⟨rfl, rfl⟩

/-- The second positive result running makes the cell OPEN, with MEAS bit 2 (R182). -/
theorem foldl_wireResult_second (hf : s.faults.length = 18) (hk : k < s.cfg.cells) (inList : k < s.meas.opened.length)
    (positive : testsPositive pre inTest k = true) (closed : s.meas.opened.getD k false = false)
    (first : s.meas.openPend.getD k false = true) :
    ((List.range s.cfg.cells).foldl (State.wireResult pre inTest) s).meas.opened.getD k false = true ∧
    ((List.range s.cfg.cells).foldl (State.wireResult pre inTest) s).has .meas 2 = true := by
  refine foldl_at
    (I := fun u : State => WireKept s u ∧ u.meas.opened.getD k false = false ∧ u.meas.openPend.getD k false = true)
    (Q := fun u : State => u.meas.opened.getD k false = true ∧ u.has .meas 2 = true) (fun u j other h => ?_) (fun u h => ?_)
    (fun u j other h => ?_) List.nodup_range (List.mem_range.mpr hk) ⟨.refl s, closed, first⟩
  · obtain ⟨kept, closed, first⟩ := h
    obtain ⟨opened, pend⟩ := State.wireResult_other (s := u) (pre := pre) (inTest := inTest) other
    exact ⟨kept.trans State.wireResult_kept, opened.trans closed, pend.trans first⟩
  · obtain ⟨kept, closed, first⟩ := h
    have found : u.wireResult pre inTest k = u.wireOpen k := by
      rw [State.wireResult_eq, closed, positive, first]
      rfl
    rw [found, State.wireOpen_meas]
    exact ⟨getD_set_self (by rw [kept.opened]; exact inList) _ _, State.wireOpen_has (kept.length.trans hf)⟩
  · obtain ⟨opened, -⟩ := State.wireResult_other (s := u) (pre := pre) (inTest := inTest) other
    exact ⟨opened.trans h.1, State.wireResult_kept.sticky _ _ h.2⟩

/-- A first positive result repeats the test and leaves the cell as it was (R182). -/
theorem foldl_wireResult_first (hk : k < s.cfg.cells) (positive : testsPositive pre inTest k = true)
    (closed : s.meas.opened.getD k false = false) (none_ : s.meas.openPend.getD k false = false) :
    ((List.range s.cfg.cells).foldl (State.wireResult pre inTest) s).meas.testRepeat = true ∧
    ((List.range s.cfg.cells).foldl (State.wireResult pre inTest) s).meas.opened.getD k false = false := by
  refine foldl_at (I := fun u : State => u.meas.opened.getD k false = false ∧ u.meas.openPend.getD k false = false)
    (Q := fun u : State => u.meas.testRepeat = true ∧ u.meas.opened.getD k false = false) (fun u j other h => ?_) (fun u h => ?_)
    (fun u j other h => ?_) List.nodup_range (List.mem_range.mpr hk) ⟨closed, none_⟩
  · obtain ⟨opened, pend⟩ := State.wireResult_other (s := u) (pre := pre) (inTest := inTest) other
    exact ⟨opened.trans h.1, pend.trans h.2⟩
  · have found : u.wireResult pre inTest k = u.wirePending k := by
      rw [State.wireResult_eq, h.1, positive, h.2]
      rfl
    rw [found]
    exact ⟨rfl, h.1⟩
  · obtain ⟨opened, -⟩ := State.wireResult_other (s := u) (pre := pre) (inTest := inTest) other
    exact ⟨State.wireResult_kept.again h.1, opened.trans h.2⟩

end

/-- Settles O17: the cells are judged one by one, each by its own results, and what the test has found stays found. -/
theorem openWireTestIsJudged : Obligations.OpenWireTestIsJudged := by
  intro s pre inTest recovery run test hf
  cases recovers : (List.range s.cfg.cells).any (recoveryFails pre inTest recovery) with
  | true =>
    have frame : Keeps [.faults, .logs, .pins] ((s.updMeas endTestDeal).updMeas fun m => { m with testRepeat := true })
        (((s.updMeas endTestDeal).updMeas fun m => { m with testRepeat := true }).raise .meas 0) := State.raise_frame (by decide)
    have meas := frame.group .meas (by decide)
    refine runs_next (execOpenWireTestEnd_discards run test recovers) ⟨?_, (congrArg Meas.testDeal meas :),
      (congrArg Meas.pause meas :), ?_, fun _ => ⟨(congrArg Meas.testRepeat meas :), State.raise_has _ _ _ hf (by decide),
        (congrArg Meas.opened meas :)⟩, nofun⟩
    · simp (disch := decide) only [State.raise_keeps_calm, State.updMeas_keeps, Keeps.refl]
    · exact StickyKept.trans (t := (s.updMeas endTestDeal).updMeas fun m => { m with testRepeat := true }) (.of_faults rfl)
        (State.raise_mono _ _ _)
  | false =>
    have kept := foldl_wireResult_kept (s := s.updMeas endTestDeal) (pre := pre) (inTest := inTest) (List.range s.cfg.cells)
    refine runs_next (execOpenWireTestEnd_judges run test recovers) ⟨?_, kept.over_, kept.pause, kept.sticky, nofun,
      fun k _ hk inList low closed => ⟨fun first => ?_, fun none_ => ?_⟩⟩
    · exact Keeps.trans ((State.updMeas_keeps (by decide) _).mpr (Keeps.refl _ s)) kept.frame
    · exact foldl_wireResult_second (s := s.updMeas endTestDeal) hf hk inList (decide_eq_true low) closed first
    · exact foldl_wireResult_first (s := s.updMeas endTestDeal) hk (decide_eq_true low) closed none_

end Sys2Proof.Machine

/-!
PROOFS. The end of the aperture: what a trip and the fatal state leave of the codes, the readings cell by cell, and the meld that
is assembled from them (chapter 06).
-/
namespace Sys2Proof.Machine

/-! ### What leaves the codes of the cells alone -/

section
variable {s t u : State} {b : Block} {i j k : Nat}

/-- The codes of the cells and the aperture are the same in both states. -/
def SameCodes (s t : State) : Prop :=
  t.meas.primary = s.meas.primary ∧ t.meas.diverse = s.meas.diverse ∧ t.meas.aperture = s.meas.aperture

theorem SameCodes.refl (s : State) : SameCodes s s := ⟨rfl, rfl, rfl⟩

theorem SameCodes.trans (h : SameCodes s t) (k : SameCodes t u) : SameCodes s u :=
  ⟨k.1.trans h.1, k.2.1.trans h.2.1, k.2.2.trans h.2.2⟩

theorem SameCodes.of_keeps {G : List Group} (h : Keeps G s t) (c : covers [.meas] G = false) : SameCodes s t := by
  have meas : t.meas = s.meas := h.group .meas c
  rw [SameCodes, meas]
  exact ⟨rfl, rfl, rfl⟩

theorem SameCodes.ite {c : Prop} [Decidable c] (h : SameCodes s t) (k : SameCodes s u) : SameCodes s (if c then t else u) := by
  split
  · exact h
  · exact k

theorem SameCodes.foldl {α : Type} {f : State → α → State} (step : ∀ t x, SameCodes t (f t x)) (l : List α) :
    SameCodes s (l.foldl f s) := by
  induction l generalizing s with
  | nil => exact .refl s
  | cons x l ih => exact (step s x).trans ih

theorem State.commandOff_codes (rule : Nat) : SameCodes s (s.commandOff i rule) := by
  unfold State.commandOff
  refine SameCodes.trans (SameCodes.ite (.of_keeps (G := [.logs]) ((State.traceOut_keeps (by decide) _ _ _).mpr (Keeps.refl _ s))
    (by decide)) (.refl s)) ⟨rfl, rfl, rfl⟩

theorem State.coilsOff_codes (rule : Nat) : SameCodes s (s.coilsOff rule) :=
  SameCodes.foldl (fun t _ => SameCodes.ite (State.commandOff_codes rule) (.refl t)) _

theorem State.openPack_codes (rule : Nat) : SameCodes s (s.openPack rule) := by
  have opens : Keeps [.logs, .services, .pins] (s.coilsOff rule) (s.openPack rule) := by
    simp (disch := decide) only [State.openPack, State.updServices_keeps, State.updPins_keeps, State.stringsOpen_keeps,
      State.setPack_keeps, Keeps.refl]
  exact (State.coilsOff_codes rule).trans (.of_keeps opens (by decide))

theorem State.trip_codes (lock : Option Nat) : SameCodes s (s.trip lock) := by
  cases lock with
  | none => exact State.openPack_codes 1
  | some c =>
    have locks : Keeps [.logs, .keeper, .nv, .pins] (s.openPack 1) ((s.openPack 1).setLockout c) :=
      (State.setLockout_keeps (by decide) _).mpr (Keeps.refl _ _)
    exact (State.openPack_codes 1).trans (.of_keeps locks (by decide))

theorem State.headOpens_codes : SameCodes s s.headOpens :=
  (State.coilsOff_codes 1).trans ⟨rfl, rfl, rfl⟩

theorem State.breach_codes (cause item : Nat) (reading limit : Int) (lock : Option Nat) :
    SameCodes s (s.breach cause item reading limit lock) := by
  unfold State.breach
  refine SameCodes.ite (.refl s) (SameCodes.ite (State.trip_codes lock) ?_)
  have opened : SameCodes s (if s.isHead then s.headOpens else s) := .ite State.headOpens_codes (.refl s)
  refine SameCodes.ite (opened.trans (.of_keeps (G := [.portN, .portS, .logs]) ?_ (by decide))) opened
  exact (State.sendTrumpWords_keeps (by decide) _).mpr (Keeps.refl _ _)

theorem State.checkCodes_codes (lim : Int × Int) (cs : List Int) (hi item : Nat) (lockHi lockLo : Option Nat) :
    SameCodes s (s.checkCodes lim cs hi item lockHi lockLo) := by
  unfold State.checkCodes
  split
  · exact State.breach_codes ..
  · split
    · exact State.breach_codes ..
    · exact .refl s

theorem State.checkCells_codes : SameCodes s s.checkCells := by
  unfold State.checkCells
  split
  · exact .refl s
  · exact SameCodes.foldl (fun _ _ => State.checkCodes_codes ..) _

theorem State.checkNtc_codes : SameCodes s s.checkNtc := by
  unfold State.checkNtc
  split
  · exact .refl s
  · exact SameCodes.foldl (fun t _ => SameCodes.ite (.refl t) (State.checkCodes_codes ..)) _

/-- The fatal state switches outputs, after which the pumps settle; no code changes (R492). -/
theorem State.fatalEntry_codes : SameCodes s (s.fatalEntry b i) := by
  unfold State.fatalEntry
  extract_lets warned recorded latched off
  have before : Keeps [.logs, .dev] s latched := by
    rw [State.updDev_keeps (by decide), State.log_keeps (by decide)]
    exact keeps_ite ((State.logLockout_keeps (by decide) _ _ _).mpr (Keeps.refl _ s)) (Keeps.refl _ s)
  have switched : SameCodes latched off := ⟨rfl, rfl, rfl⟩
  exact ((SameCodes.of_keeps before (by decide)).trans switched).trans ⟨rfl, rfl, rfl⟩

theorem State.enterFatal_codes : SameCodes s (s.enterFatal b i) := by
  cases alive : s.dev.fatal with
  | true =>
    unfold State.enterFatal
    rw [alive]
    exact .refl s
  | false =>
    cases role : s.isDealer with
    | true =>
      rw [State.enterFatal_dealer alive role]
      exact State.fatalEntry_codes.trans (.of_keeps State.fatalDealer_frame (by decide))
    | false =>
      rw [State.enterFatal_other alive role]
      have frame : Keeps [.logs, .portN, .portS, .ring] (s.fatalEntry b i)
          (((s.fatalEntry b i).sendTrumpWords ((s.fatalEntry b i).fatalWords b)).updRing fun r =>
            { r with fatalLeft := 2, fatalTrump := (s.fatalEntry b i).fatalWords b }) := by
        simp (disch := decide) only [State.updRing_keeps, State.sendTrumpWords_keeps, Keeps.refl]
      exact State.fatalEntry_codes.trans (.of_keeps frame (by decide))

theorem State.raise_codes : SameCodes s (s.raise b i) := by
  have only : Keeps [.faults, .logs, .pins] s ((s.raiseBits b i []).faultPin (classOf b i)) := by
    simp (disch := decide) only [State.faultPin_keeps, State.raiseBits_keeps, Keeps.refl]
  exact (SameCodes.of_keeps only (by decide)).trans (SameCodes.ite State.enterFatal_codes (.refl _))

theorem State.raiseIf_codes (c : Bool) : SameCodes s (s.raiseIf c b i) := SameCodes.ite State.raise_codes (.refl s)

end

/-! ### The readings -/

section
variable {s t u : State} {r : ApertureReadings} {i j k : Nat} {x : Int}

theorem State.takeCurrent_codes : SameCodes s (s.takeCurrent x) := by
  unfold State.takeCurrent
  refine SameCodes.ite (.refl s) ?_
  extract_lets past raw quiet win full far hit taken
  have noted : SameCodes s taken := ⟨rfl, rfl, rfl⟩
  exact (noted.trans (State.raiseIf_codes _)).trans (State.raiseIf_codes _)

theorem State.faultNtc_codes : SameCodes s s.faultNtc := by
  refine SameCodes.foldl (fun t k => SameCodes.ite ?_ (.refl t)) _
  exact SameCodes.trans (t := t.updMeas fun m => { m with ntcOut := m.ntcOut.set k true }) ⟨rfl, rfl, rfl⟩ State.raise_codes

theorem State.checkStack_codes : SameCodes s s.checkStack := by
  unfold State.checkStack
  refine SameCodes.ite (.refl s) ?_
  extract_lets sum bad n
  exact SameCodes.trans (t := s.updMeas fun m => { m with stack := n }) ⟨rfl, rfl, rfl⟩ (State.raiseIf_codes _)

theorem State.checkRefp_codes : SameCodes s (s.checkRefp r) := by
  unfold State.checkRefp
  extract_lets a b hit
  exact SameCodes.trans (t := s.updMeas fun m => { m with refpA := a, refpB := b }) ⟨rfl, rfl, rfl⟩ (State.raiseIf_codes _)

theorem State.checkDie_codes : SameCodes s (s.checkDie r) := by
  unfold State.checkDie
  extract_lets now val mid checked left
  have folded : SameCodes s checked := by
    refine SameCodes.foldl (fun t i => ?_) _
    extract_lets far n noted
    exact SameCodes.trans (t := noted) ⟨rfl, rfl, rfl⟩ (State.raiseIf_codes _)
  exact folded.trans ⟨rfl, rfl, rfl⟩

/-- The plausibility checks on the readings of a deal (Table 6-5). -/
def State.checkPlausible (s : State) (r : ApertureReadings) : State :=
  ((((s.takeCurrent r.current).faultNtc.checkCells.checkNtc).checkStack).checkRefp r).checkDie r

/-- Jobs on cells that refuse them end. -/
def State.endRefused (s : State) : State := s.endJobs fun j => (s.cellState j.cell).refused

/-- The checks of the supervisor on the readings of a deal (Table 6-5). -/
def State.checkReadings (s : State) (r : ApertureReadings) : State :=
  let s := ((s.checkPlausible r).releaseComparators r).endRefused
  s.updDev fun d => { d with lastService := s.now }

/-- The aperture is over, and VMOD is read (R165). -/
def State.readVmod (s : State) (r : ApertureReadings) : State :=
  s.updMeas fun m => { m with aperture := false, vmod := if s.bist.taken = 4 then m.vmod else satCode r.vmod32 }

theorem State.takeReadings_eq : s.takeReadings r =
    ((List.range s.cfg.cells).foldl (State.takeCell r) (s.readVmod r)).checkReadings r := rfl

theorem State.checkPlausible_codes : SameCodes s (s.checkPlausible r) :=
  (((((State.takeCurrent_codes.trans State.faultNtc_codes).trans State.checkCells_codes).trans State.checkNtc_codes).trans
    State.checkStack_codes).trans State.checkRefp_codes).trans State.checkDie_codes

theorem State.checkReadings_codes : SameCodes s (s.checkReadings r) := by
  have jobs : Keeps [.balance, .logs, .faults, .pins, .dev] (s.checkPlausible r) (s.checkReadings r) := by
    simp (disch := decide) only [State.checkReadings, State.endRefused, State.updDev_keeps, State.endJobs_keeps,
      State.releaseComparators_keeps, Keeps.refl]
  exact State.checkPlausible_codes.trans (.of_keeps jobs (by decide))

theorem State.checkPlausible_mono : StickyKept s (s.checkPlausible r) := by
  have sound : Sound true false s (s.checkPlausible r) :=
    State.checkDie_sound _ <| State.checkRefp_sound _ <| State.checkStack_sound <| State.checkNtc_sound <|
      State.checkCells_sound <| State.faultNtc_sound <| State.takeCurrent_sound _ <| Sound.refl ..
  exact sound.sticky rfl

theorem State.checkReadings_mono : StickyKept s (s.checkReadings r) := by
  have released : ∀ u : State, StickyKept u (u.releaseComparators r) := fun u => .of_faults rfl
  have ended : ∀ u : State, StickyKept u u.endRefused := fun u => State.endJobs_mono _
  have noted : ∀ u : State, StickyKept u (u.updDev fun d => { d with lastService := u.now }) := fun u => .of_faults rfl
  exact ((State.checkPlausible_mono.trans (released _)).trans (ended _)).trans (noted _)

theorem State.takeCell_frame : Keeps [.meas, .faults, .logs, .pins] s (State.takeCell r s k) :=
  (State.takeCell_keeps (by decide) _ _).mpr (Keeps.refl _ s)

/-- What a cell's reading leaves: its own codes, and the DIV bit where they disagree (R157, R158, R165). -/
theorem State.takeCell_leaves : ∃ p d, (State.takeCell r s k).meas.primary = s.meas.primary.set k p ∧
    (State.takeCell r s k).meas.diverse = s.meas.diverse.set k d ∧ (State.takeCell r s k).meas.aperture = s.meas.aperture ∧
    (s.bist.taken = 0 → p = satCode (r.primary.getD k 0) ∧ d = diverseCode (r.diverse.getD k 0) ∧
      (codesDisagree p d = true → s.faults.length = 18 → (State.takeCell r s k).has .div (if k < 9 then 0 else 1) = true)) := by
  unfold State.takeCell
  extract_lets t1 t2 raw p d bad second rev mis past noted
  obtain ⟨primary, diverse, aperture⟩ := (State.raiseIf_codes (s := noted) (b := .div) (i := divBit k 0) bad).trans
    (State.raiseIf_codes (b := .div) (i := divBit k 2) second)
  refine ⟨p, d, primary, diverse, aperture, fun untested => ?_⟩
  have own : t1 = false := by simp [t1, primaryTaken, untested]
  have other : t2 = false := by simp [t2, diverseTaken, untested]
  refine ⟨by simp [p, own, raw], by simp [d, other], fun disagree hf => ?_⟩
  have isBad : bad = true := by simp [bad, own, other, disagree]
  have bit : divBit k 0 = if k < 9 then 0 else 1 := Nat.zero_add _
  refine State.raiseIf_mono _ _ _ _ _ _ ?_
  rw [← bit]
  exact State.raiseIf_has bad isBad hf (by rw [bit]; split <;> decide)

theorem foldl_takeCell_aperture (l : List Nat) : (l.foldl (State.takeCell r) s).meas.aperture = s.meas.aperture := by
  induction l generalizing s with
  | nil => rfl
  | cons k l ih =>
    obtain ⟨p, d, -, -, aperture, -⟩ := State.takeCell_leaves (r := r) (s := s) (k := k)
    exact ih.trans aperture

theorem State.takeCell_length : (State.takeCell r s k).faults.length = s.faults.length :=
  (State.raiseIf_length ..).trans (State.raiseIf_length ..)

/-- Each strapped cell ends with its two codes, and its DIV bit where they disagree. -/
theorem foldl_takeCell_codes (inPrimary : k < s.meas.primary.length) (inDiverse : k < s.meas.diverse.length)
    (untested : s.bist.taken = 0) (hf : s.faults.length = 18) (n : Nat) (hn : k < n) :
    ((List.range n).foldl (State.takeCell r) s).meas.primary.getD k 0 = satCode (r.primary.getD k 0) ∧
    ((List.range n).foldl (State.takeCell r) s).meas.diverse.getD k 0 = diverseCode (r.diverse.getD k 0) ∧
    (codesDisagree (satCode (r.primary.getD k 0)) (diverseCode (r.diverse.getD k 0)) = true →
      ((List.range n).foldl (State.takeCell r) s).has .div (if k < 9 then 0 else 1) = true) := by
  refine foldl_at
    (I := fun u : State => k < u.meas.primary.length ∧ k < u.meas.diverse.length ∧ u.bist.taken = 0 ∧ u.faults.length = 18)
    (Q := fun u : State => u.meas.primary.getD k 0 = satCode (r.primary.getD k 0) ∧
      u.meas.diverse.getD k 0 = diverseCode (r.diverse.getD k 0) ∧
      (codesDisagree (satCode (r.primary.getD k 0)) (diverseCode (r.diverse.getD k 0)) = true →
        u.has .div (if k < 9 then 0 else 1) = true)) (fun u j _ h => ?_) (fun u h => ?_) (fun u j other h => ?_)
    List.nodup_range (List.mem_range.mpr hn) ⟨inPrimary, inDiverse, untested, hf⟩
  · obtain ⟨inPrimary, inDiverse, untested, hf⟩ := h
    obtain ⟨p, d, primary, diverse, -, -⟩ := State.takeCell_leaves (r := r) (s := u) (k := j)
    exact ⟨by rwa [primary, List.length_set], by rwa [diverse, List.length_set],
      (congrArg Bist.taken (State.takeCell_frame.group .bist (by decide))).trans untested, State.takeCell_length.trans hf⟩
  · obtain ⟨inPrimary, inDiverse, untested, hf⟩ := h
    obtain ⟨p, d, primary, diverse, -, own⟩ := State.takeCell_leaves (r := r) (s := u) (k := k)
    obtain ⟨hp, hd, bit⟩ := own untested
    rw [primary, diverse, getD_set_self inPrimary, getD_set_self inDiverse]
    exact ⟨hp, hd, fun disagree => bit (by rwa [hp, hd]) hf⟩
  · obtain ⟨p, d, primary, diverse, -, -⟩ := State.takeCell_leaves (r := r) (s := u) (k := j)
    rw [primary, diverse, getD_set_ne other, getD_set_ne other]
    exact ⟨h.1, h.2.1, fun disagree => (State.takeCell_sound (m := true) (l := false) r j (Sound.refl _ _ u)).sticky rfl _ _
      (h.2.2 disagree)⟩

end

/-! ### The meld -/

section
variable {s z : State} {r : ApertureReadings} {die vmod : Word} {i k : Nat}

/-- The end of the aperture, once the meld is assembled. -/
def State.leaveAperture (s : State) : State := (s.legacyMelds.updBist fun b => { b with taken := 0 }).afterAperture

/-- The die word of the deal, with the state after a word that the manual does not state is drawn (log 5). -/
def State.dieWord (s : State) (r : ApertureReadings) : Word × State :=
  (s.takeReadings r).publishedWord ((List.range 4).any fun i => s.dieReadable i && !(s.meas.dieOut.getD i false))
    (s.takeReadings r).meas.die

/-- The VMOD word of the deal, drawn after the die word. -/
def State.vmodWord (s : State) (r : ApertureReadings) : Word × State :=
  (s.dieWord r).2.publishedWord (s.bist.taken ≠ 4) (s.dieWord r).2.meas.vmod

theorem State.vmodWord_frame : Keeps [.dev] (s.takeReadings r) (s.vmodWord r).2 := by
  simp (disch := decide) only [State.vmodWord, State.dieWord, State.publishedWord_keeps, Keeps.refl]

theorem execApertureClose_run (run : s.running = true) (aperture : s.meas.aperture = true) :
    exec (.apertureClose r) s = .next ((s.vmodWord r).2.assemble (s.dieWord r).1 (s.vmodWord r).1).leaveAperture := by
  simp only [exec, execApertureClose, run, aperture, Bool.and_self, if_true]
  rfl

theorem State.leaveAperture_codes : SameCodes s s.leaveAperture := by
  have melds : Keeps [.dealer, .portN, .portS] s s.legacyMelds := (State.legacyMelds_keeps (by decide)).mpr (Keeps.refl _ s)
  refine (SameCodes.of_keeps melds (by decide)).trans ?_
  unfold State.leaveAperture State.afterAperture
  exact SameCodes.ite ⟨rfl, rfl, rfl⟩ ⟨rfl, rfl, rfl⟩

theorem State.leaveAperture_taken : s.leaveAperture.bist.taken = 0 := by
  unfold State.leaveAperture State.afterAperture
  split <;> rfl

theorem State.leaveAperture_frame : Keeps [.dealer, .portN, .portS, .bist, .meas, .balance] s s.leaveAperture := by
  simp (disch := decide) only [State.leaveAperture, State.afterAperture_keeps, State.updBist_keeps, State.legacyMelds_keeps,
    Keeps.refl]

theorem State.assemble_frame : Keeps [.dealer, .balance, .ring, .portN, .portS] s (s.assemble die vmod) :=
  (State.assemble_keeps (by decide) _ _).mpr (Keeps.refl _ s)

/-- The Dealer keeps both parts of its own meld (R253). -/
theorem State.assemble_dealer (dealer : s.isDealer = true) (known : 0 < s.dealer.positions.length) :
    ((s.assemble die vmod).pos 0).partA.isSome = true ∧ ((s.assemble die vmod).pos 0).partB.isSome = true := by
  have sent : Keeps [.balance, .ring] (s.updPos 0 fun p => { p with partA := some s.partA, partB := some (s.partB die vmod) })
      (s.assemble die vmod) := by
    simp (disch := decide) only [State.assemble, dealer, if_true, State.meldSent_keeps, Keeps.refl]
  rw [sent.pos (by decide), State.pos_updPos _ _ _ known]
  exact ⟨rfl, rfl⟩

/-- The results of the tail travel on; the Dealer's own parts stay. -/
theorem State.legacyMelds_pos : s.legacyMelds.pos i = s.pos i := by
  have step : ∀ (l : List Nat) (u : State), ((l.foldl (fun t i =>
      if !t.l1Known i then t
      else
        let ws := t.legacyWords i
        let t := t.updDealer fun d => { d with l1 := d.l1.modify i fun x => { x with meld := some ws, next := none } }
        if t.melds then t.queue t.ring.primary { t.ownFrame t.ring.primary .meld ws with deal := t.meas.deal } else t) u).pos i) =
      u.pos i := by
    intro l
    induction l with
    | nil => exact fun _ => rfl
    | cons j l ih =>
      intro u
      rw [List.foldl_cons, ih]
      split
      · rfl
      · dsimp only
        split
        · exact (((State.queue_keeps (G := [.portN, .portS]) (by decide) _ _).mpr (Keeps.refl _ _)).pos (by decide) i).trans rfl
        · rfl
  unfold State.legacyMelds
  split
  · rfl
  · exact step _ s

theorem State.leaveAperture_pos : s.leaveAperture.pos i = s.pos i := by
  have after : Keeps [.bist, .meas, .balance] s.legacyMelds s.leaveAperture := by
    simp (disch := decide) only [State.leaveAperture, State.afterAperture_keeps, State.updBist_keeps, Keeps.refl]
  exact (after.pos (by decide) i).trans State.legacyMelds_pos

end

/-- Settles O16: a cell's codes are set once, and neither the checks on them nor the meld that follows writes them again. -/
theorem apertureCloseReadsCells : Obligations.ApertureCloseReadsCells := by
  intro s r run aperture hf
  have exec_ := execApertureClose_run (r := r) run aperture
  have drawn := State.vmodWord_frame (s := s) (r := r)
  generalize (s.vmodWord r).2 = z at exec_ drawn
  generalize (s.vmodWord r).1 = vmod at exec_
  generalize (s.dieWord r).1 = die at exec_
  have read : Keeps [.meas, .faults, .logs, .pins, .outputs, .services, .keeper, .nv, .safety, .portN, .portS, .dev, .balance, .fan,
      .vehicle, .ring] s z := ((State.takeReadings_keeps (by decide) r).mpr (Keeps.refl _ s)).trans (drawn.mono (by decide))
  have after : Keeps [.dealer, .balance, .ring, .portN, .portS, .bist, .meas] z (z.assemble die vmod).leaveAperture :=
    (State.assemble_frame.mono (by decide)).trans (State.leaveAperture_frame.mono (by decide))
  have codes : SameCodes (s.takeReadings r) (z.assemble die vmod).leaveAperture :=
    ((SameCodes.of_keeps drawn (by decide)).trans (.of_keeps State.assemble_frame (by decide))).trans State.leaveAperture_codes
  have checked : SameCodes ((List.range s.cfg.cells).foldl (State.takeCell r) (s.readVmod r)) (z.assemble die vmod).leaveAperture :=
    State.checkReadings_codes.trans codes
  have sticky : StickyKept ((List.range s.cfg.cells).foldl (State.takeCell r) (s.readVmod r)) (z.assemble die vmod).leaveAperture :=
    State.checkReadings_mono.trans (.of_faults ((after.group .faults (by decide)).trans (drawn.group .faults (by decide))))
  obtain ⟨primary, diverse, closed⟩ := checked
  refine runs_next exec_ ⟨?_, State.leaveAperture_taken, (stickyBitsStay _ _ _ rfl exec_).1,
    fun k hk inPrimary inDiverse untested => ?_, fun dealer known => ?_, ?_⟩
  · exact closed.trans (foldl_takeCell_aperture _)
  · obtain ⟨p, d, bit⟩ := foldl_takeCell_codes (s := s.readVmod r) (r := r) inPrimary inDiverse untested hf s.cfg.cells hk
    exact ⟨(congrArg (·.getD k 0) primary).trans p, (congrArg (·.getD k 0) diverse).trans d,
      fun far => sticky _ _ (bit (decide_eq_true far))⟩
  · have dealers : z.dealer = s.dealer := read.group .dealer (by decide)
    rw [State.leaveAperture_pos]
    exact State.assemble_dealer ((read.isDealer (by decide)).trans dealer) (by rw [dealers]; exact known)
  · exact (read.mono (by decide)).trans (after.mono (by decide))

end Sys2Proof.Machine

/-!
PROOFS. The end of a deal: the closure at the Dealer and the predicted boundary (chapters 10 and 12).
-/
namespace Sys2Proof.Machine

/-! ### What leaves a position alone -/

section
variable {s t u : State} {i j : Nat} {st : PosState}

/-- Position `i` of the Dealer, and whether its deal is open, are the same in both states. -/
structure SeatKept (i : Nat) (s t : State) : Prop where
  pos : t.pos i = s.pos i
  open_ : t.dealer.open_ = s.dealer.open_
  length : t.dealer.positions.length = s.dealer.positions.length

theorem SeatKept.refl (i : Nat) (s : State) : SeatKept i s s := ⟨rfl, rfl, rfl⟩

theorem SeatKept.trans (h : SeatKept i s t) (k : SeatKept i t u) : SeatKept i s u :=
  ⟨k.pos.trans h.pos, k.open_.trans h.open_, k.length.trans h.length⟩

theorem SeatKept.of_same (positions : t.dealer.positions = s.dealer.positions) (opened : t.dealer.open_ = s.dealer.open_) :
    SeatKept i s t :=
  ⟨by simp only [State.pos, positions], opened, by rw [positions]⟩

theorem SeatKept.of_keeps {G : List Group} (h : Keeps G s t) (c : covers [.dealer] G = false) : SeatKept i s t := by
  have dealer : t.dealer = s.dealer := h.group .dealer c
  exact .of_same (by rw [dealer]) (by rw [dealer])

theorem SeatKept.ite {c : Prop} [Decidable c] (h : SeatKept i s t) (k : SeatKept i s u) : SeatKept i s (if c then t else u) := by
  split
  · exact h
  · exact k

theorem State.trace_seat (ty : Byte) (data : List Byte) : SeatKept i s (s.trace ty data) := .of_same rfl rfl

theorem State.updPos_seat (other : j ≠ i) (f : PosInfo → PosInfo) : SeatKept i s (s.updPos j f) :=
  ⟨State.pos_updPos_ne _ _ _ _ other, rfl, List.length_modify ..⟩

theorem State.setPos_seat (other : j ≠ i) : SeatKept i s (s.setPos j st) := by
  unfold State.setPos
  exact (SeatKept.ite (.refl i s) (State.trace_seat _ _)).trans (State.updPos_seat other _)

theorem State.raise_seat {b : Block} {n : Nat} (h : calm b n = true) : SeatKept i s (s.raise b n) :=
  .of_keeps (State.raise_frame h) (by decide)

theorem State.raiseIf_seat {b : Block} {n : Nat} (h : calm b n = true) (c : Bool) : SeatKept i s (s.raiseIf c b n) :=
  .of_keeps (State.raiseIf_frame h) (by decide)

theorem State.setPos_self (inRange : i < s.dealer.positions.length) :
    (s.setPos i st).pos i = { s.pos i with state := st } ∧ (s.setPos i st).dealer.open_ = s.dealer.open_ ∧
    (s.setPos i st).dealer.positions.length = s.dealer.positions.length := by
  have traced : SeatKept i s (if (s.pos i).state = st then s else s.trace 0x8D [BitVec.ofNat 8 i, BitVec.ofNat 8 st.code, 0, 0, 0]) :=
    .ite (.refl i s) (State.trace_seat _ _)
  unfold State.setPos
  refine ⟨?_, traced.open_, (List.length_modify ..).trans traced.length⟩
  rw [State.pos_updPos _ _ _ (by rw [traced.length]; exact inRange), traced.pos]

/-! ### The closure of a position -/

theorem State.absent_seat (other : j ≠ i) : SeatKept i s (s.absent j) :=
  ((State.setPos_seat other).trans (State.updPos_seat other _)).trans (State.raise_seat (by decide))

theorem State.closePosition_seat (other : j ≠ i) : SeatKept i s (s.closePosition j) := by
  unfold State.closePosition
  extract_lets p late noMgt closed counted judged
  have parts : SeatKept i s counted := (State.updPos_seat other _).trans (.ite (.of_same rfl rfl) (.refl i _))
  have judge : SeatKept i counted judged :=
    .ite ((State.setPos_seat other).trans (State.raise_seat (by decide))) (State.setPos_seat other)
  exact .ite parts (parts.trans (judge.trans (.ite (State.absent_seat other) (.refl i _))))

/-- The parts of a position's deal are over, and a missing management section is counted. -/
def State.closeSeat (s : State) (i : Nat) : State :=
  if ((s.pos i).partB.map readMeldB).any fun b => !b.mgt then
    (s.updPos i fun p => { closeParts p with fatal := false }).updDealer fun d => { d with mgtMissing := d.mgtMissing + 1 }
  else s.updPos i fun p => { closeParts p with fatal := false }

theorem State.closeSeat_self (inRange : i < s.dealer.positions.length) :
    (s.closeSeat i).pos i = { closeParts (s.pos i) with fatal := false } ∧ (s.closeSeat i).dealer.open_ = s.dealer.open_ ∧
    (s.closeSeat i).dealer.positions.length = s.dealer.positions.length := by
  have closed : ((s.updPos i fun p => { closeParts p with fatal := false }).pos i) = { closeParts (s.pos i) with fatal := false } :=
    State.pos_updPos _ _ _ inRange
  unfold State.closeSeat
  split
  · exact ⟨closed, rfl, List.length_modify ..⟩
  · exact ⟨closed, rfl, List.length_modify ..⟩

/-- A position that has missed part A for the first or second time in a row, and says nothing else (R292, R294). -/
structure MissesPart (p : PosInfo) : Prop where
  admitted : p.state.isAdmitted = true
  missing : p.partA = none
  missA : p.missA < 2
  missB : p.missB < 2
  sane : p.fatal = false

theorem State.closePosition_late (other : i ≠ 0) (misses : MissesPart (s.pos i)) (inRange : i < s.dealer.positions.length) :
    s.closePosition i = ((s.closeSeat i).setPos i .late).raise .superv 1 := by
  obtain ⟨admitted, missing, missA, missB, sane⟩ := misses
  obtain ⟨closed, -, length⟩ := State.closeSeat_self inRange
  obtain ⟨self, -, -⟩ := State.setPos_self (s := s.closeSeat i) (st := .late) (by rw [length]; exact inRange)
  have seat : (((s.closeSeat i).setPos i .late).raise .superv 1).pos i =
      { closeParts (s.pos i) with fatal := false, state := .late } := by
    rw [(State.raise_seat (by decide)).pos, self, closed]
  have early : ¬ ((s.pos i).fatal || decide (3 ≤ ((((s.closeSeat i).setPos i .late).raise .superv 1).pos i).missA) ||
      decide (3 ≤ ((((s.closeSeat i).setPos i .late).raise .superv 1).pos i).missB)) = true := by
    rw [seat, sane]
    simp only [closeParts, missing, Option.isSome_none, Bool.false_or, Bool.or_eq_true, decide_eq_true_eq, Bool.false_eq_true,
      if_false]
    split <;> omega
  unfold State.closePosition
  dsimp only
  simp only [missing, Option.isNone_none, Bool.true_or, if_true, other, admitted, decide_false, Bool.not_true, Bool.or_self,
    Bool.false_eq_true, if_false]
  exact if_neg early

/-- What the closure leaves of a position that is LATE, with nothing to rejoin. -/
structure LateSeat (s : State) (i : Nat) : Prop where
  late : (s.pos i).state = .late
  rejoin : (s.pos i).rejoin = none
  readmit : (s.pos i).readmit = false

theorem LateSeat.of_seat (h : LateSeat s i) (k : SeatKept i s t) : LateSeat t i :=
  ⟨by rw [k.pos]; exact h.late, by rw [k.pos]; exact h.rejoin, by rw [k.pos]; exact h.readmit⟩

/-- The closure of a position leaves the deal closed and the list of positions as long as it was. -/
theorem foldl_closePosition_late (other : i ≠ 0) (misses : MissesPart (s.pos i)) (inRange : i < s.dealer.positions.length)
    (rejoin : (s.pos i).rejoin = none) (readmit : (s.pos i).readmit = false) {n : Nat} (hi : i < n) :
    LateSeat ((List.range n).foldl State.closePosition s) i := by
  refine foldl_at (I := fun u : State => SeatKept i s u) (Q := fun u : State => LateSeat u i)
    (fun u j other h => h.trans (State.closePosition_seat other)) (fun u h => ?_)
    (fun u j other h => h.of_seat (State.closePosition_seat other)) List.nodup_range (List.mem_range.mpr hi) (.refl i s)
  obtain ⟨pos, -, length⟩ := h
  have within : i < u.dealer.positions.length := by rw [length]; exact inRange
  rw [State.closePosition_late other (by rw [pos]; exact misses) within]
  obtain ⟨closed, -, lengthC⟩ := State.closeSeat_self within
  obtain ⟨self, -, -⟩ := State.setPos_self (s := u.closeSeat i) (st := .late) (by rw [lengthC]; exact within)
  have seat : (((u.closeSeat i).setPos i .late).raise .superv 1).pos i =
      { closeParts (s.pos i) with fatal := false, state := .late } := by
    rw [(State.raise_seat (by decide)).pos, self, closed, pos]
  exact ⟨by rw [seat], by rw [seat]; exact rejoin, by rw [seat]; exact readmit⟩

theorem State.judgeFactory_seat (other : j ≠ i) (a : Answer) : SeatKept i s (s.judgeFactory j a) := by
  unfold State.judgeFactory
  split
  · exact State.setPos_seat other
  · exact .ite ((State.setPos_seat other).trans (State.raiseIf_seat (by decide) _))
      ((State.setPos_seat other).trans (State.raise_seat (by decide)))

theorem State.actRejoin_seat (other : j ≠ i) : SeatKept i s (s.actRejoin j) := by
  unfold State.actRejoin
  dsimp only
  split
  · split
    · exact (State.updPos_seat other _).trans (State.judgeFactory_seat other _)
    · exact State.updPos_seat other _
  · split
    · exact .refl i s
    · next ws _ =>
      refine SeatKept.trans (State.updPos_seat other fun p => { p with
        rejoin := none, answer := some ws, missA := 0, missB := 0, lastA := none, lastB := none, lifeline := none }) ?_
      exact .ite ((State.setPos_seat other).trans (State.updPos_seat other _)) (.ite (State.judgeFactory_seat other _)
        (((State.setPos_seat other).trans (State.raise_seat (by decide))).trans (State.raise_seat (by decide))))

theorem State.actRejoin_none (h : LateSeat s i) : s.actRejoin i = s := by
  simp [State.actRejoin, h.readmit, h.rejoin]

theorem foldl_actRejoin_late (l : List Nat) (h : LateSeat s i) : LateSeat (l.foldl State.actRejoin s) i := by
  induction l generalizing s with
  | nil => exact h
  | cons j l ih =>
    by_cases same : j = i
    · subst same
      rw [List.foldl_cons, State.actRejoin_none h]
      exact ih h
    · exact ih (h.of_seat (State.actRejoin_seat same))

end

/-! ### The closure of a deal -/

section
variable {s t u : State} {i : Nat}

/-- No step of the closure opens the deal again. -/
theorem foldl_open {f : State → Nat → State} (step : ∀ t j, (f t j).dealer.open_ = t.dealer.open_) (l : List Nat) :
    (l.foldl f s).dealer.open_ = s.dealer.open_ := by
  induction l generalizing s with
  | nil => rfl
  | cons j l ih => exact ih.trans (step s j)

theorem foldl_closePosition_open (l : List Nat) : (l.foldl State.closePosition s).dealer.open_ = s.dealer.open_ :=
  foldl_open (fun _ j => (State.closePosition_seat (i := j + 1) (by omega)).open_) l

theorem foldl_actRejoin_open (l : List Nat) : (l.foldl State.actRejoin s).dealer.open_ = s.dealer.open_ :=
  foldl_open (fun _ j => (State.actRejoin_seat (i := j + 1) (by omega)).open_) l

theorem State.updDealer_seat {f : Dealer → Dealer} (positions : ∀ d, (f d).positions = d.positions)
    (opened : ∀ d, (f d).open_ = d.open_) : SeatKept i s (s.updDealer f) := .of_same (positions _) (opened _)

theorem State.ringEpisode_seat (reason : Nat) (on : Bool) : SeatKept i s (s.ringEpisode reason on) := by
  unfold State.ringEpisode
  dsimp only
  split
  · refine SeatKept.trans ?_ (State.updDealer_seat (fun d => by split <;> rfl) (fun d => by split <;> rfl))
    exact State.trace_seat _ _
  · refine SeatKept.trans ?_ (State.updDealer_seat (fun d => by split <;> rfl) (fun d => by split <;> rfl))
    exact SeatKept.trans (.of_keeps (G := [.logs]) ((State.logThrottle_keeps (by decide) _ _ _).mpr (Keeps.refl _ s)) (by decide))
      (State.trace_seat _ _)
  · exact .refl i s

theorem State.announce_seat (p : Nat) : SeatKept i s (s.announce p) := .of_same rfl rfl

theorem State.pace_seat : SeatKept i s s.pace := by
  unfold State.pace
  extract_lets p late shorter fast counted
  have noted : SeatKept i s counted := State.updDealer_seat (fun _ => rfl) fun _ => rfl
  refine .ite noted (.ite (.ite (noted.trans ?_) noted) (.ite (noted.trans (State.announce_seat _)) noted))
  exact ((State.announce_seat _).trans (State.raise_seat (by decide))).trans (State.ringEpisode_seat _ _)

theorem State.target_seat : SeatKept i s s.target := by
  unfold State.target
  extract_lets cs
  split
  · exact .of_same rfl rfl
  · exact .refl i s

theorem State.currentReason_seat : SeatKept i s s.currentReason := by
  unfold State.currentReason
  refine .ite (.refl i s) ?_
  split
  · exact SeatKept.trans (t := s.updDealer fun d => { d with current := true, calmSince := none }) (.of_same rfl rfl)
      (State.ringEpisode_seat _ _)
  · extract_lets amps above calm since lift on
    exact SeatKept.trans (t := s.updDealer fun d => { d with current := on, calmSince := since }) (.of_same rfl rfl)
      (State.ringEpisode_seat _ _)

theorem State.countJobs_seat : SeatKept i s s.countJobs := .of_same rfl rfl

theorem State.servePack_seat : SeatKept i s s.servePack := by
  unfold State.servePack
  extract_lets reasoned served rest
  have before : SeatKept i s reasoned := (State.countJobs_seat.trans State.target_seat).trans State.currentReason_seat
  have after : Keeps [.services, .logs, .outputs, .meas, .pins, .faults] reasoned
      ((served.updServices fun v => { v with rested := rest }).packStep).publishLimits := by
    rw [State.publishLimits_keeps (by decide), State.packStep_keeps (by decide), State.updServices_keeps (by decide)]
    exact keeps_foldl _ (fun t k => (State.serveString_keeps (by decide) k).mpr (Keeps.refl _ t)) (Keeps.refl _ reasoned)
  exact before.trans (.of_keeps after (by decide))

/-- The open deal closes (R292). -/
def State.closeDeal (s : State) : State :=
  (s.updDealer fun d => { d with open_ := false }).updVehicle fun v => { v with closedDeal := s.ring.deal }

/-- The positions of a deal are judged, and rejoins acted on (R292, R294, R307). -/
def State.judgeSeats (s : State) : State :=
  let ps := List.range s.ring.count
  (ps.filter (1 ≤ ·)).foldl State.actRejoin (ps.foldl State.closePosition s.closeDeal)

/-- The services of the pack follow, and what leaves the Dealer. -/
def State.serveDeal (s : State) : State :=
  let s := (s.raiseIf (!s.ringConsistent && !s.has .strap 5) .strap 5).degradedClosure
  let s := if s.core then s.pace.servePack else s.coreLost
  s.closurePins.armPending.stagePublication

theorem execDealClosure_run (dealer : s.isDealer = true) (run : s.running = true) (opened : s.dealer.open_ = true)
    (sane : s.dev.fatal = false) (online : s.dev.offTest = false) : exec .dealClosure s = .next s.judgeSeats.serveDeal := by
  simp only [exec, execDealClosure, dealer, run, opened, sane, online, Bool.not_false, Bool.and_self, Bool.not_true,
    Bool.false_eq_true, if_false]
  rfl

theorem State.serveDeal_seat : SeatKept i s s.serveDeal := by
  unfold State.serveDeal
  extract_lets ready served
  have before : SeatKept i s ready := (State.raiseIf_seat (by decide) _).trans
    (.of_keeps ((State.degradedClosure_keeps (G := [.safety, .logs, .outputs, .meas, .services, .pins, .keeper, .nv])
      (by decide)).mpr (Keeps.refl _ _)) (by decide))
  have serving : SeatKept i ready served := .ite (State.pace_seat.trans State.servePack_seat)
    (.of_keeps (G := [.services, .logs, .outputs, .meas, .pins]) ((State.coreLost_keeps (by decide)).mpr (Keeps.refl _ _))
      (by decide))
  have after : Keeps [.pins, .services, .nv, .service, .logs, .portN, .portS, .dev, .vehicle] served
      served.closurePins.armPending.stagePublication := by
    simp (disch := decide) only [State.stagePublication_keeps, State.armPending_keeps, State.closurePins_keeps, Keeps.refl]
  exact (before.trans serving).trans (.of_keeps after (by decide))

theorem State.stagePublication_closedDeal : s.stagePublication.vehicle.closedDeal = s.vehicle.closedDeal := rfl

/-- The publication that is staged is of the deal that has closed (R462). -/
theorem State.serveDeal_closedDeal : s.serveDeal.vehicle.closedDeal = s.vehicle.closedDeal := by
  unfold State.serveDeal
  extract_lets ready served
  have ready_ : ready.vehicle = s.vehicle :=
    (((State.degradedClosure_keeps (G := [.safety, .logs, .outputs, .meas, .services, .pins, .keeper, .nv, .faults]) (by decide)).mpr
      ((State.raiseIf_frame (by decide)).mono (by decide)))).group .vehicle (by decide)
  have serving : Keeps [.dealer, .ring, .faults, .logs, .pins, .services, .outputs, .meas] ready served := by
    refine keeps_ite ?_ ?_
    · simp (disch := decide) only [State.servePack_keeps, State.pace_keeps, Keeps.refl]
    · exact (State.coreLost_keeps (by decide)).mpr (Keeps.refl _ _)
  have after : Keeps [.pins, .services, .nv, .service, .logs, .portN, .portS, .dev] served served.closurePins.armPending := by
    simp (disch := decide) only [State.armPending_keeps, State.closurePins_keeps, Keeps.refl]
  rw [State.stagePublication_closedDeal, after.group .vehicle (by decide), serving.group .vehicle (by decide), ready_]

theorem State.judgeSeats_closedDeal : s.judgeSeats.vehicle.closedDeal = s.ring.deal := by
  have judged : Keeps [.dealer, .logs, .faults, .pins] s.closeDeal s.judgeSeats :=
    keeps_foldl _ (fun t i => (State.actRejoin_keeps (by decide) i).mpr (Keeps.refl _ t))
      (keeps_foldl _ (fun t i => (State.closePosition_keeps (by decide) i).mpr (Keeps.refl _ t)) (Keeps.refl _ _))
  exact congrArg Vehicle.closedDeal (judged.group .vehicle (by decide))

theorem dealClosure_ends (dealer : s.isDealer = true) (run : s.running = true) (opened : s.dealer.open_ = true)
    (sane : s.dev.fatal = false) (online : s.dev.offTest = false) :
    Runs .dealClosure s fun t =>
      t.dealer.open_ = false ∧ t.vehicle.closedDeal = s.ring.deal ∧
      (∀ i, 1 ≤ i → i < s.ring.count → i < s.dealer.positions.length → (s.pos i).state.isAdmitted = true →
        (s.pos i).partA = none → (s.pos i).missA < 2 → (s.pos i).missB < 2 → (s.pos i).fatal = false →
        (s.pos i).rejoin = none → (s.pos i).readmit = false → (t.pos i).state = .late) ∧
      Keeps [.dealer, .vehicle, .logs, .faults, .pins, .safety, .outputs, .meas, .services, .keeper, .nv, .ring, .service,
        .portN, .portS, .dev] s t := by
  have exec_ := execDealClosure_run dealer run opened sane online
  have whole := (exec_frame .dealClosure s).next exec_
  refine runs_next exec_ ⟨?_, ?_, fun i pos inRing inRange admitted missing missA missB notFatal rejoin readmit => ?_,
    whole.mono (by decide)⟩
  · rw [(State.serveDeal_seat (i := 0)).open_, State.judgeSeats, foldl_actRejoin_open, foldl_closePosition_open]
    rfl
  · rw [State.serveDeal_closedDeal, State.judgeSeats_closedDeal]
  · rw [State.serveDeal_seat.pos]
    have late : LateSeat ((List.range s.ring.count).foldl State.closePosition s.closeDeal) i :=
      foldl_closePosition_late (s := s.closeDeal) (by omega) ⟨admitted, missing, missA, missB, notFatal⟩ inRange rejoin readmit inRing
    exact (foldl_actRejoin_late _ late).late

/-! ### The predicted boundary -/

/-- The local updates of a deal, from the reactions to the fan (R365 to R369, R375, R381, R387). -/
def State.updateLocally (s : State) : State :=
  let s := s.endReactions.acvBoundary.dieRelease.closeEpisodes
  let s := s.leaveLowest.schedule.acvSelect
  (s.noteReasons 1).lamps.heating.fanBoundary

theorem State.updateLocally_frame :
    Keeps [.logs, .faults, .balance, .pins, .outputs, .meas, .supply, .portN, .portS, .fan] s s.updateLocally := by
  simp (disch := decide) only [State.updateLocally, State.fanBoundary_keeps, State.heating_keeps, State.lamps_keeps,
    State.noteReasons_keeps, State.acvSelect_keeps, State.schedule_keeps, State.leaveLowest_keeps, State.closeEpisodes_keeps,
    State.dieRelease_keeps, State.acvBoundary_keeps, State.endReactions_keeps, Keeps.refl]

/-- The interlock counts the deals of its cycles. -/
def State.countIlk (s : State) : State := s.updSafety fun f => { f with ilkDeals := f.ilkDeals + 1 }

theorem execDealBoundary_run (deals : s.deals = true) (online : s.dev.offTest = false) :
    exec .dealBoundary s = .next s.moveDeal.countCheckIn.updateLocally.repeatFatal.countIlk := by
  simp only [exec, execDealBoundary, deals, online, Bool.not_false, Bool.and_self, Bool.not_true, Bool.false_eq_true, if_false]
  rfl

theorem State.moveDeal_frame : Keeps [.ring, .portN, .portS, .service] s s.moveDeal :=
  (State.moveDeal_keeps (by decide)).mpr (Keeps.refl _ s)

theorem State.moveDeal_dealer (dealer : s.isDealer = true) : s.moveDeal = s := by
  simp [State.moveDeal, dealer]

/-- A device that no beacon has moved counts its deal on (R26). -/
theorem State.moveDeal_deal (other : s.isDealer = false) (behind : s.ring.ahead = false) :
    s.moveDeal.ring.deal = s.ring.deal + 1 := by
  have counted : (s.newDeal (s.ring.deal + 1)).ring.deal = s.ring.deal + 1 := rfl
  have released : Keeps [.portN, .portS, .service]
      ((s.newDeal (s.ring.deal + 1)).updRing fun r => { r with t0 := r.t0 + (periodMs r.period * 1000000 : Nat) }) s.moveDeal := by
    simp only [State.moveDeal, other, behind, Bool.false_eq_true, if_false]
    exact (State.releaseHeld_keeps (by decide)).mpr (Keeps.refl _ _)
  exact (congrArg Ring.deal (released.group .ring (by decide))).trans counted

theorem State.repeatFatal_leaves : s.repeatFatal.ring.deal = s.ring.deal ∧ s.repeatFatal.dev = s.dev ∧
    s.repeatFatal.safety = s.safety := by
  have sent : Keeps [.logs, .portN, .portS] s (s.sendTrumpWords s.ring.fatalTrump) :=
    (State.sendTrumpWords_keeps (by decide) _).mpr (Keeps.refl _ s)
  unfold State.repeatFatal
  split
  · exact ⟨(congrArg Ring.deal (sent.group .ring (by decide)) :), sent.group .dev (by decide), sent.group .safety (by decide)⟩
  · exact ⟨rfl, rfl, rfl⟩

theorem State.countCheckIn_leaves : s.countCheckIn.dev =
      { s.dev with checkMiss := if s.dev.checkedIn then 0 else s.dev.checkMiss + 1, checkedIn := false } ∧
    s.countCheckIn.ring = s.ring ∧ s.countCheckIn.safety = s.safety := ⟨rfl, rfl, rfl⟩

theorem State.updateLocally_leaves : s.updateLocally.dev = s.dev ∧ s.updateLocally.ring = s.ring ∧
    s.updateLocally.safety = s.safety :=
  ⟨State.updateLocally_frame.group .dev (by decide), State.updateLocally_frame.group .ring (by decide),
    State.updateLocally_frame.group .safety (by decide)⟩

theorem State.moveDeal_leaves : s.moveDeal.dev = s.dev ∧ s.moveDeal.safety = s.safety :=
  ⟨State.moveDeal_frame.group .dev (by decide), State.moveDeal_frame.group .safety (by decide)⟩

theorem State.countIlk_leaves : s.countIlk.dev = s.dev ∧ s.countIlk.ring = s.ring ∧
    s.countIlk.safety.ilkDeals = s.safety.ilkDeals + 1 := ⟨rfl, rfl, rfl⟩

theorem dealBoundary_ends (deals : s.deals = true) (online : s.dev.offTest = false) :
    Runs .dealBoundary s fun t =>
      t.dev.checkMiss = (if s.dev.checkedIn then 0 else s.dev.checkMiss + 1) ∧ t.dev.checkedIn = false ∧
      (s.isDealer = false → s.ring.ahead = false → t.ring.deal = s.ring.deal + 1) ∧
      (s.isDealer = true → t.ring.deal = s.ring.deal) ∧ t.safety.ilkDeals = s.safety.ilkDeals + 1 ∧
      Keeps [.ring, .portN, .portS, .service, .dev, .logs, .faults, .balance, .pins, .outputs, .meas, .supply, .fan, .safety]
        s t := by
  have exec_ := execDealBoundary_run deals online
  obtain ⟨devM, safetyM⟩ := s.moveDeal_leaves
  obtain ⟨devC, ringC, safetyC⟩ := s.moveDeal.countCheckIn_leaves
  obtain ⟨devU, ringU, safetyU⟩ := s.moveDeal.countCheckIn.updateLocally_leaves
  obtain ⟨dealR, devR, safetyR⟩ := s.moveDeal.countCheckIn.updateLocally.repeatFatal_leaves
  obtain ⟨devI, ringI, ilk⟩ := s.moveDeal.countCheckIn.updateLocally.repeatFatal.countIlk_leaves
  have dev : s.moveDeal.countCheckIn.updateLocally.repeatFatal.countIlk.dev =
      { s.dev with checkMiss := if s.dev.checkedIn then 0 else s.dev.checkMiss + 1, checkedIn := false } := by
    rw [devI, devR, devU, devC, devM]
  have deal : s.moveDeal.countCheckIn.updateLocally.repeatFatal.countIlk.ring.deal = s.moveDeal.ring.deal := by
    rw [ringI, dealR, ringU, ringC]
  refine runs_next exec_ ⟨by rw [dev], by rw [dev], fun other behind => deal.trans (State.moveDeal_deal other behind),
    fun dealer => by rw [deal, State.moveDeal_dealer dealer], by rw [ilk, safetyR, safetyU, safetyC, safetyM],
    ((exec_frame .dealBoundary s).next exec_).mono (by decide)⟩

end

/-- Settles O14: a position closes by its own parts alone, and what follows the closure writes no position; at the boundary the
deal, the check-in and the interlock's count are each written once. -/
theorem dealsEnd : Obligations.DealsEnd :=
  ⟨fun _ => dealClosure_ends, fun _ => dealBoundary_ends⟩

end Sys2Proof.Machine

/-!
PROOFS. The beacon with which the Dealer opens a deal (chapter 10).
-/
namespace Sys2Proof.Machine

/-! ### What leaves an opened deal and the ring's lines alone -/

section
variable {s t u : State}

/-- The deal that is open on the Dealer, the payload it sent, and what is on the line of each port are the same. -/
structure DealStands (s t : State) : Prop where
  deal : t.ring.deal = s.ring.deal
  dealing : t.ring.dealing = s.ring.dealing
  ringT0 : t.ring.t0 = s.ring.t0
  open_ : t.dealer.open_ = s.dealer.open_
  t0 : t.dealer.t0 = s.dealer.t0
  firstBeacon : t.dealer.firstBeacon = s.dealer.firstBeacon
  sent : t.dealer.sent = s.dealer.sent
  line : ∀ p, (t.port p).line = (s.port p).line
  heldDown : ∀ p, (t.port p).heldDown = (s.port p).heldDown

theorem DealStands.refl (s : State) : DealStands s s := ⟨rfl, rfl, rfl, rfl, rfl, rfl, rfl, fun _ => rfl, fun _ => rfl⟩

theorem DealStands.trans (h : DealStands s t) (k : DealStands t u) : DealStands s u where
  deal := k.deal.trans h.deal
  dealing := k.dealing.trans h.dealing
  ringT0 := k.ringT0.trans h.ringT0
  open_ := k.open_.trans h.open_
  t0 := k.t0.trans h.t0
  firstBeacon := k.firstBeacon.trans h.firstBeacon
  sent := k.sent.trans h.sent
  line p := (k.line p).trans (h.line p)
  heldDown p := (k.heldDown p).trans (h.heldDown p)

theorem DealStands.of_keeps {G : List Group} (h : Keeps G s t)
    (c : (covers [.ring] G || covers [.dealer] G || covers [.portN] G || covers [.portS] G) = false) : DealStands s t := by
  simp only [Bool.or_eq_false_iff] at c
  obtain ⟨⟨⟨ring, dealer⟩, portN⟩, portS⟩ := c
  have sameRing : t.ring = s.ring := h.group .ring ring
  have sameDealer : t.dealer = s.dealer := h.group .dealer dealer
  have samePort (p) : t.port p = s.port p := h.port p portN portS
  constructor <;> intros <;> simp only [sameRing, sameDealer, samePort]

theorem DealStands.ite {c : Prop} [Decidable c] (h : DealStands s t) (k : DealStands s u) :
    DealStands s (if c then t else u) := by
  split
  · exact h
  · exact k

theorem DealStands.foldl {α : Type} {f : State → α → State} (step : ∀ v x, DealStands v (f v x)) (l : List α) (s : State) :
    DealStands s (l.foldl f s) := by
  induction l generalizing s with
  | nil => exact .refl s
  | cons x l ih => exact (step s x).trans (ih _)

theorem State.updPort_stands (p : Port) (g : PortState → PortState) (line : ∀ q, (g q).line = q.line)
    (heldDown : ∀ q, (g q).heldDown = q.heldDown) : DealStands s (s.updPort p g) := by
  have same (r : Port) : ((s.updPort p g).port r).line = (s.port r).line ∧
      ((s.updPort p g).port r).heldDown = (s.port r).heldDown := by
    cases p <;> cases r <;>
      exact ⟨by simp only [State.updPort, State.port, line], by simp only [State.updPort, State.port, heldDown]⟩
  have keeps : Keeps [.portN, .portS] s (s.updPort p g) := by
    simp (disch := decide) only [State.updPort_keeps, Keeps.refl]
  have sameRing : (s.updPort p g).ring = s.ring := keeps.group .ring (by decide)
  have sameDealer : (s.updPort p g).dealer = s.dealer := keeps.group .dealer (by decide)
  exact {
    deal := by rw [sameRing]
    dealing := by rw [sameRing]
    ringT0 := by rw [sameRing]
    open_ := by rw [sameDealer]
    t0 := by rw [sameDealer]
    firstBeacon := by rw [sameDealer]
    sent := by rw [sameDealer]
    line := fun r => (same r).1
    heldDown := fun r => (same r).2 }

theorem State.queue_stands (p : Port) (f : TxFrame) : DealStands s (s.queue p f) := by
  refine State.updPort_stands p _ (fun q => ?_) (fun q => ?_)
  · split
    · split <;> rfl
    · rfl
  · split
    · split <;> rfl
    · rfl

theorem State.send_stands (p : Port) (ty : FrameType) (ws : List Word) : DealStands s (s.send p ty ws) :=
  State.queue_stands p _

theorem State.updService_stands (g : Service → Service) : DealStands s (s.updService g) :=
  .of_keeps (G := [.service]) (by simp (disch := decide) only [State.updService_keeps, Keeps.refl]) (by decide)

theorem State.sendService_stands (p : Port) (ws : List Word) : DealStands s (s.sendService p ws) :=
  .ite ((State.send_stands p .service ws).trans (State.updPort_stands p _ (fun _ => rfl) fun _ => rfl))
    (State.updService_stands _)

theorem State.sendAllPorts_stands (ws : List Word) : DealStands s (s.sendAllPorts ws) := by
  have north : DealStands s (if s.cfg.genN.ring then s.sendService .n ws else s) := .ite (State.sendService_stands .n ws) (.refl s)
  exact north.trans (.ite (State.sendService_stands .s ws) (.refl _))

theorem State.updDealer_stands (g : Dealer → Dealer)
    (same : ∀ d, (g d).open_ = d.open_ ∧ (g d).t0 = d.t0 ∧ (g d).firstBeacon = d.firstBeacon ∧ (g d).sent = d.sent) :
    DealStands s (s.updDealer g) := by
  obtain ⟨opened, t0, firstBeacon, sent⟩ := same s.dealer
  exact ⟨rfl, rfl, rfl, opened, t0, firstBeacon, sent, fun p => by cases p <;> rfl, fun p => by cases p <;> rfl⟩

theorem State.ringEpisode_stands (reason : Nat) (on : Bool) : DealStands s (s.ringEpisode reason on) := by
  unfold State.ringEpisode
  dsimp only
  split
  · refine DealStands.trans (.of_keeps (G := [.logs]) ?_ ?_) (State.updDealer_stands _ fun d => by split <;> simp only [and_self])
    · simp (disch := decide) only [State.trace_keeps, Keeps.refl]
    · decide
  · refine DealStands.trans (.of_keeps (G := [.logs]) ?_ ?_) (State.updDealer_stands _ fun d => by split <;> simp only [and_self])
    · simp (disch := decide) only [State.trace_keeps, State.logThrottle_keeps, Keeps.refl]
    · decide
  · exact .refl s

theorem State.endPace_stands : DealStands s s.endPace := .ite (State.ringEpisode_stands 6 false) (.refl s)

theorem State.packAtT0_stands : DealStands s s.packAtT0 :=
  .of_keeps (G := [.logs, .services, .outputs, .meas, .pins]) (by simp (disch := decide) only [State.packAtT0_keeps, Keeps.refl])
    (by decide)

theorem State.kittyPeriod_stands (at_ : Nat) : DealStands s (s.kittyPeriod at_) :=
  ⟨rfl, rfl, rfl, rfl, rfl, rfl, rfl, fun p => by cases p <;> rfl, fun p => by cases p <;> rfl⟩

theorem State.takeBaseline_stands : DealStands s s.takeBaseline :=
  .of_keeps (G := [.balance]) (by simp (disch := decide) only [State.takeBaseline_keeps, Keeps.refl]) (by decide)

theorem State.takeOwnBeacon_stands (b : Beacon) : DealStands s (s.takeOwnBeacon b) := by
  refine DealStands.trans (t := s.updRing fun r =>
    { r with target := b.target, band := b.band, share := b.share, rthr := b.rthr, cmds := b.cmds, dealerSeal := b.sealNo })
    ⟨rfl, rfl, rfl, rfl, rfl, rfl, rfl, fun p => by cases p <;> rfl, fun p => by cases p <;> rfl⟩ (.ite ?_ (.refl _))
  exact .of_keeps (G := [.balance, .logs, .faults, .pins]) (by simp (disch := decide) only [State.endJobs_keeps, Keeps.refl])
    (by decide)

theorem State.sendCommands_stands : DealStands s s.sendCommands :=
  .of_keeps (G := [.services]) (by simp (disch := decide) only [State.sendCommands_keeps, Keeps.refl]) (by decide)

theorem State.afterBeacon_stands (b : Beacon) : DealStands s (s.afterBeacon b) :=
  ⟨rfl, rfl, rfl, rfl, rfl, rfl, rfl, fun p => by cases p <;> rfl, fun p => by cases p <;> rfl⟩

theorem State.sendChunks_stands : DealStands s s.sendChunks := by
  unfold State.sendChunks
  split
  · exact .refl s
  · refine (DealStands.foldl (fun v c => ?_) _ s).trans
      ⟨rfl, rfl, rfl, rfl, rfl, rfl, rfl, fun p => by cases p <;> rfl, fun p => by cases p <;> rfl⟩
    exact (DealStands.ite (State.send_stands .n _ _) (.refl v)).trans (.ite (State.send_stands .s _ _) (.refl _))

theorem State.releaseHeld_stands : DealStands s s.releaseHeld := by
  unfold State.releaseHeld
  exact (State.updService_stands _).trans (.foldl (fun _ (x : Port × List Word) => State.sendService_stands x.1 x.2) _ _)

theorem State.distributeBlocks_stands : DealStands s s.distributeBlocks := by
  unfold State.distributeBlocks
  split
  · exact .refl s
  · split
    · exact .refl s
    · extract_lets n sent
      have blocks : DealStands s sent := .foldl (fun _ _ => State.sendAllPorts_stands _) _ s
      exact blocks.trans (State.updService_stands _)

theorem State.storageAfterOpening_stands : DealStands s s.storageAfterOpening :=
  .ite ⟨rfl, rfl, rfl, rfl, rfl, rfl, rfl, fun p => by cases p <;> rfl, fun p => by cases p <;> rfl⟩ (.refl s)

/-! ### The beacon on the line -/

theorem cutOff_heldDown (q : PortState) : (cutOff q).heldDown = q.heldDown := by
  unfold cutOff
  split
  · split <;> rfl
  all_goals rfl

theorem State.sendBeacon_line (p : Port) (f : TxFrame) (ring : (s.gen p).ring = true) (up : (s.port p).heldDown = false) :
    ((s.sendBeacon p f).port p).line = [.frame f 0] := by
  simp only [State.sendBeacon, State.updPort_port, ring, up, Bool.not_false, Bool.and_self, if_true]

theorem State.ownFrame_beacon (p : Port) (ws : List Word) (dealer : s.isDealer = true) (dealing : s.ring.dealing = true) :
    (s.ownFrame p .beacon ws).src = 0 ∧ (s.ownFrame p .beacon ws).deal = s.ring.deal := by
  simp [State.ownFrame, State.position, State.dealNo, dealer, dealing]

/-- The same payload goes out as the beacon of both ports (R302). -/
def State.sendBothBeacons (s : State) (ws : List Word) : State :=
  (s.sendBeacon .n (s.ownFrame .n .beacon ws)).sendBeacon .s (s.ownFrame .s .beacon ws)

theorem State.sendBothBeacons_line (p : Port) (ws : List Word) (ring : (s.gen p).ring = true) (up : (s.port p).heldDown = false) :
    ((s.sendBothBeacons ws).port p).line = [.frame (s.ownFrame p .beacon ws) 0] := by
  cases p with
  | n =>
    have other (v : State) (f : TxFrame) : (v.sendBeacon .s f).port .n = v.port .n := State.updPort_port_other (p := .s) ..
    exact (congrArg PortState.line (other _ _)).trans (State.sendBeacon_line .n _ ring up)
  | s =>
    have other : (s.sendBeacon .n (s.ownFrame .n .beacon ws)).port .s = s.port .s := State.updPort_port_other ..
    exact State.sendBeacon_line .s _ ring (by rw [other]; exact up)

theorem State.sendBothBeacons_frame (ws : List Word) : Keeps [.portN, .portS] s (s.sendBothBeacons ws) := by
  simp (disch := decide) only [State.sendBothBeacons, State.sendBeacon_keeps, Keeps.refl]

/-! ### The opening of the deal -/

/-- The state in which the Dealer makes its beacon up: the deal has begun, and the kitty's period where one is due. -/
def State.openDeal (s : State) (at_ : Nat) : State :=
  let u := (s.dealerDeal s.dealer.firstBeacon at_).endPace.packAtT0
  if u.startsKitty s.dealer.firstBeacon at_ then (u.kittyPeriod at_).takeBaseline else u

/-- The beacon of that state. -/
def State.openBeacon (s : State) (at_ : Nat) : Beacon :=
  (s.openDeal at_).beacon ((s.dealerDeal s.dealer.firstBeacon at_).endPace.packAtT0.startsKitty s.dealer.firstBeacon at_)

/-- The beacon is in force on the Dealer, and its payload kept. -/
def State.keepBeacon (s : State) (b : Beacon) : State :=
  (s.sendCommands.takeOwnBeacon b).updDealer fun d => { d with sent := b.words }

/-- What the Dealer does once the beacon has left. -/
def State.followBeacon (s : State) (b : Beacon) : State :=
  (s.afterBeacon b).sendChunks.releaseHeld.distributeBlocks.storageAfterOpening

theorem execDealBeacon_run (at_ : Nat) (dealer : s.isDealer = true) (run : s.running = true)
    (found : s.dealer.discovery.done = true) (sane : s.dev.fatal = false) (deals : s.dealer.stopped = false)
    (online : s.dev.offTest = false) :
    exec (.dealBeacon at_) s = .next ((((s.openDeal at_).keepBeacon (s.openBeacon at_)).sendBothBeacons
      (s.openBeacon at_).words).followBeacon (s.openBeacon at_)) := by
  simp only [exec, execDealBeacon, dealer, run, found, sane, deals, online, Bool.not_false, Bool.and_self, Bool.not_true,
    Bool.false_eq_true, if_false]
  rfl

theorem State.newDeal_heldDown (d : Word) (p : Port) : ((s.newDeal d).port p).heldDown = (s.port p).heldDown := by
  cases p <;> rfl

/-- The deal of a beacon at `at_` is open on the Dealer, as deal `d`. -/
structure DealOpened (d : Word) (at_ : Nat) (t : State) : Prop where
  deal : t.ring.deal = d
  dealing : t.ring.dealing = true
  ringT0 : t.ring.t0 = at_
  open_ : t.dealer.open_ = true
  t0 : t.dealer.t0 = at_
  firstBeacon : t.dealer.firstBeacon = false

theorem DealOpened.of_stands {d : Word} {at_ : Nat} (h : DealOpened d at_ s) (k : DealStands s t) : DealOpened d at_ t :=
  ⟨k.deal.trans h.deal, k.dealing.trans h.dealing, k.ringT0.trans h.ringT0, k.open_.trans h.open_, k.t0.trans h.t0,
    k.firstBeacon.trans h.firstBeacon⟩

theorem State.dealerDeal_opens (first : Bool) (at_ : Nat) :
    DealOpened (if first then 0 else s.ring.deal + 1) at_ (s.dealerDeal first at_) ∧
    ∀ p, ((s.dealerDeal first at_).port p).heldDown = (s.port p).heldDown := by
  unfold State.dealerDeal
  extract_lets old begun timed strapped opened
  have number : strapped.ring.deal = if first then 0 else s.ring.deal + 1 := by
    refine Eq.trans (b := timed.ring.deal) ?_ ?_
    · exact (apply_ite (fun u : State => u.ring.deal) ..).trans (ite_self _)
    · exact (apply_ite (fun u : State => u.ring.deal) ..).trans (ite_self _)
  have ports (p : Port) : (strapped.port p).heldDown = (s.port p).heldDown := by
    have timedPort : timed.port p = begun.port p := by
      refine (apply_ite (fun u : State => u.port p) ..).trans ?_
      cases p <;> exact ite_self _
    have strappedPort : strapped.port p = timed.port p := by
      refine (apply_ite (fun u : State => u.port p) ..).trans ?_
      cases p <;> exact ite_self _
    rw [strappedPort, timedPort]
    exact State.newDeal_heldDown _ p
  exact ⟨⟨number, rfl, rfl, rfl, rfl, rfl⟩, fun p => (by cases p <;> rfl : _ = (strapped.port p).heldDown).trans (ports p)⟩

theorem State.openDeal_stands (at_ : Nat) : DealStands (s.dealerDeal s.dealer.firstBeacon at_) (s.openDeal at_) :=
  (State.endPace_stands.trans State.packAtT0_stands).trans
    (.ite ((State.kittyPeriod_stands at_).trans State.takeBaseline_stands) (.refl _))

theorem State.openDeal_frame (at_ : Nat) : Keeps
    [.ring, .portN, .portS, .dealer, .vehicle, .logs, .services, .outputs, .meas, .pins, .balance] s (s.openDeal at_) := by
  refine keeps_ite ?_ ?_ <;>
    simp (disch := decide) only [State.takeBaseline_keeps, State.kittyPeriod_keeps, State.packAtT0_keeps, State.endPace_keeps,
      State.dealerDeal_keeps, Keeps.refl]

theorem State.keepBeacon_frame (b : Beacon) :
    Keeps [.services, .ring, .balance, .logs, .faults, .pins, .dealer] s (s.keepBeacon b) := by
  simp (disch := decide) only [State.keepBeacon, State.updDealer_keeps, State.takeOwnBeacon_keeps, State.sendCommands_keeps,
    Keeps.refl]

theorem State.keepBeacon_sent (b : Beacon) : (s.keepBeacon b).dealer.sent = b.words := rfl

theorem DealOpened.keepBeacon {d : Word} {at_ : Nat} (h : DealOpened d at_ s) (b : Beacon) : DealOpened d at_ (s.keepBeacon b) := by
  obtain ⟨deal, dealing, ringT0, opened, t0, firstBeacon⟩ :=
    h.of_stands (State.sendCommands_stands.trans (State.takeOwnBeacon_stands b))
  exact ⟨deal, dealing, ringT0, opened, t0, firstBeacon⟩

theorem State.followBeacon_stands (b : Beacon) : DealStands s (s.followBeacon b) :=
  ((((State.afterBeacon_stands b).trans State.sendChunks_stands).trans State.releaseHeld_stands).trans
    State.distributeBlocks_stands).trans State.storageAfterOpening_stands

theorem DealOpened.of_keeps {d : Word} {at_ : Nat} {G : List Group} (h : DealOpened d at_ s) (k : Keeps G s t)
    (c : (covers [.ring] G || covers [.dealer] G) = false) : DealOpened d at_ t := by
  simp only [Bool.or_eq_false_iff] at c
  obtain ⟨ring, dealer⟩ := c
  have sameRing : t.ring = s.ring := k.group .ring ring
  have sameDealer : t.dealer = s.dealer := k.group .dealer dealer
  obtain ⟨deal, dealing, ringT0, opened, t0, firstBeacon⟩ := h
  constructor <;> simp only [sameRing, sameDealer, deal, dealing, ringT0, opened, t0, firstBeacon]

end

/-- Settles O12: the deal begun in `dealerDeal` stands through everything the Dealer does at T0, and both lines carry the
frame made of the payload it keeps. -/
theorem dealerOpensTheDeal : Obligations.DealerOpensTheDeal := by
  intro s at_ dealer run found sane deals online
  have runs := execDealBeacon_run at_ dealer run found sane deals online
  have frame := (exec_frame (.dealBeacon at_) s).next runs
  obtain ⟨begun, open_heldDown⟩ := State.dealerDeal_opens (s := s) s.dealer.firstBeacon at_
  have kept := (begun.of_stands (State.openDeal_stands at_)).keepBeacon (s.openBeacon at_)
  have sent := (State.keepBeacon_sent (s := s.openDeal at_) (s.openBeacon at_))
  have held (p : Port) : (((s.openDeal at_).keepBeacon (s.openBeacon at_)).port p).heldDown = (s.port p).heldDown := by
    rw [(State.keepBeacon_frame _).port p (by decide) (by decide), (State.openDeal_stands at_).heldDown p,
      open_heldDown p]
  have straps : ((s.openDeal at_).keepBeacon (s.openBeacon at_)).cfg = s.cfg :=
    ((State.keepBeacon_frame _).cfg (by decide)).trans ((State.openDeal_frame at_).cfg (by decide))
  generalize (s.openDeal at_).keepBeacon (s.openBeacon at_) = u at runs frame kept sent held straps
  have beacons := State.sendBothBeacons_frame (s := u) (s.openBeacon at_).words
  have follow := State.followBeacon_stands (s := u.sendBothBeacons (s.openBeacon at_).words) (s.openBeacon at_)
  obtain ⟨deal, dealing, ringT0, opened, t0, firstBeacon⟩ := (kept.of_keeps beacons (by decide)).of_stands follow
  refine runs_next runs ⟨dealing, deal, ringT0, opened, t0, firstBeacon, fun p ring up => ?_, frame.mono rfl⟩
  have isDealer : u.isDealer = true := by rw [State.isDealer, straps]; exact dealer
  have gen : (u.gen p).ring = true := by
    rw [← ring]; cases p <;> simp only [State.gen, straps]
  obtain ⟨src, number⟩ := State.ownFrame_beacon p (s.openBeacon at_).words isDealer kept.dealing
  refine ⟨u.ownFrame p .beacon (s.openBeacon at_).words, ?_, rfl, src, rfl, ?_, ?_⟩
  · rw [follow.line p]
    exact State.sendBothBeacons_line p _ gen (by rw [held]; exact up)
  · have same : (u.sendBothBeacons (s.openBeacon at_).words).dealer = u.dealer := beacons.group .dealer (by decide)
    rw [follow.sent, same, sent]
    rfl
  · rw [number, kept.deal, deal]

end Sys2Proof.Machine

/-!
PROOFS. What guards the non-volatile memory: the anti-rollback fuses change by FUSE_BLOW only (R560) and the life-cycle state
at a boot only (R562), because no operation outside those two commands writes either.
-/
namespace Sys2Proof.Machine

/-! ### The fuses and the life-cycle state -/

/-- Every group but the non-volatile memory. -/
def offNv : List Group := Group.all.erase .nv

/-- The anti-rollback fuses and the life-cycle state are the same. -/
structure SameFuses (s t : State) : Prop where
  fuses : t.nv.fuses = s.nv.fuses
  lifeCycle : t.nv.lifeCycle = s.nv.lifeCycle

/-- The fuses and the life-cycle state of `s` are kept in `t`: its non-volatile memory is that of a state that has them. In
this form the frames of the operations that leave the non-volatile memory alone rewrite it. -/
abbrev FusesKept (s t : State) : Prop := ∃ r, SameFuses s r ∧ Keeps offNv r t

section
variable {s t u v : State}

theorem fusesKept_iff : FusesKept s t ↔ SameFuses s t := by
  constructor
  · rintro ⟨r, ⟨fuses, lifeCycle⟩, keeps⟩
    have nv : t.nv = r.nv := keeps.group .nv (by decide)
    exact ⟨by rw [nv, fuses], by rw [nv, lifeCycle]⟩
  · exact fun h => ⟨t, h, Keeps.refl _ t⟩

theorem FusesKept.refl (s : State) : FusesKept s s := fusesKept_iff.mpr ⟨rfl, rfl⟩

theorem FusesKept.trans (h : FusesKept s t) (k : FusesKept t u) : FusesKept s u := by
  obtain ⟨fuses, lifeCycle⟩ := fusesKept_iff.mp h
  obtain ⟨fuses', lifeCycle'⟩ := fusesKept_iff.mp k
  exact fusesKept_iff.mpr ⟨fuses'.trans fuses, lifeCycle'.trans lifeCycle⟩

/-- An operation that keeps the fuses and the life-cycle state drops out. -/
theorem fuses_drop (h : FusesKept u v) : FusesKept s v ↔ FusesKept s u := by
  obtain ⟨fuses, lifeCycle⟩ := fusesKept_iff.mp h
  refine ⟨fun k => ?_, fun k => k.trans h⟩
  obtain ⟨fuses', lifeCycle'⟩ := fusesKept_iff.mp k
  exact fusesKept_iff.mpr ⟨fuses.symm.trans fuses', lifeCycle.symm.trans lifeCycle'⟩

theorem fuses_ite {c : Prop} [Decidable c] :
    FusesKept s (if c then u else v) ↔ (c → FusesKept s u) ∧ (¬c → FusesKept s v) := by
  by_cases h : c <;> simp only [h, if_true, if_false, true_imp_iff, false_imp_iff, not_true, not_false_iff, and_true, true_and]

theorem fuses_foldl {α : Type} {f : State → α → State} (step : ∀ t x, FusesKept t (f t x)) (l : List α) :
    FusesKept s (l.foldl f u) ↔ FusesKept s u := by
  induction l generalizing u with
  | nil => exact Iff.rfl
  | cons x l ih => exact ih.trans (fuses_drop (step u x))

theorem State.updNv_fuses (g : NonVolatile → NonVolatile)
    (same : ∀ n, (g n).fuses = n.fuses ∧ (g n).lifeCycle = n.lifeCycle) : FusesKept s (u.updNv g) ↔ FusesKept s u := by
  obtain ⟨fuses, lifeCycle⟩ := same u.nv
  exact fuses_drop (fusesKept_iff.mpr ⟨fuses, lifeCycle⟩)

theorem setSlot_guarded (b : Bool) (x : SlotState) (n : NonVolatile) :
    (setSlot b x n).fuses = n.fuses ∧ (setSlot b x n).lifeCycle = n.lifeCycle := by
  cases b <;> exact ⟨rfl, rfl⟩

theorem foldl_failed_guarded (l : List Bool) (n : NonVolatile) :
    (l.foldl (fun m x => if slotOf m x = .empty then m else setSlot x .failed m) n).fuses = n.fuses ∧
    (l.foldl (fun m x => if slotOf m x = .empty then m else setSlot x .failed m) n).lifeCycle = n.lifeCycle := by
  induction l generalizing n with
  | nil => exact ⟨rfl, rfl⟩
  | cons x l ih =>
    rw [List.foldl_cons, (ih _).1, (ih _).2]
    split
    · exact ⟨rfl, rfl⟩
    · exact setSlot_guarded x .failed n

/-- The slot chosen at a boot is verified, and those before it in the order failed. -/
theorem chosenSlot_guarded (b : Bool) (l : List Bool) (n : NonVolatile) :
    (setSlot b .verified (l.foldl (fun m x => if slotOf m x = .empty then m else setSlot x .failed m) n)).fuses = n.fuses ∧
    (setSlot b .verified (l.foldl (fun m x => if slotOf m x = .empty then m else setSlot x .failed m) n)).lifeCycle =
      n.lifeCycle := by
  obtain ⟨fuses, lifeCycle⟩ := foldl_failed_guarded l n
  obtain ⟨fuses', lifeCycle'⟩ := setSlot_guarded b .verified
    (l.foldl (fun m x => if slotOf m x = .empty then m else setSlot x .failed m) n)
  exact ⟨fuses'.trans fuses, lifeCycle'.trans lifeCycle⟩

/-! ### Operations that write the non-volatile memory -/

theorem State.setLockout_fuses (cause : Nat) : FusesKept s (u.setLockout cause) ↔ FusesKept s u := by
  refine fuses_drop ?_
  unfold State.setLockout
  simp (disch := first | decide | exact fun _ => ⟨rfl, rfl⟩) only [FusesKept, fuses_ite, State.logLockout_keeps,
    State.lockPin_keeps, State.updNv_fuses, State.updKeeper_keeps, FusesKept.refl, implies_true, and_self]

theorem State.trip_fuses (lock : Option Nat) : FusesKept s (u.trip lock) ↔ FusesKept s u := by
  refine fuses_drop ?_
  unfold State.trip
  split <;> simp (disch := decide) only [FusesKept, State.openPack_keeps, State.setLockout_fuses, FusesKept.refl]

theorem State.degradedClosure_fuses : FusesKept s u.degradedClosure ↔ FusesKept s u := by
  refine fuses_drop ?_
  unfold State.degradedClosure
  simp (disch := decide) only [FusesKept, fuses_ite, State.degradedTimer_keeps, State.trip_fuses, State.updSafety_keeps,
    FusesKept.refl, implies_true, and_self]

theorem State.eraseSpare_fuses : FusesKept s u.eraseSpare ↔ FusesKept s u := by
  refine fuses_drop ?_
  unfold State.eraseSpare
  simp (disch := first | decide | exact fun _ => ⟨rfl, rfl⟩) only [FusesKept, State.updNv_fuses, State.updLogs_keeps,
    keeps_flash, FusesKept.refl]

theorem State.flushLog_fuses (n : Nat) : FusesKept s (State.flushLog n u) ↔ FusesKept s u := by
  induction n generalizing u with
  | zero => exact Iff.rfl
  | succ n ih =>
    unfold State.flushLog
    split
    · exact Iff.rfl
    · refine ih.trans (fuses_drop ?_)
      simp (disch := decide) only [FusesKept, fuses_ite, State.eraseSpare_fuses, State.putRecord_keeps,
        State.popRecord_keeps, FusesKept.refl, implies_true, and_self]

theorem State.bootLog_fuses : FusesKept s u.bootLog ↔ FusesKept s u := by
  refine fuses_drop ?_
  unfold State.bootLog
  simp (disch := decide) only [FusesKept, State.updKeeper_keeps, State.eraseSpare_fuses, State.skipTorn_keeps,
    FusesKept.refl]

theorem State.logEnergy_fuses : FusesKept s u.logEnergy ↔ FusesKept s u := by
  refine fuses_drop ?_
  unfold State.logEnergy
  simp (disch := first | decide | exact fun _ => ⟨rfl, rfl⟩) only [FusesKept, fuses_ite, State.log_keeps,
    State.updBalance_keeps, State.updNv_fuses, FusesKept.refl, implies_true, and_self]

theorem State.saveDemand_fuses : FusesKept s u.saveDemand ↔ FusesKept s u := by
  refine fuses_drop ?_
  unfold State.saveDemand
  simp (disch := first | decide | exact fun _ => ⟨rfl, rfl⟩) only [FusesKept, State.updNv_fuses, FusesKept.refl]

theorem State.saveServices_fuses : FusesKept s u.saveServices ↔ FusesKept s u := by
  refine fuses_drop ?_
  unfold State.saveServices
  simp (disch := first | decide | exact fun _ => by split <;> exact ⟨rfl, rfl⟩) only [FusesKept, fuses_ite,
    State.updNv_fuses, State.updServices_keeps, FusesKept.refl, implies_true, and_self]

theorem State.flushTrace_fuses : FusesKept s u.flushTrace ↔ FusesKept s u := by
  refine fuses_drop ?_
  unfold State.flushTrace
  refine (fuses_foldl (fun v e => ?_) _).mpr ?_
  all_goals simp (disch := decide) only [FusesKept, State.updLogs_keeps, State.flushLog_fuses, FusesKept.refl]

theorem State.demandPending_fuses : FusesKept s u.demandPending ↔ FusesKept s u := by
  refine fuses_drop ?_
  unfold State.demandPending
  simp (disch := decide) only [FusesKept, State.saveDemand_fuses, State.updKeeper_keeps, FusesKept.refl]

theorem State.lockoutCopies_fuses : FusesKept s u.lockoutCopies ↔ FusesKept s u := by
  refine fuses_drop ?_
  unfold State.lockoutCopies
  simp (disch := first | decide | exact fun _ => ⟨rfl, rfl⟩) only [FusesKept, fuses_ite, State.updNv_fuses,
    State.updKeeper_keeps, State.logLockout_keeps, State.raise_keeps, State.demandPending_fuses, State.lockPin_keeps,
    FusesKept.refl, implies_true, and_self]

theorem State.chooseSlot_fuses : FusesKept s u.chooseSlot ↔ FusesKept s u := by
  refine fuses_drop ?_
  unfold State.chooseSlot
  split <;> simp (disch := first | decide | exact chosenSlot_guarded _ _) only [FusesKept, fuses_ite, State.raise_keeps,
    State.updKeeper_keeps, State.updNv_fuses, State.updDev_keeps, FusesKept.refl, implies_true, and_self]

theorem State.probeRecords_fuses : FusesKept s u.probeRecords ↔ FusesKept s u := by
  have slots (c : Nat → Bool) (bs : Nat → List Byte) (v : State) (k : Nat) :
      Keeps offNv v (if c k then v.log 0x04 (bs k) else v) := by
    simp (disch := decide) only [keeps_ite_iff, State.log_keeps, Keeps.refl, implies_true, and_self]
  refine fuses_drop ?_
  unfold State.probeRecords
  simp (disch := first | decide | exact fun _ => ⟨rfl, rfl⟩) only [FusesKept, fuses_ite, State.updNv_fuses,
    keeps_foldl_iff (slots _ _), FusesKept.refl, implies_true, and_self]

theorem State.logNow_fuses (t : Byte) (ps : List (List Byte)) : FusesKept s (u.logNow t ps) ↔ FusesKept s u := by
  refine fuses_foldl (fun v e => ?_) _
  simp (disch := decide) only [FusesKept, State.flushLog_fuses, State.log_keeps, FusesKept.refl]

theorem State.entryRecords_fuses (rms : List Nat) : FusesKept s (u.entryRecords rms) ↔ FusesKept s u := by
  refine fuses_drop ?_
  unfold State.entryRecords
  simp (disch := decide) only [FusesKept, State.flushLog_fuses, State.endAllReactions_keeps, State.trace_keeps,
    State.logNow_fuses, State.saveServices_fuses, State.logSummary_keeps, State.logTotals_keeps, State.saveDemand_fuses,
    State.logEnergy_fuses, State.flushTrace_fuses, FusesKept.refl]

theorem State.breach_fuses (cause item : Nat) (reading limit : Int) (lock : Option Nat) :
    FusesKept s (u.breach cause item reading limit lock) ↔ FusesKept s u := by
  refine fuses_drop ?_
  unfold State.breach
  simp (disch := decide) only [FusesKept, fuses_ite, State.trip_fuses, State.headOpens_keeps, State.sendTrumpWords_keeps,
    FusesKept.refl, implies_true, and_self]

theorem State.checkCodes_fuses (lim : Int × Int) (cs : List Int) (hi item : Nat) (lockHi lockLo : Option Nat) :
    FusesKept s (u.checkCodes lim cs hi item lockHi lockLo) ↔ FusesKept s u := by
  refine fuses_drop ?_
  unfold State.checkCodes
  repeat' split
  all_goals simp (disch := decide) only [FusesKept, State.breach_fuses, FusesKept.refl]

theorem State.checkCells_fuses : FusesKept s u.checkCells ↔ FusesKept s u := by
  unfold State.checkCells
  split
  · exact Iff.rfl
  · refine fuses_foldl (fun v k => ?_) _
    exact (State.checkCodes_fuses ..).mpr (FusesKept.refl v)

theorem State.checkNtc_fuses : FusesKept s u.checkNtc ↔ FusesKept s u := by
  unfold State.checkNtc
  split
  · exact Iff.rfl
  · refine fuses_foldl (fun v k => ?_) _
    simp (disch := decide) only [FusesKept, fuses_ite, State.checkCodes_fuses, FusesKept.refl, implies_true, and_self]

theorem State.takeReadings_fuses (r : ApertureReadings) : FusesKept s (u.takeReadings r) ↔ FusesKept s u := by
  have cells (v : State) (k : Nat) : Keeps offNv v (State.takeCell r v k) :=
    (State.takeCell_keeps (by decide) r k).mpr (Keeps.refl _ v)
  refine fuses_drop ?_
  unfold State.takeReadings
  simp (disch := decide) only [FusesKept, State.updMeas_keeps, keeps_foldl_iff cells, State.faultNtc_keeps,
    State.takeCurrent_keeps, State.checkNtc_fuses, State.checkCells_fuses, State.checkDie_keeps, State.checkRefp_keeps,
    State.checkStack_keeps, State.releaseComparators_keeps, State.endJobs_keeps, State.updDev_keeps, FusesKept.refl]

theorem State.wireFails_fuses : FusesKept s u.wireFails ↔ FusesKept s u := by
  refine fuses_drop ?_
  unfold State.wireFails
  simp (disch := decide) only [FusesKept, fuses_ite, State.updProbes_keeps, State.raise_keeps, State.probeRecords_fuses,
    FusesKept.refl, implies_true, and_self]

theorem State.checkProbes_fuses : FusesKept s u.checkProbes ↔ FusesKept s u := by
  unfold State.checkProbes
  split
  · exact Iff.rfl
  · refine fuses_foldl (fun v k => ?_) _
    simp (disch := decide) only [FusesKept, fuses_ite, State.checkCodes_fuses, FusesKept.refl, implies_true, and_self]

theorem State.writeRecord_fuses (t : Byte) (payload : List Byte) :
    FusesKept s (u.writeRecord t payload) ↔ FusesKept s u := by
  refine fuses_drop ?_
  unfold State.writeRecord
  simp (disch := decide) only [FusesKept, fuses_ite, State.putRecord_keeps, State.eraseSpare_fuses, FusesKept.refl,
    implies_true, and_self]

theorem State.breachL1_fuses (cause item addr : Nat) (reading limit : Int) (lock : Option Nat) :
    FusesKept s (u.breachL1 cause item addr reading limit lock) ↔ FusesKept s u := by
  refine fuses_drop ?_
  unfold State.breachL1
  simp (disch := decide) only [FusesKept, fuses_ite, State.trip_fuses, State.sendTrumpWords_keeps, FusesKept.refl,
    implies_true, and_self]

theorem State.checkL1_fuses (lim : Int × Int) (c : Int) (hi lo item addr : Nat) (lockHi lockLo : Option Nat) :
    FusesKept s (u.checkL1 lim c hi lo item addr lockHi lockLo) ↔ FusesKept s u := by
  refine fuses_drop ?_
  unfold State.checkL1
  simp (disch := decide) only [FusesKept, fuses_ite, State.breachL1_fuses, FusesKept.refl, implies_true, and_self]

theorem State.checkReply_fuses (addr : Nat) (bs : List Byte) : FusesKept s (u.checkReply addr bs) ↔ FusesKept s u := by
  refine fuses_drop ?_
  unfold State.checkReply
  split
  · exact FusesKept.refl u
  · refine (fuses_foldl (fun v i => ?_) _).mpr ((fuses_foldl (fun v c => ?_) _).mpr (FusesKept.refl u))
    · exact (State.checkL1_fuses ..).mpr (FusesKept.refl v)
    · exact (State.checkL1_fuses ..).mpr (FusesKept.refl v)

theorem State.writeCensus_fuses : FusesKept s u.writeCensus ↔ FusesKept s u := by
  refine fuses_drop ?_
  unfold State.writeCensus
  simp (disch := first | decide | exact fun _ => ⟨rfl, rfl⟩) only [FusesKept, fuses_ite, State.logSeal_keeps,
    State.updNv_fuses, FusesKept.refl, implies_true, and_self]

theorem State.demandUntilBoot_fuses : FusesKept s u.demandUntilBoot ↔ FusesKept s u := by
  refine fuses_drop ?_
  unfold State.demandUntilBoot
  simp (disch := decide) only [FusesKept, State.updSafety_keeps, State.demandPending_fuses, FusesKept.refl]

theorem State.commitSeal_fuses (r : SealRecord) : FusesKept s (u.commitSeal r) ↔ FusesKept s u := by
  refine fuses_drop ?_
  unfold State.commitSeal
  simp (disch := first | decide | exact fun _ => ⟨rfl, rfl⟩) only [FusesKept, State.updNv_fuses, State.writeCensus_fuses,
    State.logSealOf_keeps, State.demandUntilBoot_fuses, State.updDealer_keeps, FusesKept.refl]

theorem State.tryCommit_fuses : FusesKept s u.tryCommit ↔ FusesKept s u := by
  refine fuses_drop ?_
  unfold State.tryCommit
  split <;> simp (disch := decide) only [FusesKept, fuses_ite, State.commitSeal_fuses, FusesKept.refl, implies_true,
    and_self]

theorem State.startSealing_fuses : FusesKept s u.startSealing ↔ FusesKept s u := by
  refine fuses_drop ?_
  unfold State.startSealing
  split <;> simp (disch := first | decide | exact fun _ => ⟨rfl, rfl⟩) only [FusesKept, State.logSeal_keeps,
    State.logSealOf_keeps, State.updNv_fuses, State.updDealer_keeps, State.tryCommit_fuses, FusesKept.refl]

theorem State.discardPending_fuses : FusesKept s u.discardPending ↔ FusesKept s u := by
  refine fuses_drop ?_
  unfold State.discardPending
  split <;> simp (disch := first | decide | exact fun _ => ⟨rfl, rfl⟩) only [FusesKept, State.logSealOf_keeps,
    State.updNv_fuses, FusesKept.refl]

theorem State.handleSealChunk_fuses (ws : List Word) : FusesKept s (u.handleSealChunk ws) ↔ FusesKept s u := by
  refine fuses_drop ?_
  unfold State.handleSealChunk
  dsimp only
  repeat' split
  all_goals simp (disch := first | decide | exact fun _ => ⟨rfl, rfl⟩) only [FusesKept, State.updRing_keeps,
    State.logSealOf_keeps, State.updNv_fuses, State.send_keeps, FusesKept.refl]

theorem State.handleSealConfirm_fuses (src : Nat) (ws : List Word) :
    FusesKept s (u.handleSealConfirm src ws) ↔ FusesKept s u := by
  refine fuses_drop ?_
  unfold State.handleSealConfirm
  split <;> simp (disch := decide) only [FusesKept, fuses_ite, State.tryCommit_fuses, State.updDealer_keeps,
    FusesKept.refl, implies_true, and_self]

theorem State.pendingAtBeacon_fuses (first : Bool) (number : Word) (chk : BitVec 24) :
    FusesKept s (u.pendingAtBeacon first number chk) ↔ FusesKept s u := by
  refine fuses_drop ?_
  unfold State.pendingAtBeacon
  split <;> simp (disch := first | decide | exact fun _ => ⟨rfl, rfl⟩) only [FusesKept, fuses_ite,
    State.writeCensus_fuses, State.logSealOf_keeps, State.updNv_fuses, State.discardPending_fuses, FusesKept.refl,
    implies_true, and_self]

theorem State.clearLockout_fuses (holdMs : Nat) : FusesKept s (u.clearLockout holdMs) ↔ FusesKept s u := by
  refine fuses_drop ?_
  unfold State.clearLockout
  simp (disch := first | decide | exact fun _ => ⟨rfl, rfl⟩) only [FusesKept, State.logLockout_keeps, State.updNv_fuses,
    State.updKeeper_keeps, State.updDealer_keeps, State.lockPin_keeps, State.demandUntilBoot_fuses, FusesKept.refl]

theorem State.interlockChanged_fuses (before : Word) : FusesKept s (u.interlockChanged before) ↔ FusesKept s u := by
  refine fuses_drop ?_
  unfold State.interlockChanged
  simp (disch := decide) only [FusesKept, fuses_ite, State.trip_fuses, State.headOpens_keeps, State.sendInterlock_keeps,
    FusesKept.refl, implies_true, and_self]

theorem State.writeBlock_fuses (n total : Nat) (bytes : List Byte) :
    FusesKept s (u.writeBlock n total bytes) ↔ FusesKept s u := by
  refine fuses_drop ?_
  unfold State.writeBlock
  simp (disch := first | decide | exact fun _ => ⟨rfl, rfl⟩ | exact setSlot_guarded _ _) only [FusesKept, fuses_ite,
    State.updNv_fuses, State.updService_keeps, State.logImage_keeps, keeps_flash, FusesKept.refl, implies_true, and_self]

theorem State.writeBlocks_fuses (total n : Nat) (xs : List (List Byte)) :
    FusesKept s (State.writeBlocks total n xs u) ↔ FusesKept s u := by
  induction xs generalizing u n with
  | nil => exact Iff.rfl
  | cons x xs ih =>
    unfold State.writeBlocks
    split
    · exact (ih _).trans (State.writeBlock_fuses ..)
    · exact Iff.rfl

theorem State.handleImageBlock_fuses (ws : List Word) : FusesKept s (u.handleImageBlock ws) ↔ FusesKept s u := by
  refine fuses_drop ?_
  unfold State.handleImageBlock
  simp (disch := first | decide | exact fun _ => ⟨rfl, rfl⟩) only [FusesKept, fuses_ite, State.sendImageStatus_keeps,
    State.logImage_keeps, State.updNv_fuses, State.writeBlock_fuses, FusesKept.refl, implies_true, and_self]

theorem State.arm_fuses (ringScope : Bool) : FusesKept s (u.arm ringScope) ↔ FusesKept s u := by
  refine fuses_drop ?_
  unfold State.arm
  simp (disch := first | decide | exact fun _ => ⟨rfl, rfl⟩) only [FusesKept, fuses_ite, State.logImage_keeps,
    State.updService_keeps, State.updNv_fuses, State.sendCommitBlock_keeps, FusesKept.refl, implies_true, and_self]

theorem State.armPending_fuses : FusesKept s u.armPending ↔ FusesKept s u := by
  refine fuses_drop ?_
  unfold State.armPending
  split <;> simp (disch := decide) only [FusesKept, fuses_ite, State.arm_fuses, FusesKept.refl, implies_true, and_self]

theorem State.actTrump_fuses (src cause : Nat) (ws : List Word) :
    FusesKept s (u.actTrump src cause ws) ↔ FusesKept s u := by
  refine fuses_drop ?_
  unfold State.actTrump
  dsimp only
  repeat' split
  all_goals simp (disch := decide) only [FusesKept, State.trip_fuses, State.updPos_keeps, State.updStr_keeps, FusesKept.refl]

theorem State.handleTrump_fuses (src : BitVec 6) (deal : Word) (ws : List Word) :
    FusesKept s (u.handleTrump src deal ws) ↔ FusesKept s u := by
  refine fuses_drop ?_
  unfold State.handleTrump
  simp (disch := decide) only [FusesKept, fuses_ite, State.traceTrump_keeps, State.updDealer_keeps, State.updPins_keeps,
    State.actTrump_fuses, FusesKept.refl, implies_true, and_self]

theorem State.consume_fuses (p : Port) (ft : FrameType) (f : RxFrame) (t : Nat) :
    FusesKept s (u.consume p ft f t) ↔ FusesKept s u := by
  refine fuses_drop ?_
  unfold State.consume
  dsimp only
  repeat' split
  all_goals simp (disch := decide) only [FusesKept, State.handleMeld_keeps, State.handleTrump_fuses,
    State.handleLifeline_keeps, State.handleCall_keeps, State.handleAnswer_keeps, State.handleSealChunk_fuses,
    State.handleSealConfirm_fuses, State.handleRejoin_keeps, State.handleImageBlock_fuses, State.handleImageStatus_keeps,
    State.handleLogRequest_keeps, State.handleLogRecords_keeps, FusesKept.refl]

theorem State.take_fuses (p : Port) (ft : FrameType) (f : RxFrame) (t : Nat) :
    FusesKept s (u.take p ft f t) ↔ FusesKept s u := by
  refine fuses_drop ?_
  unfold State.take
  simp (disch := decide) only [FusesKept, fuses_ite, State.updPort_keeps, State.discard_keeps, State.countDropped_keeps,
    State.noteFrame_keeps, State.consume_fuses, State.relayLifeline_keeps, State.relay_keeps, FusesKept.refl,
    implies_true, and_self]

theorem State.drain_fuses (p : Port) (n : Nat) : FusesKept s (State.drain p n u) ↔ FusesKept s u := by
  induction n generalizing u with
  | zero => exact Iff.rfl
  | succ n ih =>
    unfold State.drain
    dsimp only
    split
    · refine ih.trans (fuses_drop ?_)
      simp (disch := decide) only [FusesKept, State.updPort_keeps, FusesKept.refl]
    · split
      · exact Iff.rfl
      · refine ih.trans (fuses_drop ?_)
        simp (disch := decide) only [FusesKept, State.take_fuses, State.updPort_keeps, FusesKept.refl]

theorem State.drainAll_fuses (p : Port) : FusesKept s (u.drainAll p) ↔ FusesKept s u := by
  refine fuses_drop ?_
  unfold State.drainAll
  simp (disch := decide) only [FusesKept, fuses_ite, State.drain_fuses, State.updPort_keeps, FusesKept.refl,
    implies_true, and_self]

theorem State.inOrder_fuses (p : Port) (ft : FrameType) (f : RxFrame) (t : Nat) :
    FusesKept s (u.inOrder p ft f t) ↔ FusesKept s u := by
  refine fuses_drop ?_
  unfold State.inOrder
  simp (disch := decide) only [FusesKept, fuses_ite, State.updPort_keeps, State.drainAll_fuses, State.take_fuses,
    State.discard_keeps, FusesKept.refl, implies_true, and_self]

theorem State.receive_fuses (p : Port) (ft : FrameType) (f : RxFrame) (t : Nat) :
    FusesKept s (u.receive p ft f t) ↔ FusesKept s u := by
  refine fuses_drop ?_
  unfold State.receive
  simp (disch := decide) only [FusesKept, fuses_ite, State.endFeed_keeps, State.inOrder_fuses, FusesKept.refl,
    implies_true, and_self]

theorem State.receiveCall_fuses (sub : Nat) (p : Port) (f : RxFrame) :
    FusesKept s (u.receiveCall sub p f) ↔ FusesKept s u := by
  refine fuses_drop ?_
  unfold State.receiveCall
  simp (disch := decide) only [FusesKept, fuses_ite, State.receive_fuses, FusesKept.refl, implies_true, and_self]

theorem State.receiveService_fuses (sub : Nat) (p : Port) (f : RxFrame) :
    FusesKept s (u.receiveService sub p f) ↔ FusesKept s u := by
  refine fuses_drop ?_
  unfold State.receiveService
  simp (disch := decide) only [FusesKept, fuses_ite, State.receive_fuses, FusesKept.refl, implies_true, and_self]

theorem State.copyLock_fuses (lock : Bool) : FusesKept s (u.copyLock lock) ↔ FusesKept s u := by
  refine fuses_drop ?_
  unfold State.copyLock
  simp (disch := first | decide | exact fun _ => ⟨rfl, rfl⟩) only [FusesKept, State.updNv_fuses, State.updKeeper_keeps,
    FusesKept.refl]

theorem State.acceptBeacon_fuses (p : Port) (f : RxFrame) (t : Nat) :
    FusesKept s (u.acceptBeacon p f t) ↔ FusesKept s u := by
  refine fuses_drop ?_
  unfold State.acceptBeacon
  simp (disch := decide) only [FusesKept, fuses_ite, State.enterDeal_keeps, State.updRing_keeps,
    State.notePosition_keeps, State.beaconSide_keeps, State.copyLock_fuses, State.pendingAtBeacon_fuses,
    State.takeBaseline_keeps, State.endJobs_keeps, State.stringCommand_keeps, State.updDev_keeps, FusesKept.refl,
    implies_true, and_self]


theorem loseItem_guarded (i : FlashData) (n : NonVolatile) :
    (loseItem i n).fuses = n.fuses ∧ (loseItem i n).lifeCycle = n.lifeCycle := by
  cases i <;> exact ⟨rfl, rfl⟩

theorem State.serve_fuses {f : State → State} (h : ∀ t, FusesKept t (f t)) (function tag : Byte) :
    FusesKept s (s.serve function tag f) := by
  refine fuses_ite.mpr ⟨fun _ => FusesKept.refl s, fun _ => fuses_ite.mpr ⟨fun _ => ?_, fun _ => h s⟩⟩
  simp (disch := decide) only [FusesKept, State.respond_keeps, FusesKept.refl]

/-! ### Every command -/

/-- A command whose frame leaves the non-volatile memory out keeps the fuses and the life-cycle state. -/
theorem fuses_of_frame (c : Instr) (s : State) (h : covers c.frame offNv = true) : Runs c s (FusesKept s) := by
  obtain ⟨t, run, frame⟩ := exec_frame c s
  exact ⟨t, run, s, ⟨rfl, rfl⟩, frame.mono h⟩

theorem execBeaconReceived_fuses (p : Port) (f : RxFrame) (at_ : Nat) (cut : Option Bool) :
    Runs (.beaconReceived p f at_ cut) s (FusesKept s) := by
  refine runs_next rfl ?_
  simp (disch := decide) only [FusesKept, fuses_ite, FusesKept.refl, implies_true, and_self, State.endFeed_keeps,
    State.updPort_keeps, State.countDropped_keeps, State.beaconAtDealer_keeps, State.acceptBeacon_fuses,
    State.relayBeacon_keeps, State.endBeaconCopy_keeps]

theorem execDealClosure_fuses :
    Runs (.dealClosure) s (FusesKept s) := by
  have close (t : State) (i : Nat) : Keeps offNv t (State.closePosition t i) :=
    (State.closePosition_keeps (by decide) i).mpr (Keeps.refl _ t)
  have rejoin (t : State) (i : Nat) : Keeps offNv t (State.actRejoin t i) :=
    (State.actRejoin_keeps (by decide) i).mpr (Keeps.refl _ t)
  refine runs_next rfl ?_
  simp (disch := decide) only [FusesKept, fuses_ite, FusesKept.refl, implies_true, and_self, State.updDealer_keeps,
    State.updVehicle_keeps, keeps_foldl_iff close, keeps_foldl_iff rejoin, State.raiseIf_keeps,
    State.degradedClosure_fuses, State.pace_keeps, State.servePack_keeps, State.coreLost_keeps, State.closurePins_keeps,
    State.armPending_fuses, State.stagePublication_keeps]

theorem execApertureClose_fuses (r : ApertureReadings) :
    Runs (.apertureClose r) s (FusesKept s) := by
  refine runs_next rfl ?_
  simp (disch := decide) only [FusesKept, fuses_ite, FusesKept.refl, implies_true, and_self, State.takeReadings_fuses,
    State.publishedWord_keeps, State.assemble_keeps, State.legacyMelds_keeps, State.updBist_keeps,
    State.afterAperture_keeps]

theorem execStorageWatch_fuses (r : WatchReadings) :
    Runs (.storageWatch r) s (FusesKept s) := by
  refine runs_next rfl ?_
  simp (disch := first | decide | exact fun _ => ⟨rfl, rfl⟩) only [FusesKept, fuses_ite, FusesKept.refl, implies_true,
    and_self, State.updKeeper_keeps, State.writeRecord_fuses, State.updNv_fuses]

theorem execAgeingMeasurement_fuses (ratioA ratioB dropConv dropSdr : Nat) :
    Runs (.ageingMeasurement ratioA ratioB dropConv dropSdr) s (FusesKept s) := by
  have worn (g : Nat → Bool) (t : State) (i : Nat) : Keeps offNv t
      (if g i then t.raise (if i < 2 then .balp else .bala) (if i < 2 then 2 else 4) else t) := by
    simp (disch := decide) only [keeps_ite_iff, Keeps.refl, implies_true, and_self, State.raise_keeps]
  refine runs_next rfl ?_
  simp (disch := first | decide | exact fun _ => ⟨rfl, rfl⟩) only [FusesKept, fuses_ite, FusesKept.refl, implies_true,
    and_self, State.updNv_fuses, State.updBalance_keeps, State.logAgeing_keeps, keeps_foldl_iff (worn _)]

theorem execFlashEccError_fuses (kind : FlashError) :
    Runs (.flashEccError kind) s (FusesKept s) := by
  refine runs_next rfl ?_
  cases kind <;>
    simp (disch := first | decide | exact loseItem_guarded _) only [FusesKept, fuses_ite, FusesKept.refl, implies_true,
      and_self, State.raise_keeps, State.fenceCore_keeps, State.updNv_fuses]

theorem execOfflineTestEnd_fuses (slice : Nat) (signatures : List (BitVec 32)) (failRows : List Nat) :
    Runs (.offlineTestEnd slice signatures failRows) s (FusesKept s) := by
  refine runs_next rfl ?_
  simp (disch := first | decide | exact fun _ => ⟨rfl, rfl⟩) only [FusesKept, fuses_ite, FusesKept.refl, implies_true,
    and_self, State.abandonTest_keeps, State.updNv_fuses, State.updKeeper_keeps, State.resetDomains_keeps]

theorem execKeeperSourceSwitch_fuses (vmod lfs bkup : Nat) (dark : Bool) :
    Runs (.keeperSourceSwitch vmod lfs bkup dark) s (FusesKept s) := by
  have renewed (t : State) (k : Keeper) : FusesKept t { t with keeper := k } := fusesKept_iff.mpr ⟨rfl, rfl⟩
  refine runs_next rfl ?_
  split
  · exact (fuses_drop (renewed _ _)).mpr (by simp (disch := decide) only [FusesKept, State.powerDown_keeps, FusesKept.refl])
  all_goals simp (disch := decide) only [FusesKept, fuses_ite, FusesKept.refl, implies_true, and_self,
    State.powerDown_keeps, State.updKeeper_keeps]

theorem execStrapLatch_fuses (reads : BootReads) (first second : List Rat) :
    Runs (.strapLatch reads first second) s (FusesKept s) := by
  refine runs_next rfl ?_
  simp (disch := decide) only [FusesKept, fuses_ite, FusesKept.refl, implies_true, and_self, State.raiseInvalid_keeps,
    State.updPort_keeps, State.updSupply_keeps, State.updProbes_keeps, State.updClocks_keeps, State.updRing_keeps,
    State.updDev_keeps, State.updKeeper_keeps, State.updStraps_keeps, State.bootChecks_keeps]

theorem execStorageEntry_fuses (x y z : Nat) :
    Runs (.storageEntry x y z) s (FusesKept s) := by
  refine runs_next rfl ?_
  generalize s.dev.wakePending = wake
  obtain _ | _ | p := wake <;>
    simp (disch := decide) only [FusesKept, fuses_ite, FusesKept.refl, implies_true, and_self, State.entryRecords_fuses,
      State.updKeeper_keeps, State.updLife_keeps, State.powerDown_keeps, State.wake_keeps, State.carrierWake_keeps]

theorem execVauxValid_fuses : Runs .vauxValid s (FusesKept s) := by
  refine runs_next rfl (fuses_ite.mpr ⟨fun _ => ?_, fun _ => ?_⟩)
  · simp (disch := decide) only [FusesKept, State.updKeeper_keeps, State.updSupply_keeps, FusesKept.refl]
  · split <;>
      simp (disch := decide) only [FusesKept, fuses_ite, FusesKept.refl, implies_true, and_self, State.updDev_keeps,
        State.updPort_keeps, State.beginBoot_keeps, State.updKeeper_keeps, State.updSupply_keeps, State.updServices_keeps]

/-- Every command but FUSE_BLOW and the start of the firmware keeps the fuses and the life-cycle state. A command whose frame
leaves the non-volatile memory out does so; each other case runs through the operations its meaning is made of. -/
theorem exec_fuses (c : Instr) (s : State) (fuse : c ≠ .fuseBlow) (start : ∀ u mv, c ≠ .firmwareStart u mv) :
    Runs c s (FusesKept s) := by
  cases c with
  | fuseBlow => exact absurd rfl fuse
  | firmwareStart u mv => exact absurd rfl (start u mv)
  -- Frames, deals and the beacon
  | beaconReceived p f at_ cut => exact execBeaconReceived_fuses p f at_ cut
  | dealClosure => exact execDealClosure_fuses
  | lifelineReceived | skip | meldReceived | trumpReceived | call | answer | sealChunk | sealConfirm | rejoin | imageBlock
  | imageStatus | logRequest | logRecords =>
    refine runs_next rfl ?_
    simp (disch := decide) only [FusesKept, fuses_ite, FusesKept.refl, implies_true, and_self, State.feedAnswered_keeps,
      State.inOrder_fuses, State.updPort_keeps, State.take_fuses, State.endFeed_keeps, State.drainAll_fuses,
      State.receive_fuses, State.receiveCall_fuses, State.receiveService_fuses]
  -- Measurement and level-1 devices
  | apertureClose r => exact execApertureClose_fuses r
  | frameTick | slotWord | probeFrameEnd | probeDiscovery | probeBusFault | pwvddLimit =>
    have close (t : State) (k : Nat) : Keeps offNv t (State.endSlot t k) :=
      (State.endSlot_keeps (by decide) k).mpr (Keeps.refl _ t)
    have pass (t : State) (x : ProbeId) : Keeps offNv t (State.probePass t x) :=
      (State.probePass_keeps (by decide) x).mpr (Keeps.refl _ t)
    refine runs_next rfl ?_
    simp (disch := decide) only [FusesKept, fuses_ite, FusesKept.refl, implies_true, and_self, State.updProbes_keeps,
      State.updSlot_keeps, State.raiseIf_keeps, keeps_foldl_iff close, State.checkProbes_fuses, keeps_foldl_iff pass,
      State.censusMissing_keeps, State.probeRecords_fuses, State.wireFails_fuses]
  | l1Convert | l1Read | l1Reply | l1ReplyTimeout =>
    refine runs_next rfl ?_
    simp (disch := decide) only [FusesKept, fuses_ite, FusesKept.refl, implies_true, and_self, State.updPort_keeps,
      State.raise_keeps, State.updDealer_keeps, State.checkReply_fuses, State.raiseIf_keeps]
  | storageWatch r => exact execStorageWatch_fuses r
  -- Balancing
  | acvPeakTimeout =>
    refine runs_next rfl ?_
    split <;> simp (disch := decide) only [FusesKept, FusesKept.refl, State.updBalance_keeps, State.raise_keeps]
  | ageingMeasurement ratioA ratioB dropConv dropSdr => exact execAgeingMeasurement_fuses ratioA ratioB dropConv dropSdr
  | commandTimeout | bleedCurrentLimit | bleedCurrentCheck | bleedLeakage | switchingPeriod | acvPeak | acvZeroCurrent
  | acvDesaturation | acvHardShort | shootThrough | selectionConfirmed | selLevelTimeout | balTrip | balTripInactive =>
    refine runs_next rfl ?_
    simp (disch := decide) only [FusesKept, fuses_ite, FusesKept.refl, implies_true, and_self, State.endJobs_keeps,
      State.updBalance_keeps, State.raise_keeps, State.fenceSwitch_keeps, State.raiseIf_keeps, State.fenceAcv_keeps,
      State.latchTrip_keeps, State.noteReasons_keeps]
  -- Faults and clocks
  | flashEccError kind => exact execFlashEccError_fuses kind
  | checkIn | checkInDeadline | lockstepMismatch | clkinFail | pllLock | pllHoldEnd | kclkCalibration | sramEccError
  | reactionTimeout | idleWatchdogService | clockMonitor | pllLockLost | bistSupplyMonitor =>
    refine runs_next rfl ?_
    simp (disch := decide) only [FusesKept, fuses_ite, FusesKept.refl, implies_true, and_self, State.updDev_keeps,
      State.fenceCore_keeps, State.raise_keeps, State.updClocks_keeps, State.updVehicle_keeps, State.updKeeper_keeps,
      State.endReaction_keeps, State.updRing_keeps, State.abandonTest_keeps, State.abandonSegment_keeps, State.raiseIf_keeps]
  | bistReqRelease =>
    refine runs_next rfl ?_
    simp (disch := decide) only [FusesKept, fuses_ite, FusesKept.refl, implies_true, and_self, State.updBist_keeps,
      State.beginTest_keeps, State.raise_keeps]
  | offlineTestEnd slice signatures failRows => exact execOfflineTestEnd_fuses slice signatures failRows
  -- Supplies and power states
  | keeperSourceSwitch vmod lfs bkup dark => exact execKeeperSourceSwitch_fuses vmod lfs bkup dark
  | vauxValid => exact execVauxValid_fuses
  | wakeCarrierDetect | resetNRelease | buckStart =>
    refine runs_next rfl ?_
    split <;>
      simp (disch := decide) only [FusesKept, fuses_ite, FusesKept.refl, implies_true, and_self, State.updDev_keeps,
        State.updLife_keeps, State.updPort_keeps, State.carrierWake_keeps, State.beginBoot_keeps, State.bootChecks_keeps,
        State.wake_keeps]
  | brownOut | buckStop | powerGoodOn | powerGoodOff | watchdogExpiry | ringReset | resetNAssert =>
    refine runs_next rfl ?_
    simp (disch := decide) only [FusesKept, fuses_ite, FusesKept.refl, implies_true, and_self, State.resetDomains_keeps,
      State.enterLifeline_keeps, State.powerDown_keeps, State.updLife_keeps, State.carrierOut_keeps]
  | strapLatch reads first second => exact execStrapLatch_fuses reads first second
  | storageEntry x y z => exact execStorageEntry_fuses x y z
  -- Safety function and sealing
  | sealingTimeout =>
    refine runs_next rfl ?_
    repeat' split
    all_goals simp (disch := decide) only [FusesKept, FusesKept.refl, State.logSeal_keeps, State.updDealer_keeps,
      State.updRing_keeps, State.discardPending_fuses]
  | lockClrPress | lockClrRelease =>
    refine runs_next rfl ?_
    simp (disch := decide) only [FusesKept, fuses_ite, FusesKept.refl, implies_true, and_self, State.updSafety_keeps,
      State.traceClear_keeps, State.startSealing_fuses, State.clearLockout_fuses, State.logLockout_keeps]
  | testPulse | interlockOpen | interlockClosed | interlockTrump | demandOpeningComplete | demandIntervalExpiry
  | degradedTimeExpiry | degradedTimerClear =>
    refine runs_next rfl ?_
    simp (disch := decide) only [FusesKept, fuses_ite, FusesKept.refl, implies_true, and_self, State.judgeSource_keeps,
      State.judgeSamples_keeps, State.interlockChanged_fuses, State.updSafety_keeps, State.sendInterlock_keeps,
      State.updKeeper_keeps, State.saveDemand_fuses, State.demandPending_fuses, State.trip_fuses]
  -- Logs and service port
  | logWrite =>
    refine runs_next rfl ?_
    split <;>
      simp (disch := decide) only [FusesKept, fuses_ite, FusesKept.refl, implies_true, and_self, State.popRecord_keeps,
        State.putRecord_keeps, State.spoilSlot_keeps, State.raise_keeps]
  | energyRecord | countsRecord | serviceStateRecord | sectorErase | shockEventOpen | shockEventClose | shockSummary
  | packTotals =>
    refine runs_next rfl ?_
    simp (disch := decide) only [FusesKept, fuses_ite, FusesKept.refl, implies_true, and_self, State.logEnergy_fuses,
      State.saveDemand_fuses, State.logCounts_keeps, State.saveServices_fuses, State.eraseSpare_fuses, keeps_flash,
      State.updDev_keeps, State.raise_keeps, State.updLogs_keeps, State.log_keeps, State.logSummary_keeps,
      State.logTotals_keeps]
  | ident | logRead | imageLoad | imageCommit =>
    refine runs_next rfl (State.serve_fuses (fun t => ?_) _ _)
    simp (disch := decide) only [FusesKept, fuses_ite, FusesKept.refl, implies_true, and_self, State.seqBounds_keeps,
      State.respond_keeps, State.readOwn_keeps, State.readRemote_keeps, State.writeBlocks_fuses, State.updService_keeps,
      State.logImage_keeps, State.arm_fuses]
  | invalidServiceRequest =>
    refine runs_next rfl (fuses_ite.mpr ⟨fun _ => State.serve_fuses (fun t => ?_) _ _, fun _ => FusesKept.refl s⟩)
    simp (disch := decide) only [FusesKept, FusesKept.refl, State.respond_keeps]
  | remoteTimeout =>
    refine runs_next rfl ?_
    split <;>
      simp (disch := decide) only [FusesKept, fuses_ite, FusesKept.refl, implies_true, and_self, State.answer_keeps]
  | imageStatusSend | requestGapTimeout | serviceKeyRemoved | imageVerified =>
    refine runs_next rfl ?_
    simp (disch := first | decide | exact setSlot_guarded _ _) only [FusesKept, fuses_ite, FusesKept.refl, implies_true,
      and_self, State.sendImageStatus_keeps, State.updService_keeps, State.logImage_keeps, State.answer_keeps,
      State.updNv_fuses, State.statusOfCheck_keeps]
  | _ => exact fuses_of_frame _ s rfl

/-- The start of the firmware keeps all but what a return token arms (R562). -/
theorem execFirmwareStart_fuses (boot : s.dev.phase = .boot) (latched : s.dev.strapped = true) (unpopulated : List Int)
    (mv : Nat) : Runs (.firmwareStart unpopulated mv) s (FusesKept s.armReturn) := by
  refine runs_next (execFirmwareStart_run boot latched mv) ?_
  unfold State.enterRun State.startCore State.checkBoot State.recordBoot State.noteBoot
  simp (disch := decide) only [FusesKept, fuses_ite, FusesKept.refl, implies_true, and_self, State.updPins_keeps,
    State.updSupply_keeps, State.updService_keeps, State.updDev_keeps, State.lockoutCopies_fuses, State.updKeeper_keeps,
    State.startChecks_keeps, State.imageRecords_keeps, State.log_keeps, State.probeRecords_fuses, State.bootRecords_keeps,
    State.restoreServices_keeps, State.updRing_keeps, State.restoreKeeper_keeps, State.bootLog_fuses, State.chooseSlot_fuses]

theorem State.armReturn_fuses : s.armReturn.nv.fuses = s.nv.fuses := by
  unfold State.armReturn
  split <;> rfl

theorem exec_nvFuses (c : Instr) (fuse : c ≠ .fuseBlow) : Runs c s fun t => t.nv.fuses = s.nv.fuses := by
  by_cases start : ∃ u mv, c = .firmwareStart u mv
  · obtain ⟨u, mv, rfl⟩ := start
    by_cases boots : s.dev.phase = .boot ∧ s.dev.strapped = true
    · obtain ⟨t, run, kept⟩ := execFirmwareStart_fuses boots.1 boots.2 u mv
      exact runs_next run ((fusesKept_iff.mp kept).fuses.trans State.armReturn_fuses)
    · refine runs_next (congrArg Host.Outcome.next (if_pos ?_)) rfl
      simpa only [Bool.not_eq_true', Bool.and_eq_false_imp, decide_eq_true_eq, not_and, Bool.not_eq_true] using boots
  · obtain ⟨t, run, kept⟩ := exec_fuses c s fuse fun u mv e => start ⟨u, mv, e⟩
    exact runs_next run (fusesKept_iff.mp kept).fuses

theorem execFuseBlow_lifeCycle : Runs .fuseBlow s fun t => t.nv.lifeCycle = s.nv.lifeCycle := by
  have logged (u : State) (n : Nat) (b : Bool) : (u.logImage n b).nv = u.nv :=
    ((State.logImage_keeps (G := [.logs]) (by decide) n b).mpr (Keeps.refl _ u)).group .nv (by decide)
  refine runs_next rfl ?_
  split
  · exact (congrArg NonVolatile.lifeCycle (logged ..)).trans rfl
  · rfl

theorem exec_nvLifeCycle (c : Instr) (start : ∀ u mv, c ≠ .firmwareStart u mv) :
    Runs c s fun t => t.nv.lifeCycle = s.nv.lifeCycle := by
  by_cases fuse : c = .fuseBlow
  · rw [fuse]
    exact execFuseBlow_lifeCycle
  · obtain ⟨t, run, kept⟩ := exec_fuses c s fuse start
    exact runs_next run (fusesKept_iff.mp kept).lifeCycle

end

/-- Settles O57: `exec_flash` for the flash; of all that writes the non-volatile memory only FUSE_BLOW touches the fuses, and
only the return token of a boot the life-cycle state. -/
theorem nonVolatileIsGuarded : Obligations.NonVolatileIsGuarded := by
  intro c s t run
  exact ⟨exec_flash run, fun fuse => (exec_nvFuses c fuse).next run, fun start => (exec_nvLifeCycle c start).next run⟩

end Sys2Proof.Machine

end
